-- ==== Sys2Proof/Word.lean ====
section
/-! DEFINITION. The words the links carry, and rows of eight and of four like things (bays, lines, bay links, causes; pools). -/

namespace Sys2Proof

/-- A byte on a link (R148). -/
abbrev Byte := BitVec 8

/-- Eight flags, bit k for member k (R154 field encodings). -/
abbrev Flags8 := BitVec 8

/-- Bays, rail sense lines and throttle lines are numbered 0 to 7, and bay n owns line n (00_scope.md, R1). -/
abbrev Bay := Fin 8

/-- Pools are numbered 0 to 3 (R104). -/
abbrev Pool := Fin 4

/-- Eight like things, one for each of the numbers 0 to 7. -/
structure Row8 (α : Type) where
  b0 : α
  b1 : α
  b2 : α
  b3 : α
  b4 : α
  b5 : α
  b6 : α
  b7 : α
  deriving DecidableEq, Repr

/-- The member with number `i`. -/
def Row8.get {α : Type} (r : Row8 α) (i : Fin 8) : α :=
  match i with
  | 0 => r.b0
  | 1 => r.b1
  | 2 => r.b2
  | 3 => r.b3
  | 4 => r.b4
  | 5 => r.b5
  | 6 => r.b6
  | 7 => r.b7

/-- The row whose member `i` is `f i`. -/
def Row8.ofFn {α : Type} (f : Fin 8 → α) : Row8 α :=
  ⟨f 0, f 1, f 2, f 3, f 4, f 5, f 6, f 7⟩

/-- The row with the same member at every number. -/
def Row8.const {α : Type} (x : α) : Row8 α := Row8.ofFn fun _ => x

/-- The row with member `i` replaced. -/
def Row8.set {α : Type} (r : Row8 α) (i : Fin 8) (x : α) : Row8 α :=
  Row8.ofFn fun j => if j = i then x else r.get j

/-- The row with member `i` changed by `f`. -/
def Row8.modify {α : Type} (r : Row8 α) (i : Fin 8) (f : α → α) : Row8 α :=
  r.set i (f (r.get i))

/-- The row with each member changed by `f`, which may look at its number. -/
def Row8.mapIdx {α β : Type} (f : Fin 8 → α → β) (r : Row8 α) : Row8 β :=
  Row8.ofFn fun i => f i (r.get i)

/-- The sum of `f` over the eight numbers. -/
def sum8 (f : Fin 8 → Nat) : Nat :=
  f 0 + f 1 + f 2 + f 3 + f 4 + f 5 + f 6 + f 7

/-- The numbers 0 to 7 in rising order. -/
def numbers8 : List (Fin 8) := [0, 1, 2, 3, 4, 5, 6, 7]

/-- Eight flags, the first argument bit 0. -/
def flagsOf (a0 a1 a2 a3 a4 a5 a6 a7 : Bool) : Flags8 :=
  BitVec.ofBool a7 ++ BitVec.ofBool a6 ++ BitVec.ofBool a5 ++ BitVec.ofBool a4 ++
    BitVec.ofBool a3 ++ BitVec.ofBool a2 ++ BitVec.ofBool a1 ++ BitVec.ofBool a0

/-- Eight flags from a predicate, bit k for member k. -/
def flags8 (p : Fin 8 → Bool) : Flags8 := flagsOf (p 0) (p 1) (p 2) (p 3) (p 4) (p 5) (p 6) (p 7)

/-- The vector with the flag of one member set. -/
def flagBit (i : Fin 8) : Flags8 := 1#8 <<< i.val

/-- Four like things, one for each of the numbers 0 to 3. -/
structure Row4 (α : Type) where
  p0 : α
  p1 : α
  p2 : α
  p3 : α
  deriving DecidableEq, Repr

/-- The member with number `i`. -/
def Row4.get {α : Type} (r : Row4 α) (i : Fin 4) : α :=
  match i with
  | 0 => r.p0
  | 1 => r.p1
  | 2 => r.p2
  | 3 => r.p3

/-- The row whose member `i` is `f i`. -/
def Row4.ofFn {α : Type} (f : Fin 4 → α) : Row4 α := ⟨f 0, f 1, f 2, f 3⟩

/-- The row with the same member at every number. -/
def Row4.const {α : Type} (x : α) : Row4 α := Row4.ofFn fun _ => x

/-- The row with member `i` replaced. -/
def Row4.set {α : Type} (r : Row4 α) (i : Fin 4) (x : α) : Row4 α :=
  Row4.ofFn fun j => if j = i then x else r.get j

/-- The row with member `i` changed by `f`. -/
def Row4.modify {α : Type} (r : Row4 α) (i : Fin 4) (f : α → α) : Row4 α :=
  r.set i (f (r.get i))

@[simp] theorem Row8.get_ofFn {α : Type} (f : Fin 8 → α) (i : Fin 8) : (Row8.ofFn f).get i = f i := by
  fin_cases i <;> rfl

@[simp] theorem Row8.get_const {α : Type} (x : α) (i : Fin 8) : (Row8.const x).get i = x := by
  simp [Row8.const]

@[simp] theorem Row8.get_set {α : Type} (r : Row8 α) (i j : Fin 8) (x : α) :
    (r.set i x).get j = if j = i then x else r.get j := by
  simp [Row8.set]

@[simp] theorem Row8.get_modify {α : Type} (r : Row8 α) (i j : Fin 8) (f : α → α) :
    (r.modify i f).get j = if j = i then f (r.get i) else r.get j := by
  simp [Row8.modify]

@[simp] theorem Row8.get_mapIdx {α β : Type} (f : Fin 8 → α → β) (r : Row8 α) (i : Fin 8) :
    (r.mapIdx f).get i = f i (r.get i) := by
  simp [Row8.mapIdx]

theorem Row8.ext_get {α : Type} {r q : Row8 α} (h : ∀ i, r.get i = q.get i) : r = q := by
  have h0 : r.b0 = q.b0 := h 0
  have h1 : r.b1 = q.b1 := h 1
  have h2 : r.b2 = q.b2 := h 2
  have h3 : r.b3 = q.b3 := h 3
  have h4 : r.b4 = q.b4 := h 4
  have h5 : r.b5 = q.b5 := h 5
  have h6 : r.b6 = q.b6 := h 6
  have h7 : r.b7 = q.b7 := h 7
  cases r; cases q
  simp_all

@[simp] theorem Row4.get_ofFn {α : Type} (f : Fin 4 → α) (i : Fin 4) : (Row4.ofFn f).get i = f i := by
  fin_cases i <;> rfl

@[simp] theorem Row4.get_const {α : Type} (x : α) (i : Fin 4) : (Row4.const x).get i = x := by
  simp [Row4.const]

@[simp] theorem Row4.get_set {α : Type} (r : Row4 α) (i j : Fin 4) (x : α) :
    (r.set i x).get j = if j = i then x else r.get j := by
  simp [Row4.set]

@[simp] theorem Row4.get_modify {α : Type} (r : Row4 α) (i j : Fin 4) (f : α → α) :
    (r.modify i f).get j = if j = i then f (r.get i) else r.get j := by
  simp [Row4.modify]

theorem Row4.ext_get {α : Type} {r q : Row4 α} (h : ∀ i, r.get i = q.get i) : r = q := by
  have h0 : r.p0 = q.p0 := h 0
  have h1 : r.p1 = q.p1 := h 1
  have h2 : r.p2 = q.p2 := h 2
  have h3 : r.p3 = q.p3 := h 3
  cases r; cases q
  simp_all

theorem flagsOf_getLsbD (a0 a1 a2 a3 a4 a5 a6 a7 : Bool) :
    (flagsOf a0 a1 a2 a3 a4 a5 a6 a7).getLsbD 0 = a0 ∧ (flagsOf a0 a1 a2 a3 a4 a5 a6 a7).getLsbD 1 = a1 ∧
    (flagsOf a0 a1 a2 a3 a4 a5 a6 a7).getLsbD 2 = a2 ∧ (flagsOf a0 a1 a2 a3 a4 a5 a6 a7).getLsbD 3 = a3 ∧
    (flagsOf a0 a1 a2 a3 a4 a5 a6 a7).getLsbD 4 = a4 ∧ (flagsOf a0 a1 a2 a3 a4 a5 a6 a7).getLsbD 5 = a5 ∧
    (flagsOf a0 a1 a2 a3 a4 a5 a6 a7).getLsbD 6 = a6 ∧ (flagsOf a0 a1 a2 a3 a4 a5 a6 a7).getLsbD 7 = a7 := by
  cases a0 <;> cases a1 <;> cases a2 <;> cases a3 <;> cases a4 <;> cases a5 <;> cases a6 <;> cases a7 <;> decide

@[simp] theorem flags8_getLsbD (p : Fin 8 → Bool) (i : Fin 8) : (flags8 p).getLsbD i.val = p i := by
  obtain ⟨h0, h1, h2, h3, h4, h5, h6, h7⟩ :=
    flagsOf_getLsbD (p 0) (p 1) (p 2) (p 3) (p 4) (p 5) (p 6) (p 7)
  fin_cases i
  exacts [h0, h1, h2, h3, h4, h5, h6, h7]

@[simp] theorem flagBit_getLsbD (i j : Fin 8) : (flagBit i).getLsbD j.val = decide (i = j) := by
  revert i j; decide

end Sys2Proof
end

