-- ==== Sys2Proof/Syntax.lean ====
section
/-! DEFINITION. The commands: one constructor for each row of spec/opcode_table.json. -/

namespace Sys2Proof

/-- The nine links: BL0 to BL7 and SL (Chapter 8). -/
inductive LinkId where
  | bay (n : Fin 8)
  | shelf
  deriving DecidableEq, Repr

/-- What the raw level of a rail sense line did: it changed at each of the instants `changes`, in order, and held from the
last of them until `upto` (R2). -/
structure RawTrace where
  changes : List Nat
  upto : Nat
  deriving DecidableEq, Repr

/-- The commands. `t` is the instant, in nanoseconds since power-up, at which the event is taken. `n` is a bay with its lines,
`k` a link, `tag` a request's tag byte (R148).
A row that names a request kind stands for the whole request frame, its last character ending at `t` (log 4). A row that names
what happens on a receive line has the line hold its level until `t` (log 8). -/
inductive Instr where
  /-- RST asserted or power-up (R58). -/
  | powerOnReset (t : Nat)
  /-- A quiet low reaches 1000 µs in SEEK (R6). -/
  | quietLow (t : Nat) (n : Bay)
  /-- The open candidate is accepted, and a marker falls with a bad width (R8). -/
  | captureMarkerError (t : Nat) (n : Bay)
  /-- A gap ends too short as the open candidate is accepted, or reaches 201 µs (R9). -/
  | captureGapError (t : Nat) (n : Bay)
  /-- A value pulse ends too short as the open candidate is accepted, or reaches 1074 µs (R10). -/
  | captureWidthError (t : Nat) (n : Bay)
  /-- The open candidate is accepted as a rising edge within the tail (R11). -/
  | captureTailError (t : Nat) (n : Bay)
  /-- A high run reaches 2000 µs (R13). -/
  | stuck (t : Nat) (n : Bay)
  /-- The tail reaches 1000 µs (R12). -/
  | tailComplete (t : Nat) (n : Bay)
  /-- The stale timer of a bay expires (R29). -/
  | staleTimer (t : Nat) (n : Bay)
  /-- The lost timer of a bay expires (R30). -/
  | lostTimer (t : Nat) (n : Bay)
  /-- The run-silence timer of a bay expires (R25). -/
  | runSilence (t : Nat) (n : Bay)
  /-- Debounced DRT goes high (R41, R42). -/
  | derateAssertion (t : Nat)
  /-- Debounced DRT goes low (R41, R42). -/
  | derateDeassertion (t : Nat)
  /-- The epoch timer expires (R44). -/
  | boundary (t : Nat)
  /-- The allocation operation ends (R51). -/
  | completion (t : Nat)
  /-- A slot of a throttle line has lasted the slot time (R126). -/
  | slotExpiry (t : Nat) (n : Bay)
  /-- The second CRC byte `b` of a request frame is taken (R152). -/
  | requestFrame (t : Nat) (k : LinkId) (b : Byte)
  /-- A byte other than 0xC3 is taken in HUNT (R150). -/
  | noise (t : Nat) (k : LinkId) (b : Byte)
  /-- A character's stop bit is sampled low (R150). -/
  | framing (t : Nat) (k : LinkId)
  /-- A length byte outside 2 to 72 is taken (R150). -/
  | lengthError (t : Nat) (k : LinkId) (b : Byte)
  /-- A start byte is taken while the inbox holds two requests (R151). -/
  | overrun (t : Nat) (k : LinkId)
  /-- Inside a frame the gap reaches 201 µs (R150). -/
  | linkGap (t : Nat) (k : LinkId)
  /-- In DISCARD the gap reaches 201 µs (R151). -/
  | discardEnd (t : Nat) (k : LinkId)
  /-- A receive line has been low for 2 ms (R157). -/
  | lineBreak (t : Nat) (k : LinkId)
  /-- A reply's last CRC byte has been transmitted (R152). -/
  | replyEnd (t : Nat) (k : LinkId)
  /-- GET BAY (R164). -/
  | getBay (t : Nat) (k : LinkId) (tag sel : Byte)
  /-- SET DEMAND (R166). -/
  | setDemand (t : Nat) (k : LinkId) (tag sel : Byte) (value : BitVec 16)
  /-- ASK BURST (R106). -/
  | askBurst (t : Nat) (k : LinkId) (tag sel : Byte) (amount duration : BitVec 16) (wait burstTag : Byte)
  /-- DROP BURST (R109). -/
  | dropBurst (t : Nat) (k : LinkId) (tag sel choice : Byte)
  /-- GET ALERT (R174). -/
  | getAlert (t : Nat) (k : LinkId) (tag : Byte)
  /-- SET ALERT MASK (R173). -/
  | setAlertMask (t : Nat) (k : LinkId) (tag mask : Byte)
  /-- GET HISTORY (R55). -/
  | getHistory (t : Nat) (k : LinkId) (tag count : Byte)
  /-- GET SHELF (R56). -/
  | getShelf (t : Nat) (k : LinkId) (tag : Byte)
  /-- GET POOLS (R121). -/
  | getPools (t : Nat) (k : LinkId) (tag : Byte)
  /-- GET CAPTURE COUNTERS (R17). -/
  | getCaptureCounters (t : Nat) (k : LinkId) (tag bay choice : Byte)
  /-- GET SENSOR (R36). -/
  | getSensor (t : Nat) (k : LinkId) (tag bay choice : Byte)
  /-- GET LINK COUNTERS (R156). -/
  | getLinkCounters (t : Nat) (k : LinkId) (tag link choice : Byte)
  /-- PIN BAY (R167). -/
  | pinBay (t : Nat) (k : LinkId) (tag bay : Byte) (value : BitVec 16)
  /-- UNPIN BAY (R168). -/
  | unpinBay (t : Nat) (k : LinkId) (tag bay : Byte)
  /-- SET CAP (R169). -/
  | setCap (t : Nat) (k : LinkId) (tag : Byte) (normal derated : BitVec 16)
  /-- RELEASE BAY LINK (R170). -/
  | releaseBayLink (t : Nat) (k : LinkId) (tag link : Byte)
  /-- SHELF RESET (R171). -/
  | shelfReset (t : Nat) (k : LinkId) (tag : Byte)
  /-- The reset that a served SHELF RESET arranged is taken (R171). -/
  | shelfResetTaken (t : Nat)
  /-- SET ALERT GROUPS (R175). -/
  | setAlertGroups (t : Nat) (k : LinkId) (tag link mask : Byte)
  /-- PROFILE BLOCK (R178): the block number, then the block's data. -/
  | profileBlock (t : Nat) (k : LinkId) (tag block : Byte) (body : List Byte)
  /-- PROFILE DISCARD (R179). -/
  | profileDiscard (t : Nat) (k : LinkId) (tag : Byte)
  /-- PROFILE READ (R179). -/
  | profileRead (t : Nat) (k : LinkId) (tag block : Byte)
  /-- PROFILE COMMIT (R180). -/
  | profileCommit (t : Nat) (k : LinkId) (tag : Byte)
  /-- The raw rail sense line `n` did what `raw` says; an edge whose candidate has by its end lasted 4 µs of steady level is
  accepted (R2; log 8). -/
  | acceptedEdge (raw : RawTrace) (n : Bay)
  /-- The raw DRT line takes the level `high` (R41). -/
  | rawDrtChange (t : Nat) (high : Bool)
  /-- The raw receive line of a link changed at each of the instants `changes`, in order, and then held until `t`: the characters
that end by then are taken by the receive decoder (R148, R149; log 8). -/
  | characterTaken (t : Nat) (k : LinkId) (changes : List Nat)
  /-- A link's receive line returns high after a break (R157). -/
  | breakEpisodeEnd (t : Nat) (k : LinkId)
  /-- RST is released (R147). -/
  | releaseOfReset (t : Nat)
  deriving DecidableEq, Repr

end Sys2Proof
end

