-- ==== Sys2Proof/Decode.lean ====
section
/-! DEFINITION. The command a word spells by the table's bits. spec/opcode_table.json gives no row any bits. -/

namespace Sys2Proof

/-- No row of the table has bits (every "fields" list of spec/opcode_table.json is empty and no row has "fixed"), so no
word spells a command (log 22). -/
def decodeTableWord (_nbits _w : Nat) : Option Instr := none

end Sys2Proof
end

