-- ==== Sys2Proof/Config.lean ====
section
/-! DEFINITION. What is fixed for the model as a whole: the unit of its clock, and the one value the spec leaves free. -/

namespace Sys2Proof.Config

/-- One microsecond on the model's clock, which counts nanoseconds. DESIGN CHOICE, log 1: the spec states
durations in µs and ms and gives examples down to a tenth of a µs; any finer grain would do. -/
def nsPerUs : Nat := 1000

/-- One millisecond on the model's clock. DESIGN CHOICE, log 1. -/
def nsPerMs : Nat := 1000000

/-- FREE VALUE, log 9: how long after its service a link's reply starts, by the number of replies the link has started
before; what exceeds 50 µs counts as 50 µs (R153). -/
opaque replyDelay : LinkId → Nat → Nat

end Sys2Proof.Config
end

