-- ==== Sys2Proof/Machine/State.lean ====
section
/-! DEFINITION. The state of the part as plain data, block by block as 00_scope.md lists the blocks, and the state after reset.
Instants are nanoseconds on the model's clock (log 1). Powers are half-watts (hw), temperatures quarter-degrees (qd). -/

namespace Sys2Proof.Machine

/-! ### Sense Capture Unit (Chapter 1) -/

/-- The eight states of a rail sense decoder (Chapter 1, "Decoder states"). -/
inductive CaptureState where
  | seek | idle | marker | gapA | temp | gapB | power | tail
  deriving DecidableEq, Repr

/-- The five causes of a capture error (R14). -/
inductive CaptureCause where
  | marker | gap | width | tail | stuck
  deriving DecidableEq, Repr

/-- One decoder (R1 to R19). -/
structure Decoder where
  state : CaptureState
  /-- The raw level of the line; true is high (R2). -/
  raw : Bool
  /-- The time stamp of the candidate edge the glitch filter has open (R2). -/
  candidate : Option Nat
  /-- The filtered level; true is high (R2). -/
  level : Bool
  /-- Time stamp of the last accepted edge; the release of reset before the first one (R3, R4, R13). -/
  edgeAt : Nat
  /-- The last entry into SEEK (R6). -/
  seekAt : Nat
  /-- The temperature already decoded in this frame (R5). -/
  temp : Option Nat
  /-- The power already decoded in this frame (R5). -/
  power : Option Nat
  /-- STUCK has been counted for the high run in progress (R13). -/
  stuckCounted : Bool
  /-- Wraps from 65535 to 0 (R16). -/
  good : BitVec 16
  /-- The five cause counters saturate at 255 (R14, R16). -/
  marker : BitVec 8
  gap : BitVec 8
  width : BitVec 8
  tail : BitVec 8
  stuck : BitVec 8
  deriving DecidableEq, Repr

/-- A decoder at a release of reset at instant `t`: a raw line that is high there opens a candidate at the release (R19). -/
def Decoder.atRelease (raw : Bool) (t : Nat) : Decoder where
  state := .seek
  raw := raw
  candidate := if raw then some t else none
  level := false
  edgeAt := t
  seekAt := t
  temp := none
  power := none
  stuckCounted := false
  good := 0
  marker := 0
  gap := 0
  width := 0
  tail := 0
  stuck := 0

/-! ### Sensor Monitor (Chapter 2) -/

/-- A sample: temperature in qd, power in hw (R5). -/
structure Sample where
  temp : Nat
  power : Nat
  deriving DecidableEq, Repr

/-- The state a run in ACQUIRING came from (R23). -/
inductive Origin where
  | absent | lost
  deriving DecidableEq, Repr

/-- How many samples a run in ACQUIRING holds (R24). -/
inductive RunCount where
  | one | two
  deriving DecidableEq, Repr

/-- What is present in ACQUIRING only (Chapter 2, "The sensor record"). -/
structure Run where
  origin : Origin
  count : RunCount
  sample : Sample
  /-- When the last sample was taken into the run: run silence is timed from it (R25). -/
  lastAt : Nat
  deriving DecidableEq, Repr

/-- The five sensor states. -/
inductive SensorState where
  | absent
  | acquiring (run : Run)
  | valid
  | stale
  | lost
  deriving DecidableEq, Repr

/-- One bay's sensor record (Chapter 2, "The sensor record"). -/
structure SensorRec where
  state : SensorState
  held : Option Sample
  /-- When the held sample was accepted: the time since acceptance counts from it (R26). Absent before the first
  acceptance since reset, when the age reads 65535 (R37). -/
  acceptedAt : Option Nat
  implRun : Fin 3
  implCount : BitVec 8
  loss : BitVec 16
  maxTemp : Nat
  deriving DecidableEq, Repr

/-- A record after reset (R37). -/
def SensorRec.reset : SensorRec where
  state := .absent
  held := none
  acceptedAt := none
  implRun := 0
  implCount := 0
  loss := 0
  maxTemp := 0

/-- The three parameters of R21: stale and lost time in ms, step limit in qd. -/
structure SensorParams where
  stale : Nat
  lost : Nat
  step : Nat
  deriving DecidableEq, Repr

/-- From reset until the first install (R21). -/
def SensorParams.reset : SensorParams := ⟨200, 1000, 1023⟩

/-! ### Shelf profile (Chapter 11) -/

/-- Block 0. -/
structure ShelfBlock where
  format : Nat
  epochMs : Nat
  capNormal : Nat
  capDerated : Nat
  margin : Nat
  alertThreshold : Nat
  staleMs : Nat
  lostMs : Nat
  stepLimit : Nat
  slotTimeUs : Nat
  airflow : List Bay
  deriving DecidableEq, Repr

/-- Blocks 2 to 9, one for each bay. -/
structure BayBlock where
  occupied : Bool
  floor : Nat
  idle : Nat
  peak : Nat
  fallback : Nat
  limit : Nat
  selfGain : Nat
  pool : Pool
  len : Nat
  countMin : Nat
  countDerate : Nat
  countFallback : Nat
  phi : Nat
  deriving DecidableEq, Repr

/-- One entry of block 10. -/
structure Coupling where
  down : Bay
  up : Bay
  strength : Nat
  deriving DecidableEq, Repr

/-- One pool of block 11: Z and Q. -/
structure PoolBlock where
  reserve : Nat
  extra : Nat
  deriving DecidableEq, Repr

/-- A profile: all twelve blocks. -/
structure Profile where
  shelf : ShelfBlock
  bindings : Row8 (List Bay)
  bays : Row8 BayBlock
  couplings : List Coupling
  pools : Row4 PoolBlock
  deriving DecidableEq, Repr

/-- A bay block with nothing in it: vacant, all zero. -/
def BayBlock.empty : BayBlock := ⟨false, 0, 0, 0, 0, 0, 0, 0, 0, 0, 0, 0, 0⟩

/-- The contents the empty staging profile is shown with. DESIGN CHOICE, log 15: no read observes them. -/
def Profile.empty : Profile where
  shelf := ⟨0, 0, 0, 0, 0, 0, 0, 0, 0, 0, []⟩
  bindings := Row8.const []
  bays := Row8.const BayBlock.empty
  couplings := []
  pools := Row4.const ⟨0, 0⟩

/-- The Profile Store (R177). `written` has one flag per block, bit k for block k. -/
structure ProfileStore where
  staging : Profile
  written : BitVec 12
  /-- The pending profile; its presence is the pending-install flag (R177). -/
  waiting : Option Profile
  installed : Option Profile
  deriving DecidableEq, Repr

/-! ### Cycle Timer and Grant Allocator (Chapters 3 and 5) -/

/-- The Cycle Timer (R39 to R43). -/
structure CycleTimer where
  /-- The instant of the next boundary; absent while the epoch timer is not running (R39, R40, R58). -/
  epochDue : Option Nat
  /-- The raw DRT line; true is high (R41). -/
  rawDrt : Bool
  /-- When the raw line left the debounced level, while it stays away from it (R41). -/
  drtSince : Option Nat
  debounced : Bool
  derate : Bool
  deriving DecidableEq, Repr

inductive Engine where
  | stopped | running
  deriving DecidableEq, Repr

/-- The eight flags of an epoch record (R52, R97). -/
structure RecordFlags where
  thermal : Bool
  deficit : Bool
  subst : Bool
  pinned : Bool
  short : Bool
  pool : Bool
  shelf : Bool
  burst : Bool
  deriving DecidableEq, Repr

/-- An epoch record (R52). -/
structure EpochRecord where
  grant : Nat
  ceiling : Nat
  count : Nat
  burst : Nat
  flags : RecordFlags
  deriving DecidableEq, Repr

/-- A history summary (R54). -/
structure Summary where
  epoch : BitVec 32
  cap : Nat
  grants : Nat
  admissions : Nat
  presence : Flags8
  short : Bool
  derated : Bool
  clamped : Bool
  deriving DecidableEq, Repr

/-- A bay's usable sample in a snapshot: the held sample of a VALID or STALE record (R46, R62). -/
abbrev UsableSample := Option Sample

/-- What the snapshot and the admission round of one operation fix (R46, R47). -/
structure Snapshot where
  epoch : BitVec 32
  /-- Occupancy, bay parameters, airflow order, couplings, extra limits, alert threshold, bindings (R46, R53). -/
  profile : Profile
  cap : Nat
  derated : Bool
  usable : Row8 UsableSample
  presence : Flags8
  demand : Row8 (Option Nat)
  pin : Row8 (Option Nat)
  rotation : Fin 8
  clamped : Bool
  /-- The copy of the active burst table: pool and amount of each active burst (R47, R116). -/
  bursts : Row8 (Option (Pool × Nat))
  admitted : Nat
  deriving DecidableEq, Repr

/-- The Grant Allocator (R38, R51 to R58, R79, R80). -/
structure Allocator where
  engine : Engine
  epoch : BitVec 32
  rotation : Fin 8
  demand : Row8 (Option Nat)
  pin : Row8 (Option Nat)
  records : Row8 (Option EpochRecord)
  /-- Oldest first (R54). -/
  ring : List Summary
  stickyShort : Bool
  /-- The operation in flight (R44). -/
  flight : Option Snapshot
  deriving DecidableEq, Repr

/-- The Grant Allocator after reset (R58). -/
def Allocator.reset : Allocator where
  engine := .stopped
  epoch := 0
  rotation := 0
  demand := Row8.const none
  pin := Row8.const none
  records := Row8.const none
  ring := []
  stickyShort := false
  flight := none

/-! ### Burst Unit (Chapter 6) -/

/-- An entry of the burst queue (R102). -/
structure QueueEntry where
  bay : Bay
  pool : Pool
  amount : Nat
  duration : Nat
  roundsLeft : Nat
  tag : Byte
  deriving DecidableEq, Repr

/-- A record of the active burst table; its bay is its place in the table (R103). -/
structure ActiveBurst where
  pool : Pool
  amount : Nat
  remaining : Nat
  tag : Byte
  deriving DecidableEq, Repr

/-- A pool account (R104). -/
structure PoolAccount where
  reserve : Nat
  remaining : Nat
  exhausted : Bool
  blocked : BitVec 32
  deriving DecidableEq, Repr

/-- The Burst Unit (R102 to R104). The head of the queue stands first. Before the first install there are no accounts
(R123): they are shown as zeros (log 16). -/
structure BurstUnit where
  queue : List QueueEntry
  active : Row8 (Option ActiveBurst)
  pools : Row4 PoolAccount
  deriving DecidableEq, Repr

/-- The Burst Unit after reset (R123). -/
def BurstUnit.reset : BurstUnit where
  queue := []
  active := Row8.const none
  pools := Row4.const ⟨0, 0, false, 0⟩

/-! ### Pattern Generator (Chapter 7) -/

inductive LineMode where
  | default | profile
  deriving DecidableEq, Repr

/-- The over-temperature hold (R139 to R141). -/
inductive Hold where
  | free | held | reassessing | releasing
  deriving DecidableEq, Repr

/-- A staged count with its derate mark (R134). -/
structure Staged where
  count : Nat
  derateMark : Bool
  deriving DecidableEq, Repr

/-- A throttle line's record (R125) with the slot in progress (R126). -/
structure Line where
  mode : LineMode
  len : Nat
  live : Nat
  phi : Nat
  slotIndex : Nat
  slotTimeUs : Nat
  staged : Option Staged
  hold : Hold
  /-- When the slot in progress started (R126). -/
  slotStart : Nat
  /-- The level of THn: asserted in a closed slot (R126). -/
  asserted : Bool
  deriving DecidableEq, Repr

/-- A line in DEFAULT mode that starts slot 0 at instant `t`: slot 0 of the default pattern is closed (R129, R147). -/
def Line.defaultAt (t : Nat) : Line where
  mode := .default
  len := 16
  live := 8
  phi := 0
  slotIndex := 0
  slotTimeUs := 100
  staged := none
  hold := .free
  slotStart := t
  asserted := true

/-! ### Links (Chapter 8) and alerts (Chapter 10) -/

/-- A request as it joins an inbox (R149). -/
structure Request where
  kind : Byte
  tag : Byte
  params : List Byte
  deriving DecidableEq, Repr

/-- A reply as the service fixes it (R154). -/
structure Reply where
  kind : Byte
  tag : Byte
  status : Byte
  data : List Byte
  deriving DecidableEq, Repr

/-- What a transmitter sends: characters back to back, the first of them from the instant `start` on (R148, R153). -/
structure Transmission where
  start : Nat
  bytes : List Byte
  deriving DecidableEq, Repr

/-- The receive decoder (R149, R151). In BODY, `n` bytes are expected and `got` holds those taken; in CHECK the first CRC
byte is present once taken. -/
inductive RxState where
  | hunt
  | length
  | body (n : Nat) (got : List Byte)
  | check (got : List Byte) (crcHigh : Option Byte)
  | discard
  deriving DecidableEq, Repr

/-- The seven causes of a receive error (R150). -/
inductive LinkCause where
  | noise | gap | framing | length | crc | overrun | brk
  deriving DecidableEq, Repr

/-- The seven counters of a link, saturating at 255 (R155). -/
structure LinkCounters where
  noise : BitVec 8
  gap : BitVec 8
  framing : BitVec 8
  length : BitVec 8
  crc : BitVec 8
  overrun : BitVec 8
  brk : BitVec 8
  deriving DecidableEq, Repr

/-- All seven at 0. -/
def LinkCounters.zero : LinkCounters := ⟨0, 0, 0, 0, 0, 0, 0⟩

/-- A character that the receiver is inside (R148): when its start edge came, and how long after it the line has changed
since, in order. The bits are sampled from these changes. -/
structure RxChar where
  start : Nat
  edges : List Nat
  deriving DecidableEq, Repr

/-- A Link Port (Chapter 8). -/
structure Port where
  rx : RxState
  /-- Since when the receive line has been low (R157); absent while it is high (R148). -/
  lowSince : Option Nat
  /-- The character the receiver is inside (R148). -/
  char : Option RxChar
  /-- The instant up to which the receive line has been followed (log 1). -/
  seenTo : Nat
  /-- The end of the last character's stop bit (R148, R150). -/
  lastCharEnd : Nat
  /-- A break episode is in progress (R157). -/
  inBreak : Bool
  /-- Head first, at most two (R152). -/
  inbox : List Request
  /-- The reply to the head of the inbox, until the transmitter has sent it (R152, R153). -/
  reply : Option Reply
  /-- What the transmitter sends, or sent last: a reply's frame, or the part of it that a cut-off lets through (R153, R157). -/
  tx : Transmission
  /-- How many replies the link has started: the model's own count, which picks the next one's free delay (log 9). -/
  started : Nat
  counters : LinkCounters
  deriving DecidableEq, Repr

/-- A port after reset, its receive line idling high (R148, R159; log 6). -/
def Port.reset : Port where
  rx := .hunt
  lowSince := none
  char := none
  seenTo := 0
  lastCharEnd := 0
  inBreak := false
  inbox := []
  reply := none
  tx := ⟨0, []⟩
  started := 0
  counters := LinkCounters.zero

/-- What is held for a pending cause: its vector and its reason pair, bit 0 PINNED and bit 1 PROFILE (R172, R174). -/
structure Raised where
  vector : Flags8
  reasons : BitVec 2
  deriving DecidableEq, Repr

/-- One link's alert state (R172). A cause is pending when something is held for it. -/
structure AlertState where
  pendingCauses : Row8 (Option Raised)
  mask : Flags8
  groups : Flags8
  deriving DecidableEq, Repr

/-- A bay link's alert state after reset: causes 0 and 1 high (R176). -/
def AlertState.resetBay : AlertState := ⟨Row8.const none, 0, 0x03⟩

/-- The shelf link's alert state after reset: causes 0, 1 and 2 high (R176). -/
def AlertState.resetShelf : AlertState := ⟨Row8.const none, 0, 0x07⟩

/-- One thing for each of the nine links. -/
structure PerLink (α : Type) where
  bays : Row8 α
  shelf : α
  deriving DecidableEq, Repr

/-! ### The whole part -/

/-- The state of the part, with the queue of commands that wait. -/
@[ext]
structure State where
  /-- The commands waiting, first in, first out. -/
  pending : List Instr
  /-- The model's clock (log 1). -/
  now : Nat
  /-- RST is asserted (R147, R159). -/
  inReset : Bool
  /-- A SHELF RESET has been served and its reset is still to be taken (R171). -/
  shelfResetArmed : Bool
  capture : Row8 Decoder
  sensors : Row8 SensorRec
  params : SensorParams
  cycle : CycleTimer
  alloc : Allocator
  burst : BurstUnit
  lines : Row8 Line
  ports : PerLink Port
  alerts : PerLink AlertState
  store : ProfileStore
  deriving DecidableEq, Repr

/-- Raised by no command: the spec stops the part nowhere ("No counted error of any block stops or delays an operation",
R44). A closed type without constructors; safe. -/
inductive Fault where
  deriving DecidableEq, Repr

/-- Raised only by an arm of `exec` whose command has no meaning yet. -/
inductive Refusal where
  /-- The command with this mnemonic has no meaning in the model yet; raised by `exec` alone. Safe: nothing is claimed of it. -/
  | notModelled (mnemonic : String)
  deriving DecidableEq, Repr

/-- The part at the release of a power-on reset, at instant 0 with DRT and the rail sense lines low and the receive
lines idling high (R19, R37, R58, R101, R123, R147, R148, R159, R176, R177). DESIGN CHOICE, log 6: the clock's zero and the raw levels. -/
def State.reset : State where
  pending := []
  now := 0
  inReset := false
  shelfResetArmed := false
  capture := Row8.const (Decoder.atRelease false 0)
  sensors := Row8.const SensorRec.reset
  params := SensorParams.reset
  cycle := ⟨none, false, none, false, false⟩
  alloc := Allocator.reset
  burst := BurstUnit.reset
  lines := Row8.const (Line.defaultAt 0)
  ports := ⟨Row8.const Port.reset, Port.reset⟩
  alerts := ⟨Row8.const AlertState.resetBay, AlertState.resetShelf⟩
  store := ⟨Profile.empty, 0, none, none⟩

end Sys2Proof.Machine
end

