-- ==== Sys2Proof/Machine/Ops.lean ====
section
/-! DEFINITION. The shared operations over the state: durations, saturating counters, one setter for each block, the clock,
the form of an event, the installed profile's lookups and the raising of alert causes (Chapter 10). -/

namespace Sys2Proof.Machine

/-! ### Durations and limits -/

/-- `n` microseconds on the model's clock. -/
def us (n : Nat) : Nat := n * Config.nsPerUs

/-- `n` milliseconds on the model's clock. -/
def ms (n : Nat) : Nat := n * Config.nsPerMs

/-- A raw level must hold for 4 µs to be accepted (R2). -/
def filterTime : Nat := us 4
/-- The quiet low of SEEK (R6). -/
def quietTime : Nat := us 1000
/-- The tail (R12). -/
def tailTime : Nat := us 1000
/-- A gap is abandoned on reaching this (R9). -/
def gapTime : Nat := us 201
/-- A value pulse is abandoned on reaching this (R10). -/
def pulseTime : Nat := us 1074
/-- A high run is stuck on reaching this (R13). -/
def stuckTime : Nat := us 2000
/-- The DRT debounce (R41). -/
def debounceTime : Nat := us 200
/-- One bit on a link, at 1,000,000 bit/s (R148). -/
def bitTime : Nat := us 1
/-- One character on a link: start bit, eight data bits, stop bit (R148). -/
def charTime : Nat := us 10
/-- A receive line low for this long is a break (R157). -/
def breakTime : Nat := ms 2
/-- The gap that abandons a frame or ends DISCARD (R150, R151). -/
def linkGapTime : Nat := us 201

/-- Elapsed time in whole microseconds, truncated (R4). -/
def widthUs (start stop : Nat) : Nat := (stop - start) / Config.nsPerUs

/-- An 8-bit counter that stays at 255 (00_scope.md, Counters). -/
def satInc8 (c : BitVec 8) : BitVec 8 := if c = 255 then c else c + 1

/-- A 16-bit counter that stays at 65535. -/
def satInc16 (c : BitVec 16) : BitVec 16 := if c = 65535 then c else c + 1

/-- The level of a raw line after a number of changes. -/
def rawAfter (level : Bool) (changes : Nat) : Bool := level != (changes % 2 == 1)

/-! ### Setters, one for each block -/

def State.setNow (s : State) (x : Nat) : State := { s with now := x }
def State.setInReset (s : State) (x : Bool) : State := { s with inReset := x }
def State.setArmed (s : State) (x : Bool) : State := { s with shelfResetArmed := x }
def State.setCapture (s : State) (x : Row8 Decoder) : State := { s with capture := x }
def State.setSensors (s : State) (x : Row8 SensorRec) : State := { s with sensors := x }
def State.setParams (s : State) (x : SensorParams) : State := { s with params := x }
def State.setCycle (s : State) (x : CycleTimer) : State := { s with cycle := x }
def State.setAlloc (s : State) (x : Allocator) : State := { s with alloc := x }
def State.setBurst (s : State) (x : BurstUnit) : State := { s with burst := x }
def State.setLines (s : State) (x : Row8 Line) : State := { s with lines := x }
def State.setPorts (s : State) (x : PerLink Port) : State := { s with ports := x }
def State.setAlerts (s : State) (x : PerLink AlertState) : State := { s with alerts := x }
def State.setStore (s : State) (x : ProfileStore) : State := { s with store := x }

/-! ### One thing for each link -/

/-- Link `k`'s member. -/
def PerLink.get {α : Type} (r : PerLink α) : LinkId → α
  | .bay n => r.bays.get n
  | .shelf => r.shelf

/-- Link `k`'s member replaced. -/
def PerLink.set {α : Type} (r : PerLink α) (k : LinkId) (x : α) : PerLink α :=
  match k with
  | .bay n => { r with bays := r.bays.set n x }
  | .shelf => { r with shelf := x }

/-- Every link's member changed by `f`. -/
def PerLink.map {α : Type} (f : α → α) (r : PerLink α) : PerLink α := ⟨r.bays.mapIdx fun _ x => f x, f r.shelf⟩

/-- Link `k`'s port. -/
def State.port (s : State) (k : LinkId) : Port := s.ports.get k

/-- Link `k`'s port replaced. -/
def State.setPort (s : State) (k : LinkId) (p : Port) : State := s.setPorts (s.ports.set k p)

/-- Link `k`'s alert state. -/
def State.alert (s : State) (k : LinkId) : AlertState := s.alerts.get k

/-- Link `k`'s alert state replaced. -/
def State.setAlert (s : State) (k : LinkId) (a : AlertState) : State := s.setAlerts (s.alerts.set k a)

/-- Decoder `n` replaced. -/
def State.setDecoder (s : State) (n : Bay) (d : Decoder) : State := s.setCapture (s.capture.set n d)

/-- Bay `n`'s sensor record replaced. -/
def State.setSensor (s : State) (n : Bay) (r : SensorRec) : State := s.setSensors (s.sensors.set n r)

/-- Line `n`'s record replaced. -/
def State.setLine (s : State) (n : Bay) (l : Line) : State := s.setLines (s.lines.set n l)

/-! ### The clock and the form of an event -/

/-- The clock moves to `t`, and never back (log 1). -/
def State.advance (s : State) (t : Nat) : State := s.setNow (max s.now t)

/-- An event taken at instant `t`: the clock moves, and unless RST holds the part in reset the event has its effect
(00_scope.md Signals, "asserted holds the part in power-on reset"; log 7). No event stops the part (R44). -/
def event (t : Nat) (s : State) (effect : State → State) : Host.Outcome State Fault Refusal :=
  if s.inReset then .next (s.advance t) else .next (effect (s.advance t))

/-- What comes about on a line up to instant `t`, each thing at its own instant, to which it moves the clock; then the clock
moves to `t`. RST holds it off as it does an event. -/
def eventsUpTo (t : Nat) (s : State) (effect : State → State) : Host.Outcome State Fault Refusal :=
  if s.inReset then .next (s.advance t) else .next ((effect s).advance t)

/-! ### Transmissions (R148, R153, R157) -/

/-- When the last character's stop bit has been sent. -/
def Transmission.ends (x : Transmission) : Nat := x.start + charTime * x.bytes.length

/-- Cut off at instant `t`: the characters begun before it are sent to their end, and no other (R157). -/
def Transmission.cutAt (x : Transmission) (t : Nat) : Transmission :=
  ⟨min x.start t, x.bytes.take ((t - x.start + (charTime - 1)) / charTime)⟩

/-- When link `k` starts a reply handed to its transmitter now: at some instant within 50 µs (R153; log 9). -/
def State.replyStart (s : State) (k : LinkId) : Nat :=
  s.now + min (Config.replyDelay k (s.port k).started) (us 50)

/-! ### The installed profile -/

/-- The binding lists in force: of the installed profile, and empty before the first install (R160). -/
def State.bindings (s : State) : Row8 (List Bay) :=
  match s.store.installed with
  | some p => p.bindings
  | none => Row8.const []

/-- Bay `n`'s block of the installed profile; before the first install every bay is vacant (R162). -/
def State.bayBlock (s : State) (n : Bay) : BayBlock :=
  match s.store.installed with
  | some p => p.bays.get n
  | none => BayBlock.empty

/-- The bay is marked occupied in the installed profile. -/
def State.occupied (s : State) (n : Bay) : Bool := (s.bayBlock n).occupied

/-- The bay link that serves a bay under a profile's bindings, and the selector the bay has there (R160). -/
def servingLink (bindings : Row8 (List Bay)) (n : Bay) : Option (Fin 8 × Fin 2) :=
  numbers8.findSome? fun k =>
    match bindings.get k with
    | a :: rest =>
      if a = n then some (k, 0)
      else match rest with
        | b :: _ => if b = n then some (k, 1) else none
        | [] => none
    | [] => none

/-! ### Raising causes (R172) -/

/-- The eight causes of a bay link, in default order from high to low (Chapter 10). -/
inductive BayCause where
  | overtemp | thermal | sensor | burstEnded | burstExpired | burstWithdrawn | burstAdmitted | grant
  deriving DecidableEq, Repr

/-- The cause's number. -/
def BayCause.number : BayCause → Fin 8
  | .overtemp => 0
  | .thermal => 1
  | .sensor => 2
  | .burstEnded => 3
  | .burstExpired => 4
  | .burstWithdrawn => 5
  | .burstAdmitted => 6
  | .grant => 7

/-- The eight causes of the shelf link (Chapter 10). -/
inductive ShelfCause where
  | overtempAny | derate | capShort | sensorAny | captureError | linkError | poolExhausted | profileInstalled
  deriving DecidableEq, Repr

/-- The cause's number. -/
def ShelfCause.number : ShelfCause → Fin 8
  | .overtempAny => 0
  | .derate => 1
  | .capShort => 2
  | .sensorAny => 3
  | .captureError => 4
  | .linkError => 5
  | .poolExhausted => 6
  | .profileInstalled => 7

/-- BURST_WITHDRAWN's reasons: bit 0 PINNED, bit 1 PROFILE (R174). -/
def reasonPinned : BitVec 2 := 1
def reasonProfile : BitVec 2 := 2

/-- One raising: the cause becomes pending, or its vector and reasons are ORed into those held (R172). -/
def Raised.merge (held : Option Raised) (vector : Flags8) (reasons : BitVec 2) : Raised :=
  match held with
  | none => ⟨vector, reasons⟩
  | some r => ⟨r.vector ||| vector, r.reasons ||| reasons⟩

/-- A cause raised at one link. -/
def AlertState.raise (a : AlertState) (cause : Fin 8) (vector : Flags8) (reasons : BitVec 2) : AlertState :=
  { a with pendingCauses := a.pendingCauses.set cause (some (Raised.merge (a.pendingCauses.get cause) vector reasons)) }

/-- A cause raised for the shelf link. -/
def State.raiseShelf (s : State) (c : ShelfCause) (vector : Flags8) : State :=
  s.setAlert .shelf ((s.alert .shelf).raise c.number vector 0)

/-- A cause raised for the bay link that serves a bay under the given bindings, with the bay's flag as its selector; for
a bay they do not bind, no raising is made (R172). -/
def State.raiseServing (s : State) (bindings : Row8 (List Bay)) (n : Bay) (c : BayCause) (reasons : BitVec 2) : State :=
  match servingLink bindings n with
  | some (k, sel) => s.setAlert (.bay k) ((s.alert (.bay k)).raise c.number (1#8 <<< sel.val) reasons)
  | none => s

/-- One cause raised for each bay of a list. -/
def State.raiseEach (s : State) (bindings : Row8 (List Bay)) (bays : List Bay) (c : BayCause) (reasons : BitVec 2) : State :=
  bays.foldl (fun s n => s.raiseServing bindings n c reasons) s

/-! ### Outputs computed from the state -/

/-- RDY of link `k`: deasserted exactly while its inbox holds two requests, and while RST is asserted (R152, R159). -/
def State.rdy (s : State) (k : LinkId) : Bool := !s.inReset && decide ((s.port k).inbox.length < 2)

/-- A link has a pending cause whose mask flag is clear (R173). -/
def AlertState.unmasked (a : AlertState) : Bool :=
  numbers8.any fun c => (a.pendingCauses.get c).isSome && !a.mask.getLsbD c.val

/-- ALT of link `k` (R173, R159). -/
def State.alt (s : State) (k : LinkId) : Bool := !s.inReset && (s.alert k).unmasked

/-- THn: asserted in a closed slot; deasserted while RST is asserted (R126, R147). -/
def State.throttle (s : State) (n : Bay) : Bool := !s.inReset && (s.lines.get n).asserted

end Sys2Proof.Machine
end

