-- ==== Sys2Proof/Machine/Flags.lean ====
section
/-! DEFINITION. Flag bytes, state codes and vectors, as Chapter 8's field table encodes them. -/

namespace Sys2Proof.Machine

/-- Epoch record flags: bit 7 THERMAL, 6 DEFICIT, 5 SUBST, 4 PINNED, 3 SHORT, 2 POOL, 1 SHELF, 0 BURST (R154). -/
def RecordFlags.byte (f : RecordFlags) : Byte :=
  flagsOf f.burst f.shelf f.pool f.short f.pinned f.subst f.deficit f.thermal

/-- History summary flags: bit 2 SHORT, 1 DERATED, 0 CLAMPED (R154). Bits 3 to 7 name
nothing and are sent 0: DESIGN CHOICE, log 23. -/
def Summary.flagByte (x : Summary) : Byte :=
  flagsOf x.clamped x.derated x.short false false false false false

/-- Sensor state codes (R154). -/
def SensorState.code : SensorState → Byte
  | .absent => 0
  | .acquiring _ => 1
  | .valid => 2
  | .stale => 3
  | .lost => 4

/-- The origin is coded as the sensor state it names. DEDUCED, log 14. -/
def Origin.code : Origin → Byte
  | .absent => 0
  | .lost => 4

/-- The run count's byte. -/
def RunCount.code : RunCount → Byte
  | .one => 1
  | .two => 2

/-- Capture decoder state codes (R154). -/
def CaptureState.code : CaptureState → Byte
  | .seek => 0
  | .idle => 1
  | .marker => 2
  | .gapA => 3
  | .temp => 4
  | .gapB => 5
  | .power => 6
  | .tail => 7

/-- Link decoder state codes (R154). -/
def RxState.code : RxState → Byte
  | .hunt => 0
  | .length => 1
  | .body _ _ => 2
  | .check _ _ => 3
  | .discard => 4

/-- Engine state codes (R154). -/
def Engine.code : Engine → Byte
  | .stopped => 0
  | .running => 1

/-- A flag, choice or present mark is one byte holding 0 or 1 (R154). -/
def boolByte (b : Bool) : Byte := if b then 1 else 0

/-- The bay's sensor is in VALID. -/
def SensorRec.isValid (r : SensorRec) : Bool :=
  match r.state with
  | .valid => true
  | _ => false

/-- The presence vector: one flag per bay, set exactly while its sensor is in VALID (R32). -/
def State.presence (s : State) : Flags8 := flags8 fun n => (s.sensors.get n).isValid

/-- A presence vector as one bay link sees it: its selectors' flags (R55). Bits for which the link has no selector are sent 0:
DESIGN CHOICE, log 23. -/
def selectorFlags (bound : List Bay) (v : Flags8) : Flags8 :=
  match bound with
  | [] => 0
  | [a] => flagsOf (v.getLsbD a.val) false false false false false false false
  | a :: b :: _ => flagsOf (v.getLsbD a.val) (v.getLsbD b.val) false false false false false false

end Sys2Proof.Machine
end

