-- ==== Sys2Proof/Machine/Pattern.lean ====
section
/-! DEFINITION. The Pattern Generator (Chapter 7): slots and levels, the transfer, the clamps, the over-temperature hold,
staging and the install of the lines. -/

namespace Sys2Proof.Machine

/-! ### Slots (R126 to R130) -/

/-- Pattern slot `i` of a pattern of `len` slots is open under `count` (R127). -/
def openSlot (count len i : Nat) : Bool := (i + 1) * count / len - i * count / len == 1

/-- The line starts output slot `index` at instant `start`: it plays pattern slot (index + φ) mod L and asserts THn if
that slot is closed (R126, R128). -/
def Line.startSlot (l : Line) (start index : Nat) : Line :=
  { l with
    slotIndex := index
    slotStart := start
    asserted := !openSlot l.live l.len ((index + l.phi) % l.len) }

/-- The slot in progress has lasted the slot time by instant `t`. -/
def Line.slotDue (l : Line) (t : Nat) : Bool := decide (l.slotStart + us l.slotTimeUs ≤ t)

/-- The slot index advances by one, passing from L - 1 to 0; the new slot starts where the old one ended (R126). -/
def Line.nextSlot (l : Line) : Line :=
  l.startSlot (l.slotStart + us l.slotTimeUs) ((l.slotIndex + 1) % l.len)

/-- SLOT_EXPIRY of line `n` (R126). A slot that has not lasted its time does not end (log 2). -/
def execSlotExpiry (t : Nat) (n : Bay) (s : State) : Host.Outcome State Fault Refusal :=
  event t s fun s =>
    if (s.lines.get n).slotDue s.now then s.setLine n (s.lines.get n).nextSlot else s

/-! ### The transfer (R130, R135, R136, R140) -/

/-- A staged count is clamped at its transfer when the derate flag is set and its derate mark is clear (R135). -/
def Staged.clamps (x : Staged) (derate : Bool) : Bool := derate && !x.derateMark

/-- The live count a transfer leaves (R135 steps 1 and 2). -/
def Line.transferred (l : Line) (derate : Bool) (countDerate : Nat) : Nat :=
  match l.staged with
  | some x => if x.clamps derate then min x.count countDerate else x.count
  | none => l.live

/-- The hold at the transfer: RELEASING becomes FREE (R140). -/
def Hold.atTransfer : Hold → Hold
  | .releasing => .free
  | h => h

/-- The transfer on one line at instant `start`. Lines in DEFAULT mode take no part (R135). -/
def Line.transfer (l : Line) (derate : Bool) (countDerate start : Nat) : Line :=
  match l.mode with
  | .default => l
  | .profile =>
    { l with
      live := l.transferred derate countDerate
      staged := none
      hold := l.hold.atTransfer }.startSlot start 0

/-- The transfer takes the derate clamp on this line (R136). -/
def Line.takesClamp (l : Line) (derate : Bool) : Bool :=
  match l.mode, l.staged with
  | .profile, some x => x.clamps derate
  | _, _ => false

/-- The transfer took the derate clamp on at least one line (R136). -/
def State.takesClamp (s : State) : Bool := numbers8.any fun n => (s.lines.get n).takesClamp s.cycle.derate

/-- The transfer of a boundary at instant `start`, on the staged counts and the derate flag as it finds them (R135). -/
def State.transfer (s : State) (start : Nat) : State :=
  s.setLines (s.lines.mapIdx fun n l => l.transfer s.cycle.derate (s.bayBlock n).countDerate start)

/-! ### The derate clamp (R137) -/

/-- The fast clamp on one line. -/
def Line.fastClamp (l : Line) (countDerate : Nat) : Line :=
  match l.mode with
  | .default => l
  | .profile => { l with live := min l.live countDerate }

/-- A derate event at the Pattern Generator (R137). -/
def State.fastClamp (s : State) : State :=
  s.setLines (s.lines.mapIdx fun n l => l.fastClamp (s.bayBlock n).countDerate)

/-! ### The over-temperature hold (R139 to R141) -/

/-- An over-temperature event at one line (R139). -/
def Line.overtemp (l : Line) (countMin : Nat) : Line :=
  match l.mode with
  | .default => l
  | .profile =>
    { l with
      live := countMin
      staged := l.staged.map fun x => { x with count := countMin }
      hold := .held }

/-- The hold at the snapshot of a boundary: HELD becomes REASSESSING (R140). -/
def Line.atSnapshot (l : Line) : Line :=
  match l.mode, l.hold with
  | .profile, .held => { l with hold := .reassessing }
  | _, _ => l

/-- The snapshot on every line (R140). -/
def State.holdsAtSnapshot (s : State) : State := s.setLines (s.lines.mapIdx fun _ l => l.atSnapshot)

/-- The hold after a completion: REASSESSING becomes RELEASING (R141). -/
def Hold.atCompletion : Hold → Hold
  | .reassessing => .releasing
  | h => h

/-- The count a completion stages: the count of stage 5, or Amin under HELD (R141). -/
def Hold.stagedCount (h : Hold) (count countMin : Nat) : Nat :=
  match h with
  | .held => countMin
  | _ => count

/-- A completion stages a count on a line in PROFILE mode, with the derate mark of its snapshot (R134, R141). -/
def Line.stage (l : Line) (count countMin : Nat) (derated : Bool) : Line :=
  match l.mode with
  | .default => l
  | .profile =>
    { l with
      staged := some ⟨l.hold.stagedCount count countMin, derated⟩
      hold := l.hold.atCompletion }

/-! ### Install (R143, R144) -/

/-- The pattern fields of a bay are unchanged by an install: L, Amin, Ad, Af and φ (R143). -/
def BayBlock.samePattern (a b : BayBlock) : Bool :=
  a.len == b.len && a.countMin == b.countMin && a.countDerate == b.countDerate &&
    a.countFallback == b.countFallback && a.phi == b.phi

/-- The live count of a bay occupied in the new profile (R143). `old` is its block in the replaced profile. -/
def Line.installedCount (l : Line) (old new : BayBlock) (derate : Bool) : Nat :=
  match l.hold with
  | .free =>
    if old.occupied && old.samePattern new then l.live
    else if derate then min new.countFallback new.countDerate
    else new.countFallback
  | _ => new.countMin

/-- An install on one line at instant `start` (R143, R144). -/
def Line.install (l : Line) (old new : BayBlock) (slotTimeUs : Nat) (derate : Bool) (start : Nat) : Line :=
  if new.occupied then
    { l with
      mode := .profile
      len := new.len
      live := l.installedCount old new derate
      phi := new.phi
      slotTimeUs := slotTimeUs
      staged := none }.startSlot start 0
  else
    match l.mode with
    | .default => l
    | .profile => Line.defaultAt start

end Sys2Proof.Machine
end

