-- ==== Sys2Proof/Machine/Sensor.lean ====
section
/-! DEFINITION. The Sensor Monitor (Chapter 2): samples, error notices, timers, over-temperature and the install. -/

namespace Sys2Proof.Machine

/-! ### Ages -/

/-- The time since acceptance has reached `limit` ms by instant `t`. -/
def SensorRec.ageReached (r : SensorRec) (t limit : Nat) : Bool :=
  match r.acceptedAt with
  | some a => decide (a + ms limit ≤ t)
  | none => false

/-- The reported sample age: whole ms, truncated, saturating at 65535, and 65535 before any acceptance (R35, R37). -/
def SensorRec.age (r : SensorRec) (t : Nat) : Nat :=
  match r.acceptedAt with
  | some a => min 65535 ((t - a) / Config.nsPerMs)
  | none => 65535

/-- The run silence has reached `limit` ms by instant `t` (R25). -/
def Run.silent (run : Run) (t limit : Nat) : Bool := decide (run.lastAt + ms limit ≤ t)

/-! ### Samples (R22 to R28) -/

/-- A sample's temperature differs from the reference by at most the step limit (R22). -/
def plausible (step reference temp : Nat) : Bool := decide (max reference temp - min reference temp ≤ step)

/-- The held sample's temperature. VALID and STALE always have one; without one the model reads 0 (log 19). -/
def SensorRec.heldTemp (r : SensorRec) : Nat :=
  match r.held with
  | some x => x.temp
  | none => 0

/-- The five effects of an acceptance at instant `t` (R26). -/
def SensorRec.accept (r : SensorRec) (t : Nat) (x : Sample) : SensorRec :=
  { r with
    state := .valid
    held := some x
    acceptedAt := some t
    implRun := 0
    maxTemp := max r.maxTemp x.temp }

/-- A run starts or restarts with this sample (R23, R24). -/
def SensorRec.startRun (r : SensorRec) (t : Nat) (origin : Origin) (x : Sample) : SensorRec :=
  { r with state := .acquiring ⟨origin, .one, x, t⟩ }

/-- What a delivered sample does to a record. -/
structure SampleOutcome where
  record : SensorRec
  accepted : Bool
  jump : Bool
  deriving DecidableEq, Repr

/-- A sample taken in ACQUIRING (R24). -/
def SensorRec.sampleInRun (r : SensorRec) (p : SensorParams) (t : Nat) (run : Run) (x : Sample) : SampleOutcome :=
  if plausible p.step run.sample.temp x.temp then
    match run.count with
    | .one => ⟨{ r with state := .acquiring ⟨run.origin, .two, x, t⟩ }, false, false⟩
    | .two => ⟨r.accept t x, true, false⟩
  else ⟨r.startRun t run.origin x, false, false⟩

/-- A sample taken in VALID or STALE (R27, R28). -/
def SensorRec.sampleHeld (r : SensorRec) (p : SensorParams) (t : Nat) (x : Sample) : SampleOutcome :=
  if plausible p.step r.heldTemp x.temp then ⟨r.accept t x, true, false⟩
  else if r.implRun = 2 then ⟨{ r.accept t x with implCount := satInc8 r.implCount }, true, true⟩
  else ⟨{ r with implRun := r.implRun + 1, implCount := satInc8 r.implCount }, false, false⟩

/-- A delivered sample (R20, R23 to R28). -/
def SensorRec.takeSample (r : SensorRec) (p : SensorParams) (t : Nat) (x : Sample) : SampleOutcome :=
  match r.state with
  | .absent => ⟨r.startRun t .absent x, false, false⟩
  | .lost => ⟨r.startRun t .lost x, false, false⟩
  | .acquiring run => r.sampleInRun p t run x
  | .valid => r.sampleHeld p t x
  | .stale => r.sampleHeld p t x

/-! ### Ends of runs and timers (R25, R29, R30) -/

/-- The run ends and the bay returns to its origin; on every entry into ABSENT or LOST the implausible run is 0 (R23, R25). -/
def SensorRec.endRun (r : SensorRec) (origin : Origin) : SensorRec :=
  match origin with
  | .absent => { r with state := .absent, implRun := 0 }
  | .lost => { r with state := .lost, implRun := 0 }

/-- An error notice, of any cause (R23, R25, R29). -/
def SensorRec.notice (r : SensorRec) : SensorRec :=
  match r.state with
  | .acquiring run => r.endRun run.origin
  | _ => r

/-- The stale timer, if it has expired by instant `t` (R29). -/
def SensorRec.staleExpiry (r : SensorRec) (p : SensorParams) (t : Nat) : SensorRec :=
  match r.state with
  | .valid => if r.ageReached t p.stale then { r with state := .stale } else r
  | _ => r

/-- The lost timer, if it has expired by instant `t` (R30). -/
def SensorRec.lostExpiry (r : SensorRec) (p : SensorParams) (t : Nat) : SensorRec :=
  match r.state with
  | .stale =>
    if r.ageReached t p.lost then { r with state := .lost, implRun := 0, loss := satInc16 r.loss } else r
  | _ => r

/-- The run-silence timer, if it has expired by instant `t` (R25). -/
def SensorRec.silenceExpiry (r : SensorRec) (p : SensorParams) (t : Nat) : SensorRec :=
  match r.state with
  | .acquiring run => if run.silent t p.stale then r.endRun run.origin else r
  | _ => r

/-- The timers measured against new parameters within an install: a VALID bay may pass through STALE to LOST (R34). -/
def SensorRec.remeasure (r : SensorRec) (p : SensorParams) (t : Nat) : SensorRec :=
  ((r.staleExpiry p t).lostExpiry p t).silenceExpiry p t

/-! ### What the record hands on (R32, R33) -/

/-- SENSOR for the bay link that serves the bay in the installed profile, SENSOR_ANY for the shelf link (R32). -/
def State.raiseSensor (s : State) (n : Bay) : State :=
  (s.raiseServing s.bindings n .sensor 0).raiseShelf .sensorAny (flagBit n)

/-- Record `n` replaced; a change of state or a JUMP raises the alerts of R32, once. -/
def State.updateSensor (s : State) (n : Bay) (r : SensorRec) (jump : Bool) : State :=
  if jump || r.state.code != (s.sensors.get n).state.code then (s.setSensor n r).raiseSensor n
  else s.setSensor n r

/-- The over-temperature threshold of a bay occupied in the installed profile (R33). -/
def State.overtempThreshold (s : State) (n : Bay) : Option Nat :=
  match s.store.installed with
  | some p => if (p.bays.get n).occupied then some ((p.bays.get n).limit + p.shelf.margin) else none
  | none => none

/-- The over-temperature event at the Pattern Generator with its two alerts (R33, R139). -/
def State.overtemp (s : State) (n : Bay) : State :=
  ((s.setLine n ((s.lines.get n).overtemp (s.bayBlock n).countMin)).raiseServing s.bindings n .overtemp 0).raiseShelf
    .overtempAny (flagBit n)

/-- The over-temperature test of an accepted sample (R33). -/
def State.overtempTest (s : State) (n : Bay) (temp : Nat) : State :=
  match s.overtempThreshold n with
  | some limit => if limit ≤ temp then s.overtemp n else s
  | none => s

/-- A sample delivered for bay `n` is taken as one event, timed at the clock (R15, R20). -/
def State.deliverSample (s : State) (n : Bay) (x : Sample) : State :=
  let o := (s.sensors.get n).takeSample s.params s.now x
  let s' := s.updateSensor n o.record o.jump
  if o.accepted then s'.overtempTest n x.temp else s'

/-- An error notice delivered for bay `n` (R15, R20). -/
def State.deliverNotice (s : State) (n : Bay) : State :=
  s.updateSensor n (s.sensors.get n).notice false

/-! ### The timers' commands -/

/-- STALE_TIMER (R29). A timer that has not expired changes nothing (log 2). -/
def execStaleTimer (t : Nat) (n : Bay) (s : State) : Host.Outcome State Fault Refusal :=
  event t s fun s => s.updateSensor n ((s.sensors.get n).staleExpiry s.params s.now) false

/-- LOST_TIMER (R30). -/
def execLostTimer (t : Nat) (n : Bay) (s : State) : Host.Outcome State Fault Refusal :=
  event t s fun s => s.updateSensor n ((s.sensors.get n).lostExpiry s.params s.now) false

/-- RUN_SILENCE (R25). -/
def execRunSilence (t : Nat) (n : Bay) (s : State) : Host.Outcome State Fault Refusal :=
  event t s fun s => s.updateSensor n ((s.sensors.get n).silenceExpiry s.params s.now) false

/-! ### Install (R34) -/

/-- The parameters of a profile's shelf block (R21). -/
def Profile.sensorParams (p : Profile) : SensorParams := ⟨p.shelf.staleMs, p.shelf.lostMs, p.shelf.stepLimit⟩

/-- The install at the Sensor Monitor, once the new profile's bindings are in force (R34). -/
def State.installSensors (s : State) (p : Profile) : State :=
  numbers8.foldl (fun s n => s.updateSensor n ((s.sensors.get n).remeasure p.sensorParams s.now) false)
    (s.setParams p.sensorParams)

end Sys2Proof.Machine
end

