-- ==== Sys2Proof/Machine/Capture.lean ====
section
/-! DEFINITION. The Sense Capture Unit (Chapter 1): the expiries of a decoder, the taking of an accepted edge, errors and
deliveries, and the commands of the rail sense lines. -/

namespace Sys2Proof.Machine

/-! ### Errors and deliveries (R12, R14) -/

/-- The counter of a cause is incremented, saturating (R14). -/
def Decoder.count (d : Decoder) (c : CaptureCause) : Decoder :=
  match c with
  | .marker => { d with marker := satInc8 d.marker }
  | .gap => { d with gap := satInc8 d.gap }
  | .width => { d with width := satInc8 d.width }
  | .tail => { d with tail := satInc8 d.tail }
  | .stuck => { d with stuck := satInc8 d.stuck }

/-- The decoder enters SEEK at instant `start`, its partial values discarded; in SEEK it stays there (R6, R13, R14). -/
def Decoder.abandon (d : Decoder) (start : Nat) : Decoder :=
  match d.state with
  | .seek => { d with temp := none, power := none }
  | _ => { d with state := .seek, seekAt := start, temp := none, power := none }

/-- A capture error of decoder `n`, whose instant is `start`: the decoder becomes `d` abandoned and counted, the notice
is delivered and CAPTURE_ERROR raised (R14). -/
def State.captureError (s : State) (n : Bay) (d : Decoder) (c : CaptureCause) (start : Nat) : State :=
  ((s.setDecoder n ((d.abandon start).count c)).deliverNotice n).raiseShelf .captureError (flagBit n)

/-! ### Expiries (R3) -/

/-- The last instant, up to `t`, at which the filter has settled the level: with a candidate open, the instant it opened. An
expiry that falls due after it waits for the candidate (R3). -/
def Decoder.settledTo (d : Decoder) (t : Nat) : Nat :=
  match d.candidate with
  | some c => min t c
  | none => t

/-- The quiet low of SEEK runs from the later of the entry into SEEK and the last accepted falling edge (R6). -/
def Decoder.quietFrom (d : Decoder) : Nat := max d.seekAt d.edgeAt

/-- SEEK's quiet low has reached 1000 µs by instant `t` (R6). -/
def Decoder.quietDue (d : Decoder) (t : Nat) : Bool :=
  d.state == .seek && !d.level && decide (d.quietFrom + quietTime ≤ t)

/-- A gap has reached 201 µs by instant `t` with the line still low (R9). -/
def Decoder.gapDue (d : Decoder) (t : Nat) : Bool :=
  (d.state == .gapA || d.state == .gapB) && decide (d.edgeAt + gapTime ≤ t)

/-- A value pulse has reached 1074 µs by instant `t` with the line still high (R10). -/
def Decoder.pulseDue (d : Decoder) (t : Nat) : Bool :=
  (d.state == .temp || d.state == .power) && decide (d.edgeAt + pulseTime ≤ t)

/-- The tail has reached 1000 µs by instant `t` (R12). -/
def Decoder.tailDue (d : Decoder) (t : Nat) : Bool :=
  d.state == .tail && decide (d.edgeAt + tailTime ≤ t)

/-- A high run has reached 2000 µs by instant `t` and has not been counted (R13). -/
def Decoder.stuckDue (d : Decoder) (t : Nat) : Bool :=
  d.level && !d.stuckCounted && decide (d.edgeAt + stuckTime ≤ t)

/-- The sample a complete frame carries (R5, R12). -/
def Decoder.sample (d : Decoder) : Sample := ⟨d.temp.getD 0, d.power.getD 0⟩

/-- The frame is complete: GOOD is counted, the partial values are cleared, the decoder enters IDLE (R12, R16). -/
def Decoder.complete (d : Decoder) : Decoder :=
  { d with state := .idle, temp := none, power := none, good := d.good + 1 }

/-- The quiet low's expiry, if due by `t` (R6). -/
def State.takeQuiet (s : State) (n : Bay) (t : Nat) : State :=
  if (s.capture.get n).quietDue ((s.capture.get n).settledTo t) then s.setDecoder n { s.capture.get n with state := .idle } else s

/-- The gap's expiry, if due by `t`: its instant is when it fell due (R3, R9). -/
def State.takeGap (s : State) (n : Bay) (t : Nat) : State :=
  if (s.capture.get n).gapDue ((s.capture.get n).settledTo t) then
    s.captureError n (s.capture.get n) .gap ((s.capture.get n).edgeAt + gapTime)
  else s

/-- The value pulse's expiry, if due by `t` (R3, R10). -/
def State.takePulse (s : State) (n : Bay) (t : Nat) : State :=
  if (s.capture.get n).pulseDue ((s.capture.get n).settledTo t) then
    s.captureError n (s.capture.get n) .width ((s.capture.get n).edgeAt + pulseTime)
  else s

/-- The tail's expiry, if due by `t`: the sample is delivered (R12). -/
def State.takeTail (s : State) (n : Bay) (t : Nat) : State :=
  if (s.capture.get n).tailDue ((s.capture.get n).settledTo t) then
    (s.setDecoder n (s.capture.get n).complete).deliverSample n (s.capture.get n).sample
  else s

/-- The high run's expiry, if due by `t` (R13). -/
def State.takeStuck (s : State) (n : Bay) (t : Nat) : State :=
  if (s.capture.get n).stuckDue ((s.capture.get n).settledTo t) then
    s.captureError n { s.capture.get n with stuckCounted := true } .stuck ((s.capture.get n).edgeAt + stuckTime)
  else s

/-- Every expiry of line `n` that fell due at or before `t` and waits for no candidate is taken, in the order it fell due:
which of an expiry and an edge is taken depends only on the edge's time stamp (R3, R11; log 5). A decoder in whose state an
expiry was already taken at its own command has none due. -/
def State.settleLine (s : State) (n : Bay) (t : Nat) : State :=
  ((((s.takeTail n t).takeGap n t).takePulse n t).takeQuiet n t).takeStuck n t

/-! ### Accepted edges (R6 to R11) -/

/-- The width of a marker is good (R8). -/
def markerGood (w : Nat) : Bool := decide (400 ≤ w ∧ w ≤ 600)
/-- The width of a gap is good (R9). -/
def gapGood (w : Nat) : Bool := decide (40 ≤ w ∧ w ≤ 200)
/-- The width of a value pulse is good (R10). -/
def pulseGood (w : Nat) : Bool := decide (50 ≤ w ∧ w ≤ 1073)

/-- What an accepted edge does to the decoder's frame: it moves on, or the frame is abandoned with a cause. -/
inductive EdgeResult where
  | moves (d : Decoder)
  | abandons (c : CaptureCause)
  deriving DecidableEq, Repr

/-- A rising edge that ends an interval of width `w` (R6, R7, R9, R11). -/
def Decoder.rising (d : Decoder) (w : Nat) : EdgeResult :=
  match d.state with
  | .idle => .moves { d with state := .marker }
  | .gapA => if gapGood w then .moves { d with state := .temp } else .abandons .gap
  | .gapB => if gapGood w then .moves { d with state := .power } else .abandons .gap
  | .tail => .abandons .tail
  | .seek => .moves d
  | .marker => .moves d
  | .temp => .moves d
  | .power => .moves d

/-- A falling edge that ends an interval of width `w` (R5, R6, R8, R10). -/
def Decoder.falling (d : Decoder) (w : Nat) : EdgeResult :=
  match d.state with
  | .marker => if markerGood w then .moves { d with state := .gapA } else .abandons .marker
  | .temp => if pulseGood w then .moves { d with state := .gapB, temp := some (w - 50) } else .abandons .width
  | .power => if pulseGood w then .moves { d with state := .tail, power := some (w - 50) } else .abandons .width
  | .seek => .moves d
  | .idle => .moves d
  | .gapA => .moves d
  | .gapB => .moves d
  | .tail => .moves d

/-- The edge against the filtered level: rising when it is low, falling when it is high (R2). -/
def Decoder.edge (d : Decoder) (t : Nat) : EdgeResult :=
  if d.level then d.falling (widthUs d.edgeAt t) else d.rising (widthUs d.edgeAt t)

/-- The filtered level changes and the candidate is no longer open; the next interval is measured from the edge's time
stamp, and a high run that the edge begins or ends has not been counted as STUCK (R2, R3, R13). -/
def Decoder.turn (d : Decoder) (t : Nat) : Decoder :=
  { d with level := !d.level, candidate := none, edgeAt := t, stuckCounted := false }

/-- An accepted edge with time stamp `t` is taken by decoder `n`, no expiry being due before it. -/
def State.takeEdge (s : State) (n : Bay) (t : Nat) : State :=
  match (s.capture.get n).edge t with
  | .moves d => s.setDecoder n (d.turn t)
  | .abandons c => s.captureError n ((s.capture.get n).turn t) c t

/-- An accepted edge: what fell due by its time stamp is taken first (R3). -/
def State.lineEdge (s : State) (n : Bay) (t : Nat) : State := (s.settleLine n t).takeEdge n t

/-! ### The glitch filter (R2) -/

/-- The candidate that has lasted 4 µs by instant `t`: its edge is accepted (R2). -/
def Decoder.accepted (d : Decoder) (t : Nat) : Option Nat := d.candidate.filter fun c => decide (c + filterTime ≤ t)

/-- The open candidate of line `n`, if it has lasted 4 µs by now, is accepted, and its edge is taken with its own time
stamp (R2, R3). -/
def State.acceptEdge (s : State) (n : Bay) : State :=
  match (s.capture.get n).accepted s.now with
  | some c => s.lineEdge n c
  | none => s

/-- The raw line takes its other level at instant `t`: a departure from the filtered level opens a candidate, a return to it
drops the one that is open (R2). -/
def Decoder.toggle (d : Decoder) (t : Nat) : Decoder :=
  { d with raw := !d.raw, candidate := if d.raw = d.level then some t else none }

/-- The raw line of `n` changes at instant `t`, or at the clock's reading if that is later (log 1). A candidate that had
lasted 4 µs is accepted first; an expiry that waited for a candidate is taken as it is dropped (R2, R3). -/
def State.rawChange (n : Bay) (s : State) (t : Nat) : State :=
  let s' := (s.advance t).acceptEdge n
  (s'.setDecoder n ((s'.capture.get n).toggle s'.now)).settleLine n s'.now

/-- The raw line of `n` changes at each instant of a trace and then holds until its end (R2). -/
def State.followRaw (s : State) (n : Bay) (raw : RawTrace) : State :=
  ((raw.changes.foldl (State.rawChange n) s).advance raw.upto).acceptEdge n

/-- The candidate of line `n` has lasted 4 µs by now and its edge is a capture error of this cause (R8 to R11). -/
def State.edgeFails (s : State) (n : Bay) (cause : CaptureCause) : Bool :=
  match (s.capture.get n).accepted s.now with
  | some c => ((s.settleLine n c).capture.get n).edge c == .abandons cause
  | none => false

/-! ### The commands -/

/-- ACCEPTED_EDGE, with what the raw line did before it (R2, R3; log 8). While RST is asserted the raw level alone follows the
line: the filter starts at the release (R19; log 7). -/
def execAcceptedEdge (raw : RawTrace) (n : Bay) (s : State) : Host.Outcome State Fault Refusal :=
  if s.inReset then
    .next ((s.advance raw.upto).setDecoder n
      { s.capture.get n with raw := rawAfter (s.capture.get n).raw raw.changes.length })
  else .next (s.followRaw n raw)

/-- QUIET_LOW (R6). -/
def execQuietLow (t : Nat) (n : Bay) (s : State) : Host.Outcome State Fault Refusal :=
  event t s fun s => s.takeQuiet n s.now

/-- An edge of line `n` that is accepted now and is an error of this cause; without one nothing changes (log 2). -/
def State.takeBadEdge (s : State) (n : Bay) (cause : CaptureCause) : State :=
  if s.edgeFails n cause then s.acceptEdge n else s

/-- CAPTURE_MARKER_ERROR: a falling edge in MARKER whose width is not 400 to 600 µs, before the high run reaches 2000 µs
(R8). -/
def execCaptureMarkerError (t : Nat) (n : Bay) (s : State) : Host.Outcome State Fault Refusal :=
  event t s fun s => s.takeBadEdge n .marker

/-- CAPTURE_GAP_ERROR: a gap that has reached 201 µs, or else a rising edge that ends it below 40 µs (R9). -/
def execCaptureGapError (t : Nat) (n : Bay) (s : State) : Host.Outcome State Fault Refusal :=
  event t s fun s => if s.edgeFails n .gap then s.acceptEdge n else s.takeGap n s.now

/-- CAPTURE_WIDTH_ERROR: a value pulse that has reached 1074 µs, or else a falling edge that ends it below 50 µs (R10). -/
def execCaptureWidthError (t : Nat) (n : Bay) (s : State) : Host.Outcome State Fault Refusal :=
  event t s fun s => if s.edgeFails n .width then s.acceptEdge n else s.takePulse n s.now

/-- CAPTURE_TAIL_ERROR: a rising edge whose time stamp lies before the tail reaches 1000 µs (R11). -/
def execCaptureTailError (t : Nat) (n : Bay) (s : State) : Host.Outcome State Fault Refusal :=
  event t s fun s => s.takeBadEdge n .tail

/-- STUCK (R13): an over-long value pulse is counted as WIDTH first. -/
def execStuck (t : Nat) (n : Bay) (s : State) : Host.Outcome State Fault Refusal :=
  event t s fun s => (s.takePulse n s.now).takeStuck n s.now

/-- TAIL_COMPLETE (R12). -/
def execTailComplete (t : Nat) (n : Bay) (s : State) : Host.Outcome State Fault Refusal :=
  event t s fun s => s.takeTail n s.now

end Sys2Proof.Machine
end

