-- ==== Sys2Proof/Machine/Burst.lean ====
section
/-! DEFINITION. The Burst Unit (Chapter 6): the admission round, withdrawal, and the install of the accounts. -/

namespace Sys2Proof.Machine

/-! ### Accounts (R104) -/

/-- A burst's amount is credited to its pool. -/
def PoolAccount.credit (a : PoolAccount) (amount : Nat) : PoolAccount := { a with remaining := a.remaining + amount }

/-- A burst's amount is charged to its pool. -/
def PoolAccount.charge (a : PoolAccount) (amount : Nat) : PoolAccount := { a with remaining := a.remaining - amount }

/-- A round ended at a head blocked by the pool: exhausted is set, the counter counts and wraps (R113). -/
def PoolAccount.mark (a : PoolAccount) : PoolAccount := { a with exhausted := true, blocked := a.blocked + 1 }

/-! ### Leaving the structures (R102, R104) -/

/-- The bay has an entry in the queue. -/
def BurstUnit.hasEntry (b : BurstUnit) (n : Bay) : Bool := b.queue.any fun e => e.bay == n

/-- The bay's entry leaves the queue; those behind it close up. -/
def BurstUnit.dropEntry (b : BurstUnit) (n : Bay) : BurstUnit :=
  { b with queue := b.queue.filter fun e => e.bay != n }

/-- The bay's active burst leaves the table and its pool is credited at once (R104, R110). -/
def BurstUnit.dropActive (b : BurstUnit) (n : Bay) : BurstUnit :=
  match b.active.get n with
  | some r =>
    { b with
      active := b.active.set n none
      pools := b.pools.modify r.pool fun a => a.credit r.amount }
  | none => b

/-- The bay's entry and its active burst both leave (R118, R119). -/
def BurstUnit.withdraw (b : BurstUnit) (n : Bay) : BurstUnit := (b.dropEntry n).dropActive n

/-- The bay has an entry or an active burst. -/
def BurstUnit.holds (b : BurstUnit) (n : Bay) : Bool := b.hasEntry n || (b.active.get n).isSome

/-! ### Step 1: ageing (R111) -/

/-- The bay's record is lowered by one; one that reaches 0 leaves the table and credits its pool. -/
def BurstUnit.ageBay (b : BurstUnit) (n : Bay) : BurstUnit :=
  match b.active.get n with
  | some r =>
    if r.remaining ≤ 1 then b.dropActive n
    else { b with active := b.active.set n (some { r with remaining := r.remaining - 1 }) }
  | none => b

/-- The bay's burst ends in this round's ageing. -/
def BurstUnit.ends (b : BurstUnit) (n : Bay) : Bool :=
  match b.active.get n with
  | some r => decide (r.remaining ≤ 1)
  | none => false

/-- Every record is aged. -/
def BurstUnit.age (b : BurstUnit) : BurstUnit := numbers8.foldl BurstUnit.ageBay b

/-- The amount of a bay's active burst, 0 without one. -/
def BurstUnit.activeAmount (b : BurstUnit) (n : Bay) : Nat :=
  match b.active.get n with
  | some r => r.amount
  | none => 0

/-- The sum of the amounts of the records in the table. -/
def BurstUnit.activeSum (b : BurstUnit) : Nat := sum8 b.activeAmount

/-! ### Step 2: admission (R112, R113) -/

/-- How step 2 ended. -/
inductive RoundEnd where
  | emptied
  | blockedByBay
  | blockedByPool (p : Pool)
  | blockedByShelf
  deriving DecidableEq, Repr

/-- The working values of step 2: the table, the accounts, K and the bays admitted so far, in order. -/
structure RoundWork where
  active : Row8 (Option ActiveBurst)
  pools : Row4 PoolAccount
  total : Nat
  admitted : List Bay
  deriving DecidableEq, Repr

/-- What blocks a head: the shelf, whatever the head, while K stands above S before step 2 (R117), and else the first test that
it fails, in the order of the table of R112. Step 2 never raises K above S, so the K of any head shows whether it stood above S
before. DESIGN CHOICE, log 24: R112 has the first failing test decide in that case too. -/
def RoundWork.blocks (w : RoundWork) (cap : Nat) (e : QueueEntry) : Option RoundEnd :=
  if cap < w.total then some .blockedByShelf
  else if (w.active.get e.bay).isSome then some .blockedByBay
  else if (w.pools.get e.pool).remaining < e.amount then some (.blockedByPool e.pool)
  else if cap < w.total + e.amount then some .blockedByShelf
  else none

/-- An admissible head is admitted (R112). -/
def RoundWork.admitHead (w : RoundWork) (e : QueueEntry) : RoundWork where
  active := w.active.set e.bay (some ⟨e.pool, e.amount, e.duration, e.tag⟩)
  pools := w.pools.modify e.pool fun a => a.charge e.amount
  total := w.total + e.amount
  admitted := w.admitted ++ [e.bay]

/-- Heads are examined until the queue is empty or the head is inadmissible; what is left of the queue is answered. -/
def RoundWork.run (cap : Nat) (w : RoundWork) : List QueueEntry → RoundWork × List QueueEntry × RoundEnd
  | [] => (w, [], .emptied)
  | e :: rest =>
    match w.blocks cap e with
    | some why => (w, e :: rest, why)
    | none => (w.admitHead e).run cap rest

/-- A round that ended at a head blocked by its pool marks that pool; no other end marks one (R113). -/
def RoundEnd.marks (r : RoundEnd) (pools : Row4 PoolAccount) : Row4 PoolAccount :=
  match r with
  | .blockedByPool p => pools.modify p PoolAccount.mark
  | _ => pools

/-! ### Step 3: expiry (R114) -/

/-- The bays whose entries expire, in queue order. -/
def expiredBays (q : List QueueEntry) : List Bay := (q.filter fun e => decide (e.roundsLeft ≤ 1)).map QueueEntry.bay

/-- Every entry still queued has its rounds left lowered; one that reaches 0 is removed. -/
def expireQueue (q : List QueueEntry) : List QueueEntry :=
  (q.filter fun e => decide (1 < e.roundsLeft)).map fun e => { e with roundsLeft := e.roundsLeft - 1 }

/-! ### The round (R47, R111 to R116) -/

/-- What an admission round leaves and hands back. -/
structure RoundResult where
  unit : BurstUnit
  /-- The copy of the active table: pool and amount (R116). -/
  copy : Row8 (Option (Pool × Nat))
  ended : List Bay
  admitted : List Bay
  expired : List Bay
  outcome : RoundEnd
  deriving DecidableEq, Repr

/-- The copy of a table: pool and amount of each record (R116). -/
def copyTable (t : Row8 (Option ActiveBurst)) : Row8 (Option (Pool × Nat)) :=
  t.mapIdx fun _ r => r.map fun a => (a.pool, a.amount)

/-- The admission round against the cap S and the commitment base (R111). -/
def BurstUnit.round (b : BurstUnit) (cap base : Nat) : RoundResult :=
  let aged := b.age
  let r := RoundWork.run cap ⟨aged.active, aged.pools, base + aged.activeSum, []⟩ aged.queue
  { unit := ⟨expireQueue r.2.1, r.1.active, r.2.2.marks r.1.pools⟩
    copy := copyTable r.1.active
    ended := numbers8.filter b.ends
    admitted := r.1.admitted
    expired := expiredBays r.2.1
    outcome := r.2.2 }

/-- The round's alerts: BURST_ENDED, BURST_ADMITTED and BURST_EXPIRED for the serving bay links, POOL_EXHAUSTED for the
shelf link with the pool's flag (R113, R115). -/
def State.raiseRound (s : State) (r : RoundResult) : State :=
  let s1 := s.raiseEach s.bindings r.ended .burstEnded 0
  let s2 := s1.raiseEach s.bindings r.admitted .burstAdmitted 0
  let s3 := s2.raiseEach s.bindings r.expired .burstExpired 0
  match r.outcome with
  | .blockedByPool p => s3.raiseShelf .poolExhausted (1#8 <<< p.val)
  | _ => s3

/-- The commitment base: over the occupied bays, the pin of a pinned bay and the floor of any other (R47, R111). -/
def commitmentBase (p : Profile) (pin : Row8 (Option Nat)) : Nat :=
  sum8 fun n => if (p.bays.get n).occupied then (pin.get n).getD (p.bays.get n).floor else 0

/-! ### Withdrawal and install (R118 to R120) -/

/-- PIN BAY's withdrawal: BURST_WITHDRAWN with reason PINNED if the bay had an entry or a burst (R118). -/
def State.withdrawForPin (s : State) (n : Bay) : State :=
  if s.burst.holds n then
    (s.setBurst (s.burst.withdraw n)).raiseServing s.bindings n .burstWithdrawn reasonPinned
  else s

/-- A bay link reset's withdrawal on the bays it serves: silent (R119). -/
def State.withdrawSilently (s : State) (bays : List Bay) : State :=
  s.setBurst (bays.foldl BurstUnit.withdraw s.burst)

/-- The bays with an entry or a burst. -/
def BurstUnit.holders (b : BurstUnit) : List Bay := numbers8.filter b.holds

/-- The Burst Unit after an install: empty structures and full accounts; flags and blocked counters are kept (R120). -/
def BurstUnit.install (b : BurstUnit) (p : Profile) : BurstUnit where
  queue := []
  active := Row8.const none
  pools := Row4.ofFn fun i =>
    { b.pools.get i with reserve := (p.pools.get i).reserve, remaining := (p.pools.get i).reserve }

/-- An install at the Burst Unit: BURST_WITHDRAWN with reason PROFILE for each bay that held something, through the
bindings `old` of the profile being replaced (R120). -/
def State.installBurst (s : State) (old : Row8 (List Bay)) (p : Profile) : State :=
  (s.raiseEach old s.burst.holders .burstWithdrawn reasonProfile).setBurst (s.burst.install p)

end Sys2Proof.Machine
end

