-- ==== Sys2Proof/Machine/Operands.lean ====
section
/-! DEFINITION. The operand forms of requests and replies: multi-byte fields, the kind table, request and reply frames and
their CRC (R148, R154). -/

namespace Sys2Proof.Machine

/-! ### Fields (high byte first, 00_scope.md) -/

/-- One byte. -/
def byte1 (n : Nat) : Byte := BitVec.ofNat 8 n

/-- A two-byte field. -/
def bytes2 (n : Nat) : List Byte := [byte1 (n / 256), byte1 n]

/-- A four-byte field. -/
def bytes4 (n : Nat) : List Byte := [byte1 (n / 16777216), byte1 (n / 65536), byte1 (n / 256), byte1 n]

/-- A two-byte field's value. -/
def value2 (hi lo : Byte) : Nat := hi.toNat * 256 + lo.toNat

/-- Byte `i` of a block's data. -/
def byteAt (body : List Byte) (i : Nat) : Nat := (body.getD i 0).toNat

/-- The two-byte field at byte `i`. -/
def wordAt (body : List Byte) (i : Nat) : Nat := byteAt body i * 256 + byteAt body (i + 1)

/-- A byte that names a bay, 0 to 7. -/
def bayOfNat (n : Nat) : Option Bay := if h : n < 8 then some ⟨n, h⟩ else none

/-- A byte that names a link: 0 to 7 for BL0 to BL7, 8 for SL (R154). -/
def linkOfNat (n : Nat) : Option LinkId :=
  if n = 8 then some .shelf else (bayOfNat n).map LinkId.bay

/-! ### CRC-16 (R148) -/

/-- One bit of x^16 + x^12 + x^5 + 1, most significant bit first. -/
def crcBit (c : BitVec 16) : BitVec 16 :=
  if c.getLsbD 15 then (c <<< 1) ^^^ 0x1021 else c <<< 1

/-- One byte. -/
def crcByte (c : BitVec 16) (b : Byte) : BitVec 16 :=
  crcBit (crcBit (crcBit (crcBit (crcBit (crcBit (crcBit (crcBit (c ^^^ (b.zeroExtend 16 <<< 8)))))))))

/-- The CRC of a list of bytes, from 0xFFFF, with no final inversion. -/
def crc16 (bs : List Byte) : BitVec 16 := bs.foldl crcByte 0xFFFF

/-- The CRC's first byte on the wire. -/
def crcHigh (c : BitVec 16) : Byte := c.extractLsb' 8 8

/-- The CRC's second byte on the wire. -/
def crcLow (c : BitVec 16) : Byte := c.extractLsb' 0 8

/-! ### Frames (R148) -/

/-- A request's start byte. -/
def startByte : Byte := 0xC3

/-- Length byte through last parameter. -/
def Request.content (r : Request) : List Byte := byte1 (r.params.length + 2) :: r.kind :: r.tag :: r.params

/-- The request as its frame's characters. -/
def Request.frame (r : Request) : List Byte :=
  startByte :: (r.content ++ [crcHigh (crc16 r.content), crcLow (crc16 r.content)])

/-- Length byte through last data byte. -/
def Reply.content (r : Reply) : List Byte := byte1 (r.data.length + 3) :: r.kind :: r.tag :: r.status :: r.data

/-- The reply as the bytes the transmitter sends. -/
def Reply.frame (r : Reply) : List Byte :=
  0x3C :: (r.content ++ [crcHigh (crc16 r.content), crcLow (crc16 r.content)])

/-- A character on the line, bit by bit: a low start bit, the eight data bits from the least significant on, a high stop
bit (R148). -/
def charBits (b : Byte) : List Bool :=
  [false, b.getLsbD 0, b.getLsbD 1, b.getLsbD 2, b.getLsbD 3, b.getLsbD 4, b.getLsbD 5, b.getLsbD 6, b.getLsbD 7, true]

/-- The bits of characters sent back to back (R148). -/
def lineBits (bs : List Byte) : List Bool := bs.flatMap charBits

/-! ### Kinds (R154 kind table) -/

/-- The request kinds. -/
inductive Kind where
  | getBay | setDemand | askBurst | dropBurst | getAlert | setAlertMask | getHistory
  | getShelf | getPools | getCaptureCounters | getSensor | getLinkCounters
  | pinBay | unpinBay | setCap | releaseBayLink | shelfReset | setAlertGroups
  | profileBlock | profileDiscard | profileRead | profileCommit
  deriving DecidableEq, Repr

/-- The kind's code. -/
def Kind.code : Kind → Byte
  | .getBay => 0x10
  | .setDemand => 0x11
  | .askBurst => 0x12
  | .dropBurst => 0x13
  | .getAlert => 0x14
  | .setAlertMask => 0x15
  | .getHistory => 0x16
  | .getShelf => 0x20
  | .getPools => 0x21
  | .getCaptureCounters => 0x22
  | .getSensor => 0x23
  | .getLinkCounters => 0x24
  | .pinBay => 0x30
  | .unpinBay => 0x31
  | .setCap => 0x32
  | .releaseBayLink => 0x33
  | .shelfReset => 0x34
  | .setAlertGroups => 0x35
  | .profileBlock => 0x40
  | .profileDiscard => 0x41
  | .profileRead => 0x42
  | .profileCommit => 0x43

/-- The kinds of the table. -/
def Kind.all : List Kind :=
  [.getBay, .setDemand, .askBurst, .dropBurst, .getAlert, .setAlertMask, .getHistory,
   .getShelf, .getPools, .getCaptureCounters, .getSensor, .getLinkCounters,
   .pinBay, .unpinBay, .setCap, .releaseBayLink, .shelfReset, .setAlertGroups,
   .profileBlock, .profileDiscard, .profileRead, .profileCommit]

/-- The kind a code names; a code not in the table names none (R161 check 1). -/
def Kind.ofCode (b : Byte) : Option Kind := Kind.all.find? fun k => k.code == b

/-- The kinds open to the shelf link only (R154, R161 check 2). -/
def Kind.shelfOnly : Kind → Bool
  | .getBay | .setDemand | .askBurst | .dropBurst | .getAlert | .setAlertMask | .getHistory => false
  | _ => true

/-- The kinds that check 3 of R161 refuses on a bay link with an empty binding list. -/
def Kind.needsBinding : Kind → Bool
  | .getBay | .setDemand | .askBurst | .dropBurst | .getHistory => true
  | _ => false

/-! ### Status codes (R163) -/

inductive Status where
  | ok | okClamped | notBound | access | kind | param | busy | state | pinned | check | none
  deriving DecidableEq, Repr

/-- The code's byte. -/
def Status.code : Status → Byte
  | .ok => 0
  | .okClamped => 1
  | .notBound => 2
  | .access => 3
  | .kind => 4
  | .param => 5
  | .busy => 6
  | .state => 7
  | .pinned => 8
  | .check => 9
  | .none => 10

end Sys2Proof.Machine
end

