-- ==== Sys2Proof/Machine/Port.lean ====
section
/-! DEFINITION. The Link Ports' own operations (Chapter 8): receive errors, gaps, and the link resets of R157 and R158. -/

namespace Sys2Proof.Machine

/-- Link `k`'s receive decoder put in a state. -/
def State.setRx (s : State) (k : LinkId) (rx : RxState) : State := s.setPort k { s.port k with rx := rx }

/-! ### Receive errors (R150, R155) -/

/-- The counter of a cause is incremented, saturating. -/
def LinkCounters.count (c : LinkCounters) (cause : LinkCause) : LinkCounters :=
  match cause with
  | .noise => { c with noise := satInc8 c.noise }
  | .gap => { c with gap := satInc8 c.gap }
  | .framing => { c with framing := satInc8 c.framing }
  | .length => { c with length := satInc8 c.length }
  | .crc => { c with crc := satInc8 c.crc }
  | .overrun => { c with overrun := satInc8 c.overrun }
  | .brk => { c with brk := satInc8 c.brk }

/-- LINK_ERROR's vector: the bay link's bit, empty for the shelf link itself (R150). -/
def linkErrorVector : LinkId → Flags8
  | .bay n => flagBit n
  | .shelf => 0

/-- A detected error of link `k`: counted, LINK_ERROR raised, and the decoder left in `rx` (R150). -/
def State.linkError (s : State) (k : LinkId) (cause : LinkCause) (rx : RxState) : State :=
  (s.setPort k { s.port k with rx := rx, counters := (s.port k).counters.count cause }).raiseShelf .linkError
    (linkErrorVector k)

/-- A frame is in progress (R150, R157). -/
def RxState.inFrame : RxState → Bool
  | .hunt => false
  | .discard => false
  | _ => true

/-- The gap after the last character has reached 201 µs by instant `t` with no new start bit (R150, R151). -/
def Port.gapReached (p : Port) (t : Nat) : Bool := p.char.isNone && decide (p.lastCharEnd + linkGapTime ≤ t)

/-- The frame in progress is abandoned by GAP, if due by `t` (R150). -/
def State.takeLinkGap (s : State) (k : LinkId) (t : Nat) : State :=
  if (s.port k).rx.inFrame && (s.port k).gapReached t then s.linkError k .gap .hunt else s

/-- DISCARD ends, if due by `t`, without counting (R151). -/
def State.takeDiscardEnd (s : State) (k : LinkId) (t : Nat) : State :=
  if (s.port k).rx == .discard && (s.port k).gapReached t then s.setRx k .hunt else s

/-! ### Link resets (R157, R158) -/

/-- The receive decoder at a break, and under the link reset that RELEASE BAY LINK causes exactly as at a break: a partial
frame is abandoned into DISCARD, and HUNT stays. That DISCARD ends in HUNT is stated for a break (R151, R157) and, the
reset being the same, read so for RELEASE BAY LINK (R170; log 10). -/
def RxState.atBreak : RxState → RxState
  | .hunt => .hunt
  | .discard => .hunt
  | _ => .discard

/-- The inbox and the reply in transmission are abandoned at instant `t`: the reply is cut off at the end of its character in
progress, and RDY follows the inbox (R152, R157). -/
def Port.abandon (p : Port) (t : Nat) : Port := { p with inbox := [], reply := none, tx := p.tx.cutAt t }

/-- A bay link's alert state under its reset: nothing pending, the default mask, its groups kept (R176). -/
def AlertState.linkReset (a : AlertState) : AlertState := { a with pendingCauses := Row8.const none, mask := 0 }

/-- The declared flags of some bays are cleared (R101). -/
def Allocator.undeclare (a : Allocator) (bays : List Bay) : Allocator :=
  { a with demand := a.demand.mapIdx fun n v => if bays.contains n then none else v }

/-- What a bay link reset at instant `t` does beyond the receive decoder: port, alerts, and the demands and bursts of the bays
the link serves in the installed profile (R101, R119, R157, R176). -/
def State.bayLinkEffects (s : State) (i : Fin 8) (t : Nat) : State :=
  let bays := s.bindings.get i
  let s1 := s.setPort (.bay i) ((s.port (.bay i)).abandon t)
  let s2 := s1.setAlert (.bay i) (s1.alert (.bay i)).linkReset
  (s2.setAlloc (s2.alloc.undeclare bays)).withdrawSilently bays

/-- The bay link reset that RELEASE BAY LINK causes at its service (R157, R170). -/
def State.bayLinkReset (s : State) (i : Fin 8) : State :=
  (s.setRx (.bay i) (s.port (.bay i)).rx.atBreak).bayLinkEffects i s.now

/-- The effects of a break of link `k` at instant `t`: a bay link reset, or on the shelf link the Link Port alone (R157,
R158). -/
def State.breakEffects (s : State) (k : LinkId) (t : Nat) : State :=
  let s1 := s.setPort k { s.port k with rx := (s.port k).rx.atBreak, inBreak := true }
  match k with
  | .bay i => s1.bayLinkEffects i t
  | .shelf => s1.setPort .shelf ((s1.port .shelf).abandon t)

end Sys2Proof.Machine
end

