-- ==== Sys2Proof/Machine/Ceiling.lean ====
section
/-! DEFINITION. The Ceiling Calculator (Chapter 4): the walk over the occupied bays in airflow order. -/

namespace Sys2Proof.Machine

/-- What the walk leaves for a bay (R63). -/
structure Ceiling where
  power : Nat
  deficit : Bool
  subst : Bool
  deriving DecidableEq, Repr

/-- The ceilings computed so far; a bay not yet reached, or vacant, has none. -/
abbrev Ceilings := Row8 (Option Ceiling)

/-- The ceiling of a bay, 0 where it has none. -/
def Ceilings.power (c : Ceilings) (n : Bay) : Nat :=
  match c.get n with
  | some x => x.power
  | none => 0

/-- P' of an upstream bay: its held power, or 0 when its sensor is unusable (R65, R66). -/
def presentPower (usable : Row8 UsableSample) (n : Bay) : Nat :=
  match usable.get n with
  | some x => x.power
  | none => 0

/-- The headroom H = Tl - T (R64). -/
def headroom (limit temp : Nat) : Int := (limit : Int) - (temp : Int)

/-- One entry's term c × (C_i - P_i') (R65, R66). -/
def upstreamTerm (x : Snapshot) (done : Ceilings) (e : Coupling) : Int :=
  (e.strength : Int) * ((done.power e.up : Int) - (presentPower x.usable e.up : Int))

/-- The upstream sum U of bay `n` (R65). -/
def upstreamSum (x : Snapshot) (done : Ceilings) (n : Bay) : Int :=
  ((x.profile.couplings.filter fun e => e.down == n).map (upstreamTerm x done)).sum

/-- The numerator N = 256 × H - U (R67). -/
def numerator (x : Snapshot) (done : Ceilings) (n : Bay) (smp : Sample) : Int :=
  256 * headroom (x.profile.bays.get n).limit smp.temp - upstreamSum x done n

/-- The unclamped value P + Δ with Δ = floor(N / r) (R69). -/
def unclamped (x : Snapshot) (done : Ceilings) (n : Bay) (smp : Sample) : Int :=
  (smp.power : Int) + Int.fdiv (numerator x done n smp) ((x.profile.bays.get n).selfGain : Int)

/-- A power clamped to the range from 0 to the peak (R70). -/
def clampPower (peak : Nat) (v : Int) : Nat := min v.toNat peak

/-- Bay `n`'s ceiling and flags, with the ceilings already done (R63, R68, R70, R71, R72). -/
def ceilingOf (x : Snapshot) (done : Ceilings) (n : Bay) : Ceiling :=
  let b := x.profile.bays.get n
  match x.usable.get n with
  | none => ⟨b.fallback, false, true⟩
  | some smp =>
    if b.selfGain = 0 then ⟨b.peak, false, false⟩
    else ⟨clampPower b.peak (unclamped x done n smp), decide (unclamped x done n smp < (b.idle : Int)), false⟩

/-- One bay of the walk. -/
def ceilingStep (x : Snapshot) (done : Ceilings) (n : Bay) : Ceilings := done.set n (some (ceilingOf x done n))

/-- The walk in airflow order, the bay listed first taken first (R59, R63). -/
def ceilings (x : Snapshot) : Ceilings := x.profile.shelf.airflow.foldl (ceilingStep x) (Row8.const none)

end Sys2Proof.Machine
end

