-- ==== Sys2Proof/Machine/Grant.lean ====
section
/-! DEFINITION. The grant stage (Chapter 5) and the count stage (R132), as functions of a snapshot. -/

namespace Sys2Proof.Machine

/-- The bay is occupied in the snapshot. -/
def Snapshot.occupied (x : Snapshot) (n : Bay) : Bool := (x.profile.bays.get n).occupied

/-- The bay's block in the snapshot. -/
def Snapshot.block (x : Snapshot) (n : Bay) : BayBlock := x.profile.bays.get n

/-- The bay's ceiling of stage 3. -/
def Snapshot.ceiling (x : Snapshot) (n : Bay) : Nat := (ceilings x).power n

/-- The effective demand D: the declared value, or the floor (R79). -/
def Snapshot.effectiveDemand (x : Snapshot) (n : Bay) : Nat := (x.demand.get n).getD (x.block n).floor

/-- The amount u of the bay's active burst in the copy, 0 without one (R83, R84). -/
def Snapshot.burstAmount (x : Snapshot) (n : Bay) : Nat :=
  match x.bursts.get n with
  | some (_, a) => a
  | none => 0

/-- The commitment B (R83); a vacant bay has none and counts 0. -/
def Snapshot.commitment (x : Snapshot) (n : Bay) : Nat :=
  if x.occupied n then
    match x.pin.get n with
    | some p => min p (x.ceiling n)
    | none => min ((x.block n).floor + x.burstAmount n) (x.ceiling n)
  else 0

/-- ΣB. -/
def Snapshot.commitments (x : Snapshot) : Nat := sum8 x.commitment

/-- The cap is short when ΣB > S (R85). -/
def Snapshot.short (x : Snapshot) : Bool := decide (x.cap < x.commitments)

/-- The residue R = S - ΣB (R87). -/
def Snapshot.residue (x : Snapshot) : Nat := x.cap - x.commitments

/-- The want W: max(0, min(D, C) - B), and 0 for a pinned bay (R88). -/
def Snapshot.want (x : Snapshot) (n : Bay) : Nat :=
  if x.occupied n && (x.pin.get n).isNone then min (x.effectiveDemand n) (x.ceiling n) - x.commitment n else 0

/-- ΣW of the bays whose block names pool `p` (R89). -/
def Snapshot.poolWants (x : Snapshot) (p : Pool) : Nat :=
  sum8 fun n => if x.occupied n && (x.block n).pool == p then x.want n else 0

/-- W′ of the pool stage (R89). -/
def Snapshot.pooled (x : Snapshot) (n : Bay) : Nat :=
  let p := (x.block n).pool
  let q := (x.profile.pools.get p).extra
  if x.poolWants p ≤ q then x.want n else x.want n * q / x.poolWants p

/-- ΣW′. -/
def Snapshot.pooledSum (x : Snapshot) : Nat := sum8 x.pooled

/-- There is contention across the shelf when ΣW′ > R (R91, R92). -/
def Snapshot.contended (x : Snapshot) : Bool := decide (x.residue < x.pooledSum)

/-- X before the hand-out: W′ without contention, else floor(W′ × R / ΣW′) (R91, R92). -/
def Snapshot.share (x : Snapshot) (n : Bay) : Nat :=
  if x.contended then x.pooled n * x.residue / x.pooledSum else x.pooled n

/-- The leftover V = R - ΣX; nothing is handed out without contention (R91, R93). -/
def Snapshot.leftover (x : Snapshot) : Nat := if x.contended then x.residue - sum8 x.share else 0

/-- The bay visited `i` places after the rotation pointer: p + i modulo 8 (R93). -/
def visited (p i : Fin 8) : Bay := p + i

/-- One visit of the hand-out: an eligible bay receives 1 hw while any is left (R93). -/
def handOutVisit (pooled : Bay → Nat) (w : Nat × Row8 Nat) (n : Bay) : Nat × Row8 Nat :=
  if 0 < w.1 ∧ w.2.get n < pooled n then (w.1 - 1, w.2.set n (w.2.get n + 1)) else w

/-- The hand-out: one pass over the eight bay numbers from the rotation pointer on (R93). -/
def Snapshot.handedOut (x : Snapshot) : Nat × Row8 Nat :=
  (numbers8.map (visited x.rotation)).foldl (handOutVisit x.pooled) (x.leftover, Row8.ofFn x.share)

/-- X, the bay's final share (R91 to R93). -/
def Snapshot.final (x : Snapshot) (n : Bay) : Nat := x.handedOut.2.get n

/-- The grant G: floor(B × S / ΣB) on the short path, B + X on the normal path (R86, R95); a vacant bay has none and
counts 0. -/
def Snapshot.grant (x : Snapshot) (n : Bay) : Nat :=
  if x.short then x.commitment n * x.cap / x.commitments else x.commitment n + x.final n

/-- ΣG. -/
def Snapshot.grants (x : Snapshot) : Nat := sum8 x.grant

/-- The sought power Y (R96). -/
def Snapshot.sought (x : Snapshot) (n : Bay) : Nat :=
  match x.pin.get n with
  | some p => p
  | none => max ((x.block n).floor + x.burstAmount n) (x.effectiveDemand n)

/-- DEFICIT and SUBST of stage 3. -/
def Snapshot.deficit (x : Snapshot) (n : Bay) : Bool :=
  match (ceilings x).get n with
  | some c => c.deficit
  | none => false

def Snapshot.subst (x : Snapshot) (n : Bay) : Bool :=
  match (ceilings x).get n with
  | some c => c.subst
  | none => false

/-- The flags of a bay's record (R97). -/
def Snapshot.flags (x : Snapshot) (n : Bay) : RecordFlags where
  thermal := decide (x.ceiling n < x.sought n)
  deficit := x.deficit n
  subst := x.subst n
  pinned := (x.pin.get n).isSome
  short := x.short
  pool := !x.short && decide (x.pooled n < x.want n)
  shelf := !x.short && decide (x.final n < x.pooled n)
  burst := (x.bursts.get n).isSome

/-- The count of a grant (R132). -/
def countOf (b : BayBlock) (g : Nat) : Nat :=
  if g ≤ b.idle then b.countMin
  else if b.peak ≤ g then b.len
  else max b.countMin ((g - b.idle) * b.len / (b.peak - b.idle))

/-- The bay's count of stage 5. -/
def Snapshot.count (x : Snapshot) (n : Bay) : Nat := countOf (x.block n) (x.grant n)

/-- The bay's epoch record, for a bay occupied in the snapshot (R52). -/
def Snapshot.record (x : Snapshot) (n : Bay) : Option EpochRecord :=
  if x.occupied n then some ⟨x.grant n, x.ceiling n, x.count n, x.burstAmount n, x.flags n⟩ else none

/-- The set of records of the allocation (R52). -/
def Snapshot.records (x : Snapshot) : Row8 (Option EpochRecord) := Row8.ofFn x.record

/-- The history summary of the allocation (R54). -/
def Snapshot.summary (x : Snapshot) : Summary where
  epoch := x.epoch
  cap := x.cap
  grants := x.grants
  admissions := x.admitted
  presence := x.presence
  short := x.short
  derated := x.derated
  clamped := x.clamped

end Sys2Proof.Machine
end

