-- ==== Sys2Proof/Machine/Cycle.lean ====
section
/-! DEFINITION. The allocation cycle (Chapter 3): the derate line, the install of a profile (R181), the boundary with its
snapshot and admission round, and the completion. -/

namespace Sys2Proof.Machine

/-! ### The derate line (R41 to R43) -/

/-- The debounce that is running has lasted 200 µs by instant `t` (R41). -/
def CycleTimer.debounceDue (c : CycleTimer) (t : Nat) : Bool :=
  match c.drtSince with
  | some a => decide (a + debounceTime ≤ t)
  | none => false

/-- A derate assertion is due (R41). -/
def CycleTimer.assertionDue (c : CycleTimer) (t : Nat) : Bool := c.rawDrt && !c.debounced && c.debounceDue t

/-- A derate deassertion is due (R41). -/
def CycleTimer.deassertionDue (c : CycleTimer) (t : Nat) : Bool := !c.rawDrt && c.debounced && c.debounceDue t

/-- A derate assertion: the flag is set in either engine state; while RUNNING the fast clamp is applied and DERATE raised,
even if the flag was still set (R42, R43). -/
def State.assertDerate (s : State) : State :=
  let s' := s.setCycle { s.cycle with debounced := true, drtSince := none, derate := true }
  match s.alloc.engine with
  | .running => s'.fastClamp.raiseShelf .derate 0
  | .stopped => s'

/-- A derate deassertion: the flag stays set while RUNNING and clears at once while STOPPED (R42, R43). -/
def State.deassertDerate (s : State) : State :=
  match s.alloc.engine with
  | .running => s.setCycle { s.cycle with debounced := false, drtSince := none }
  | .stopped => s.setCycle { s.cycle with debounced := false, drtSince := none, derate := false }

/-- The change of the debounced level, if due by `t`. -/
def State.settleDrt (s : State) (t : Nat) : State :=
  if s.cycle.assertionDue t then s.assertDerate
  else if s.cycle.deassertionDue t then s.deassertDerate
  else s

/-- The raw line takes a level: a departure from the debounced level starts a debounce, a return drops it (R41). -/
def CycleTimer.raw (c : CycleTimer) (t : Nat) (high : Bool) : CycleTimer :=
  if c.rawDrt = high then c
  else { c with rawDrt := high, drtSince := if high = c.debounced then none else some t }

/-- DERATE_ASSERTION (R42). -/
def execDerateAssertion (t : Nat) (s : State) : Host.Outcome State Fault Refusal :=
  event t s fun s => if s.cycle.assertionDue s.now then s.assertDerate else s

/-- DERATE_DEASSERTION (R42). -/
def execDerateDeassertion (t : Nat) (s : State) : Host.Outcome State Fault Refusal :=
  event t s fun s => if s.cycle.deassertionDue s.now then s.deassertDerate else s

/-- RAW_DRT_CHANGE: a debounce that had lasted its 200 µs changes the level first (R41; log 5). While RST is asserted the
line moves but is not tracked: it is timed from the release (R41; log 7). -/
def execRawDrtChange (t : Nat) (high : Bool) (s : State) : Host.Outcome State Fault Refusal :=
  let s' := s.advance t
  if s.inReset then .next (s'.setCycle { s'.cycle with rawDrt := high })
  else
    let s'' := s'.settleDrt s'.now
    .next (s''.setCycle (s''.cycle.raw s''.now high))

/-! ### Install (R181) -/

/-- A declared demand or a pin under a new profile: removed for a vacant bay, else reduced to the new Pk (R81). -/
def installLimit (p : Profile) (v : Row8 (Option Nat)) : Row8 (Option Nat) :=
  v.mapIdx fun n x => if (p.bays.get n).occupied then x.map fun v => min v (p.bays.get n).peak else none

/-- The install of profile `p` at instant `start`, with its effects on every block (R181): bursts and pools (R120), lines
(R143, R144), the store (R177), demands and pins (R81), sensor parameters and timers (R34), PROFILE_INSTALLED. -/
def State.install (s : State) (p : Profile) (start : Nat) : State :=
  let s1 := s.installBurst s.bindings p
  let s2 := s1.setLines
    (s.lines.mapIdx fun n l => l.install (s.bayBlock n) (p.bays.get n) p.shelf.slotTimeUs s.cycle.derate start)
  let s3 := s2.setStore { s2.store with installed := some p, waiting := none }
  let s4 := s3.setAlloc
    { s3.alloc with demand := installLimit p s3.alloc.demand, pin := installLimit p s3.alloc.pin }
  (s4.installSensors p).raiseShelf .profileInstalled 0

/-- The pending profile is installed, if present (R45 step 1). -/
def State.installWaiting (s : State) (start : Nat) : State :=
  match s.store.waiting with
  | some p => s.install p start
  | none => s

/-! ### The snapshot (R45 to R47) -/

/-- The derate check: a set flag with the level low is cleared and DERATE raised (R45); at the first boundary a set flag
stays set and DERATE is raised (R43). -/
def State.derateCheck (s : State) (first : Bool) : State :=
  if s.cycle.derate && !s.cycle.debounced then
    (s.setCycle { s.cycle with derate := false }).raiseShelf .derate 0
  else if first && s.cycle.derate then s.raiseShelf .derate 0
  else s

/-- The cap in force (R42, R46). -/
def capInForce (p : Profile) (derate : Bool) : Nat := if derate then p.shelf.capDerated else p.shelf.capNormal

/-- A record's usable sample: VALID and STALE give the held sample, the other states none (R35, R62). -/
def SensorRec.usable (r : SensorRec) : UsableSample :=
  match r.state with
  | .valid => r.held
  | .stale => r.held
  | _ => none

/-- The admission round of a boundary under the installed profile `p` (R47). -/
def State.round (s : State) (p : Profile) : RoundResult :=
  s.burst.round (capInForce p s.cycle.derate) (commitmentBase p s.alloc.pin)

/-- What the snapshot copies, with what the round hands back (R46, R47). -/
def State.snapshot (s : State) (p : Profile) (clamped : Bool) (r : RoundResult) : Snapshot where
  epoch := s.alloc.epoch
  profile := p
  cap := capInForce p s.cycle.derate
  derated := s.cycle.derate
  usable := s.sensors.mapIdx fun _ r => r.usable
  presence := s.presence
  demand := s.alloc.demand
  pin := s.alloc.pin
  rotation := s.alloc.rotation
  clamped := clamped
  bursts := r.copy
  admitted := r.admitted.length

/-- Snapshot and admission round: the operation is in flight from here on (R44, R46, R47). A running engine always has an
installed profile (R39). -/
def State.beginOperation (s : State) (clamped : Bool) : State :=
  match s.store.installed with
  | none => s
  | some p =>
    let r := s.round p
    ((s.setBurst r.unit).raiseRound r).setAlloc { s.alloc with flight := some (s.snapshot p clamped r) }

/-! ### The boundary (R39, R40, R44) -/

/-- The engine runs and the epoch number increments, wrapping (R38, R39). -/
def State.nextEpoch (s : State) : State :=
  s.setAlloc { s.alloc with engine := .running, epoch := s.alloc.epoch + 1 }

/-- The epoch timer is set E ms on, E being that of the profile installed when the snapshot stage ends (R40). -/
def State.restartEpochTimer (s : State) (start : Nat) : State :=
  match s.store.installed with
  | none => s
  | some p => s.setCycle { s.cycle with epochDue := some (start + ms p.shelf.epochMs) }

/-- The boundary whose instant is `start`: transfer, epoch number, install, derate check, snapshot, admission round. -/
def State.takeBoundary (s : State) (start : Nat) : State :=
  let first := s.alloc.engine == .stopped
  let s1 := ((s.transfer start).nextEpoch).installWaiting start
  let s2 := (s1.derateCheck first).restartEpochTimer start
  s2.holdsAtSnapshot.beginOperation s.takesClamp

/-! ### Completion (R51 to R54) -/

/-- A summary joins the ring as the newest; a ninth pushes out the oldest (R54). -/
def pushSummary (ring : List Summary) (x : Summary) : List Summary :=
  (ring ++ [x]).drop (ring.length - 7)

/-- The record carries DEFICIT. -/
def hasDeficit (r : Option EpochRecord) : Bool :=
  match r with
  | some x => x.flags.deficit
  | none => false

/-- THERMAL is raised: DEFICIT now, and no record or no DEFICIT before (R53). -/
def thermalRaised (before now : Option EpochRecord) : Bool := hasDeficit now && !hasDeficit before

/-- GRANT is raised: a record before and now, and the grants differ by at least the threshold (R53). -/
def grantRaised (threshold : Nat) (before now : Option EpochRecord) : Bool :=
  match before, now with
  | some a, some b => decide (threshold ≤ max a.grant b.grant - min a.grant b.grant)
  | _, _ => false

/-- The alerts of a completion, through the bindings of the snapshot's profile (R53). -/
def State.raiseCompletion (s : State) (x : Snapshot) (before : Row8 (Option EpochRecord)) : State :=
  let bindings := x.profile.bindings
  let thermal := numbers8.filter fun n => thermalRaised (before.get n) (x.record n)
  let grant := numbers8.filter fun n =>
    grantRaised x.profile.shelf.alertThreshold (before.get n) (x.record n)
  let s' := (s.raiseEach bindings thermal .thermal 0).raiseEach bindings grant .grant 0
  if x.short then s'.raiseShelf .capShort 0 else s'

/-- The counts of stage 5 are staged on the lines of the bays occupied in the snapshot (R51, R134). -/
def State.stageCounts (s : State) (x : Snapshot) : State :=
  s.setLines (s.lines.mapIdx fun n l =>
    if x.occupied n then l.stage (x.count n) (x.block n).countMin x.derated else l)

/-- What the Grant Allocator publishes at completion (R51). -/
def Allocator.publish (a : Allocator) (x : Snapshot) : Allocator :=
  { a with
    rotation := a.rotation + 1
    records := x.records
    ring := pushSummary a.ring x.summary
    stickyShort := a.stickyShort || x.short
    flight := none }

/-- Completion of the operation whose snapshot is `x` (R51). -/
def State.complete (s : State) (x : Snapshot) : State :=
  ((s.stageCounts x).raiseCompletion x s.alloc.records).setAlloc (s.alloc.publish x)

/-- Completion of the operation in flight, if any. -/
def State.completeFlight (s : State) : State :=
  match s.alloc.flight with
  | some x => s.complete x
  | none => s

/-- COMPLETION (R51). With no operation in flight nothing completes (log 2). -/
def execCompletion (t : Nat) (s : State) : Host.Outcome State Fault Refusal :=
  event t s fun s => s.completeFlight

/-- BOUNDARY: the epoch timer has expired (R40, R44). Its instant is the one the timer was set to (log 20). An operation
still in flight has completed before it (R44; log 17). -/
def execBoundary (t : Nat) (s : State) : Host.Outcome State Fault Refusal :=
  event t s fun s =>
    match s.cycle.epochDue with
    | some d => if d ≤ s.now then s.completeFlight.takeBoundary d else s
    | none => s

end Sys2Proof.Machine
end

