-- ==== Sys2Proof/Machine/Profile.lean ====
section
/-! DEFINITION. The Profile Store (Chapter 11): the layout and range checks of the twelve blocks, staging, and the checks of a
commit. -/

namespace Sys2Proof.Machine

/-! ### Blocks (Chapter 11, "Blocks and their contents") -/

/-- One block's contents. -/
inductive Block where
  | shelf (b : ShelfBlock)
  | bindings (b : Row8 (List Bay))
  | bay (n : Bay) (b : BayBlock)
  | coupling (b : List Coupling)
  | pools (b : Row4 PoolBlock)
  deriving DecidableEq, Repr

/-- The size of a block's data in bytes; there are twelve blocks. -/
def blockSize (n : Nat) : Option Nat :=
  if n = 0 then some 27
  else if n = 1 then some 24
  else if n ≤ 9 then some 19
  else if n = 10 then some 65
  else if n = 11 then some 16
  else none

/-- A field lies in its range. -/
def inRange (lo hi v : Nat) : Bool := decide (lo ≤ v ∧ v ≤ hi)

/-- `count` bay bytes from byte `i` on: every one a bay, and all distinct. -/
def parseBays (body : List Byte) (i count : Nat) : Option (List Bay) :=
  match (List.range count).mapM fun k => bayOfNat (byteAt body (i + k)) with
  | some l => if l.Nodup then some l else none
  | none => none

/-- Block 0. -/
def parseShelf (body : List Byte) : Option ShelfBlock :=
  let count := byteAt body 18
  if inRange 5 250 (wordAt body 2) && inRange 0 8191 (wordAt body 4) && inRange 0 8191 (wordAt body 6) &&
      inRange 1 255 (byteAt body 9) && inRange 50 5000 (wordAt body 10) && inRange 51 30000 (wordAt body 12) &&
      inRange 1 1023 (wordAt body 14) && inRange 20 2000 (wordAt body 16) && inRange 1 8 count then
    (parseBays body 19 count).map fun order =>
      { format := wordAt body 0
        epochMs := wordAt body 2
        capNormal := wordAt body 4
        capDerated := wordAt body 6
        margin := byteAt body 8
        alertThreshold := byteAt body 9
        staleMs := wordAt body 10
        lostMs := wordAt body 12
        stepLimit := wordAt body 14
        slotTimeUs := wordAt body 16
        airflow := order }
  else none

/-- One bay link's bindings: a count of 0 to 2 and two bay bytes, the ones within the count distinct. -/
def parseBinding (body : List Byte) (k : Fin 8) : Option (List Bay) :=
  if byteAt body (3 * k.val) ≤ 2 then parseBays body (3 * k.val + 1) (byteAt body (3 * k.val)) else none

/-- Eight optional members as one optional row. -/
def sequence8 {α : Type} (f : Fin 8 → Option α) : Option (Row8 α) :=
  match f 0, f 1, f 2, f 3, f 4, f 5, f 6, f 7 with
  | some a, some b, some c, some d, some e, some g, some h, some i => some ⟨a, b, c, d, e, g, h, i⟩
  | _, _, _, _, _, _, _, _ => none

/-- Block 1. -/
def parseBindings (body : List Byte) : Option (Row8 (List Bay)) := sequence8 (parseBinding body)

/-- A pool byte. -/
def poolOfNat (n : Nat) : Option Pool := if h : n < 4 then some ⟨n, h⟩ else none

/-- Blocks 2 to 9. -/
def parseBay (body : List Byte) : Option BayBlock :=
  if inRange 0 1 (byteAt body 0) && inRange 0 1023 (wordAt body 1) && inRange 0 1022 (wordAt body 3) &&
      inRange 1 1023 (wordAt body 5) && inRange 0 1023 (wordAt body 7) && inRange 0 1023 (wordAt body 9) &&
      inRange 0 4095 (wordAt body 11) && inRange 8 64 (byteAt body 14) && inRange 1 64 (byteAt body 15) &&
      inRange 1 64 (byteAt body 16) && inRange 1 64 (byteAt body 17) && inRange 0 63 (byteAt body 18) then
    (poolOfNat (byteAt body 13)).map fun pool =>
      { occupied := byteAt body 0 == 1
        floor := wordAt body 1
        idle := wordAt body 3
        peak := wordAt body 5
        fallback := wordAt body 7
        limit := wordAt body 9
        selfGain := wordAt body 11
        pool := pool
        len := byteAt body 14
        countMin := byteAt body 15
        countDerate := byteAt body 16
        countFallback := byteAt body 17
        phi := byteAt body 18 }
  else none

/-- Entry `i` of block 10. -/
def parseCoupling (body : List Byte) (i : Nat) : Option Coupling :=
  match bayOfNat (byteAt body (4 * i + 1)), bayOfNat (byteAt body (4 * i + 2)) with
  | some down, some up =>
    if inRange 1 1023 (wordAt body (4 * i + 3)) then some ⟨down, up, wordAt body (4 * i + 3)⟩ else none
  | _, _ => none

/-- Block 10. -/
def parseCouplings (body : List Byte) : Option (List Coupling) :=
  if byteAt body 0 ≤ 16 then (List.range (byteAt body 0)).mapM (parseCoupling body) else none

/-- Pool `i` of block 11. -/
def parsePool (body : List Byte) (i : Fin 4) : Option PoolBlock :=
  if inRange 0 8191 (wordAt body (4 * i.val)) && inRange 0 8191 (wordAt body (4 * i.val + 2)) then
    some ⟨wordAt body (4 * i.val), wordAt body (4 * i.val + 2)⟩
  else none

/-- Block 11. -/
def parsePools (body : List Byte) : Option (Row4 PoolBlock) :=
  match parsePool body 0, parsePool body 1, parsePool body 2, parsePool body 3 with
  | some a, some b, some c, some d => some ⟨a, b, c, d⟩
  | _, _, _, _ => none

/-- Block `n` read from its data, every field checked against its range except list entries beyond the count (R178). -/
def parseBlock (n : Nat) (body : List Byte) : Option Block :=
  if n = 0 then (parseShelf body).map .shelf
  else if n = 1 then (parseBindings body).map .bindings
  else if n ≤ 9 then
    match bayOfNat (n - 2) with
    | some k => (parseBay body).map (.bay k)
    | none => none
  else if n = 10 then (parseCouplings body).map .coupling
  else if n = 11 then (parsePools body).map .pools
  else none

/-- A list of bay bytes filled with 0 to `size` (R178). -/
def bayBytes (l : List Bay) (size : Nat) : List Byte :=
  l.map (fun b => byte1 b.val) ++ List.replicate (size - l.length) 0

/-- Block 0's data. -/
def ShelfBlock.bytes (b : ShelfBlock) : List Byte :=
  bytes2 b.format ++ bytes2 b.epochMs ++ bytes2 b.capNormal ++ bytes2 b.capDerated ++ [byte1 b.margin] ++
    [byte1 b.alertThreshold] ++ bytes2 b.staleMs ++ bytes2 b.lostMs ++ bytes2 b.stepLimit ++ bytes2 b.slotTimeUs ++
    [byte1 b.airflow.length] ++ bayBytes b.airflow 8

/-- Block 1's data. -/
def bindingsBytes (r : Row8 (List Bay)) : List Byte :=
  numbers8.flatMap fun k => byte1 (r.get k).length :: bayBytes (r.get k) 2

/-- Blocks 2 to 9's data. -/
def BayBlock.bytes (b : BayBlock) : List Byte :=
  [if b.occupied then 1 else 0] ++ bytes2 b.floor ++ bytes2 b.idle ++ bytes2 b.peak ++ bytes2 b.fallback ++
    bytes2 b.limit ++ bytes2 b.selfGain ++
    [byte1 b.pool.val, byte1 b.len, byte1 b.countMin, byte1 b.countDerate, byte1 b.countFallback, byte1 b.phi]

/-- Block 10's data. -/
def couplingsBytes (l : List Coupling) : List Byte :=
  byte1 l.length ::
    (l.flatMap (fun e => byte1 e.down.val :: byte1 e.up.val :: bytes2 e.strength) ++ List.replicate (64 - 4 * l.length) 0)

/-- Block 11's data. -/
def poolsBytes (r : Row4 PoolBlock) : List Byte :=
  [0, 1, 2, 3].flatMap fun i => bytes2 (r.get i).reserve ++ bytes2 (r.get i).extra

/-- A block's data. -/
def Block.bytes : Block → List Byte
  | .shelf b => b.bytes
  | .bindings b => bindingsBytes b
  | .bay _ b => b.bytes
  | .coupling b => couplingsBytes b
  | .pools b => poolsBytes b

/-- Block `n` of a profile. -/
def Profile.block (p : Profile) (n : Nat) : Option Block :=
  if n = 0 then some (.shelf p.shelf)
  else if n = 1 then some (.bindings p.bindings)
  else if n ≤ 9 then
    match bayOfNat (n - 2) with
    | some k => some (.bay k (p.bays.get k))
    | none => none
  else if n = 10 then some (.coupling p.couplings)
  else if n = 11 then some (.pools p.pools)
  else none

/-- A profile with one block replaced whole (R178). -/
def Profile.setBlock (p : Profile) : Block → Profile
  | .shelf b => { p with shelf := b }
  | .bindings b => { p with bindings := b }
  | .bay n b => { p with bays := p.bays.set n b }
  | .coupling b => { p with couplings := b }
  | .pools b => { p with pools := b }

/-! ### The commit checks (R180) -/

/-- ΣF over the occupied bays. -/
def Profile.floors (p : Profile) : Nat := sum8 fun n => if (p.bays.get n).occupied then (p.bays.get n).floor else 0

/-- Check 3: an occupied bay has Pi ≥ Pk, F > Pk or Pf > Pk. -/
def badPowers (b : BayBlock) : Bool :=
  b.occupied && decide (b.peak ≤ b.idle ∨ b.peak < b.floor ∨ b.peak < b.fallback)

/-- Check 4: an occupied bay has Amin > Ad, Ad > L, Amin > Af, Af > L or φ ≥ L. -/
def badPattern (b : BayBlock) : Bool :=
  b.occupied && decide (b.countDerate < b.countMin ∨ b.len < b.countDerate ∨ b.countFallback < b.countMin ∨
    b.len < b.countFallback ∨ b.len ≤ b.phi)

/-- Check 6: the bay is in one of airflow order and set of occupied bays and not in the other. -/
def orderMismatch (p : Profile) (n : Bay) : Bool := p.shelf.airflow.contains n != (p.bays.get n).occupied

/-- Check 7: an entry names a vacant bay, has its upstream bay not before its downstream bay in the airflow order, or
repeats the pair of an earlier entry. -/
def badCoupling (p : Profile) (earlier : List Coupling) (e : Coupling) : Bool :=
  !(p.bays.get e.down).occupied || !(p.bays.get e.up).occupied ||
    decide (p.shelf.airflow.idxOf e.down ≤ p.shelf.airflow.idxOf e.up) ||
    earlier.any fun x => x.down == e.down && x.up == e.up

/-- The number of bay links that bind a bay. -/
def timesBound (r : Row8 (List Bay)) (n : Bay) : Nat := sum8 fun k => if (r.get k).contains n then 1 else 0

/-- Check 8: an occupied bay is bound to no link or to more than one, or a vacant bay is bound. -/
def badBinding (p : Profile) (n : Bay) : Bool :=
  decide (timesBound p.bindings n ≠ if (p.bays.get n).occupied then 1 else 0)

/-- Check 9 and SET CAP: ΣF ≤ S_d ≤ S_n fails. -/
def badCaps (floors normal derated : Nat) : Bool := decide (derated < floors ∨ normal < derated)

/-- The lowest number below `n` that fails a check. -/
def lowestFailing (n : Nat) (bad : Nat → Bool) : Option Nat := (List.range n).find? bad

/-- The lowest bay that fails a check. -/
def lowestBay (bad : Bay → Bool) : Option Nat := (numbers8.find? bad).map Fin.val

/-- The index of the lowest coupling entry that fails check 7. -/
def lowestCoupling (p : Profile) : Option Nat :=
  lowestFailing p.couplings.length fun i =>
    match p.couplings[i]? with
    | some e => badCoupling p (p.couplings.take i) e
    | none => false

/-- Check `code` fails at an index when `index` names one; a check without a list fails at index 0. -/
def failAt (code : Nat) (index : Option Nat) : Option (Nat × Nat) := index.map fun i => (code, i)

/-- The checks of a commit in order; the first failure with its code and its lowest index (R180). -/
def ProfileStore.firstFailure (st : ProfileStore) : Option (Nat × Nat) :=
  let p := st.staging
  let written := failAt 1 (if st.installed.isNone then lowestFailing 12 fun i => !st.written.getLsbD i else none)
  let format := failAt 2 (if p.shelf.format = 0x0816 then none else some 0)
  let powers := failAt 3 (lowestBay fun n => badPowers (p.bays.get n))
  let pattern := failAt 4 (lowestBay fun n => badPattern (p.bays.get n))
  let times := failAt 5 (if p.shelf.lostMs ≤ p.shelf.staleMs then some 0 else none)
  let order := failAt 6 (lowestBay (orderMismatch p))
  let couplings := failAt 7 (lowestCoupling p)
  let bindings := failAt 8 (lowestBay (badBinding p))
  let caps := failAt 9 (if badCaps p.floors p.shelf.capNormal p.shelf.capDerated then some 0 else none)
  let pools := failAt 10 (lowestFailing 4 fun i => decide (p.shelf.capNormal < (p.pools.get (Fin.ofNat 4 i)).reserve))
  written <|> format <|> powers <|> pattern <|> times <|> order <|> couplings <|> bindings <|> caps <|> pools

end Sys2Proof.Machine
end

