-- ==== Sys2Proof/Machine/Request.lean ====
section
/-! DEFINITION. The Request Handler (Chapter 9) and the service of every request kind: each service is one event that acts on
live state and fixes the reply's status and data (R153, R154, R161 to R163). -/

namespace Sys2Proof.Machine

/-- What a service leaves: the state, the status and the reply's data. -/
structure Answer where
  state : State
  status : Status
  data : List Byte

/-- A refusal, or NONE: no state changes and no data is sent (R154, R163). -/
def refuse (s : State) (status : Status) : Answer := ⟨s, status, []⟩

/-- A refusal by CHECK carries the check code and the index (R154). -/
def refuseCheck (s : State) (code index : Nat) : Answer := ⟨s, .check, [byte1 code, byte1 index]⟩

/-! ### Relocation (R160 to R162) -/

/-- The bay a selector names in a binding list: 0 the first, 1 the second (R160). -/
def boundBay (bound : List Bay) (sel : Nat) : Option Bay :=
  match sel, bound with
  | 0, a :: _ => some a
  | 1, _ :: b :: _ => some b
  | _, _ => none

/-- The bay a selector or bay parameter names, or the status that refuses it: ACCESS for a bay link's selector outside
its list (R161 check 5), PARAM for a bay above 7 from the shelf link (R162). -/
def State.relocate (s : State) (k : LinkId) (sel : Byte) : Except Status Bay :=
  match k with
  | .shelf =>
    match bayOfNat sel.toNat with
    | some n => .ok n
    | none => .error .param
  | .bay i =>
    match boundBay (s.bindings.get i) sel.toNat with
    | some n => .ok n
    | none => .error .access

/-- A service for the bay that a selector names. -/
def withBay (s : State) (k : LinkId) (sel : Byte) (service : Bay → Answer) : Answer :=
  match s.relocate k sel with
  | .ok n => service n
  | .error status => refuse s status

/-! ### GET BAY (R35, R122, R146, R164, R165) -/

/-- A bay's entry with its position counted from the head, from 1 (R102, R122). -/
def findEntry (q : List QueueEntry) (n : Bay) (pos : Nat) : Option (Nat × QueueEntry) :=
  match q with
  | [] => none
  | e :: rest => if e.bay = n then some (pos, e) else findEntry rest n (pos + 1)

/-- The demand GET BAY reports: the declared value, else an occupied bay's floor, else 0 (R79, R165). -/
def State.reportedDemand (s : State) (n : Bay) : Nat :=
  match s.alloc.demand.get n with
  | some v => v
  | none => if s.occupied n then (s.bayBlock n).floor else 0

/-- The 35 data bytes of a GET BAY reply (R154, R164). Bit 7 of the present marks, which the layout does not name, is sent 0:
DESIGN CHOICE, log 23. -/
def State.bayView (s : State) (n : Bay) : List Byte :=
  let r := s.sensors.get n
  let rec? := s.alloc.records.get n
  let l := s.lines.get n
  let entry := findEntry s.burst.queue n 1
  let act := s.burst.active.get n
  let marks := flagsOf (s.occupied n) (s.alloc.demand.get n).isSome (s.alloc.pin.get n).isSome l.staged.isSome
    entry.isSome act.isSome rec?.isSome false
  [byte1 n.val, marks, r.state.code] ++
    bytes2 (r.held.elim 0 Sample.temp) ++ bytes2 (r.held.elim 0 Sample.power) ++ bytes2 (r.age s.now) ++
    bytes2 (s.reportedDemand n) ++ bytes2 ((s.alloc.pin.get n).getD 0) ++
    bytes2 (rec?.elim 0 EpochRecord.grant) ++ bytes2 (rec?.elim 0 EpochRecord.ceiling) ++
    [byte1 (rec?.elim 0 EpochRecord.count)] ++ bytes2 (rec?.elim 0 EpochRecord.burst) ++
    [rec?.elim 0 fun x => x.flags.byte] ++ [byte1 l.live] ++
    [byte1 (entry.elim 0 Prod.fst)] ++ bytes2 (entry.elim 0 fun e => e.2.amount) ++
    [entry.elim 0 fun e => e.2.tag] ++ bytes2 (entry.elim 0 fun e => e.2.roundsLeft) ++
    bytes2 (act.elim 0 ActiveBurst.amount) ++ bytes2 (act.elim 0 ActiveBurst.remaining) ++
    [act.elim 0 ActiveBurst.tag] ++ bytes2 r.maxTemp

def serveGetBay (s : State) (n : Bay) : Answer := ⟨s, .ok, s.bayView n⟩

/-! ### SET DEMAND, PIN BAY, UNPIN BAY (R166 to R168) -/

/-- OK_CLAMPED when the value was above the bound, OK otherwise (R163). -/
def clampStatus (value bound : Nat) : Status := if bound < value then .okClamped else .ok

def serveSetDemand (s : State) (n : Bay) (value : Nat) : Answer :=
  if s.occupied n then
    let peak := (s.bayBlock n).peak
    ⟨s.setAlloc { s.alloc with demand := s.alloc.demand.set n (some (min value peak)) }, clampStatus value peak,
      byte1 n.val :: bytes2 (min value peak)⟩
  else refuse s .param

def servePinBay (s : State) (n : Bay) (value : Nat) : Answer :=
  if s.occupied n then
    let peak := (s.bayBlock n).peak
    ⟨(s.setAlloc { s.alloc with pin := s.alloc.pin.set n (some (min value peak)) }).withdrawForPin n,
      clampStatus value peak, byte1 n.val :: bytes2 (min value peak)⟩
  else refuse s .param

def serveUnpinBay (s : State) (n : Bay) : Answer :=
  if s.occupied n then
    if (s.alloc.pin.get n).isSome then ⟨s.setAlloc { s.alloc with pin := s.alloc.pin.set n none }, .ok, []⟩
    else refuse s .none
  else refuse s .param

/-! ### ASK BURST and DROP BURST (R106, R107, R109, R110) -/

/-- Order 2 of the checks of R106. -/
def State.badAsk (s : State) (n : Bay) (amount duration : Nat) : Bool :=
  !s.occupied n || !inRange 1 511 amount || !inRange 1 4095 duration ||
    decide ((s.burst.pools.get (s.bayBlock n).pool).reserve < amount)

/-- The entry that joins the tail (R107). -/
def State.newEntry (s : State) (n : Bay) (amount duration wait : Nat) (tag : Byte) : QueueEntry :=
  ⟨n, (s.bayBlock n).pool, amount, duration, wait + 1, tag⟩

def serveAskBurst (s : State) (n : Bay) (amount duration wait : Nat) (tag : Byte) : Answer :=
  if s.alloc.engine = .stopped then refuse s .state
  else if s.badAsk n amount duration then refuse s .param
  else if (s.alloc.pin.get n).isSome then refuse s .pinned
  else if s.burst.hasEntry n then refuse s .busy
  else
    let q := s.burst.queue ++ [s.newEntry n amount duration wait tag]
    ⟨s.setBurst { s.burst with queue := q }, .ok, [byte1 q.length]⟩

def serveDropBurst (s : State) (n : Bay) (choice : Nat) : Answer :=
  if !s.occupied n || decide (1 < choice) then refuse s .param
  else if choice = 0 then
    if s.burst.hasEntry n then ⟨s.setBurst (s.burst.dropEntry n), .ok, []⟩ else refuse s .none
  else
    if (s.burst.active.get n).isSome then ⟨s.setBurst (s.burst.dropActive n), .ok, []⟩ else refuse s .none

/-! ### Alerts (R173 to R175) -/

/-- The lowest-numbered cause that satisfies a predicate. -/
def lowestCause (p : Fin 8 → Bool) : Option (Fin 8) := numbers8.find? p

/-- The cause GET ALERT selects: OVERTEMP_ANY first on the shelf link, then the high group, then the rest (R174). -/
def selectCause (k : LinkId) (a : AlertState) : Option (Fin 8) :=
  if k = .shelf ∧ (a.pendingCauses.get 0).isSome then some 0
  else
    (lowestCause fun c => (a.pendingCauses.get c).isSome && a.groups.getLsbD c.val) <|>
      lowestCause fun c => (a.pendingCauses.get c).isSome

/-- GET ALERT (R174). Bits 2 to 7 of the reason byte, which name nothing, are sent 0: DESIGN CHOICE, log 23. -/
def serveGetAlert (s : State) (k : LinkId) : Answer :=
  let a := s.alert k
  match selectCause k a with
  | none => ⟨s, .ok, [255, 0, 0]⟩
  | some c =>
    match a.pendingCauses.get c with
    | none => ⟨s, .ok, [255, 0, 0]⟩
    | some r =>
      ⟨s.setAlert k { a with pendingCauses := a.pendingCauses.set c none }, .ok,
        [byte1 c.val, r.vector, r.reasons.zeroExtend 8]⟩

/-- On the shelf link bit 0 of the mask is stored clear (R173). -/
def storedMask (k : LinkId) (mask : Byte) : Byte :=
  match k with
  | .shelf => mask &&& 0xFE
  | .bay _ => mask

def serveSetAlertMask (s : State) (k : LinkId) (mask : Byte) : Answer :=
  ⟨s.setAlert k { s.alert k with mask := storedMask k mask }, .ok, [storedMask k mask]⟩

/-- On link 8 bit 0 of the group mask is stored set (R175). -/
def storedGroups (k : LinkId) (groups : Byte) : Byte :=
  match k with
  | .shelf => groups ||| 0x01
  | .bay _ => groups

def serveSetAlertGroups (s : State) (link groups : Byte) : Answer :=
  match linkOfNat link.toNat with
  | some k => ⟨s.setAlert k { s.alert k with groups := storedGroups k groups }, .ok, [link, storedGroups k groups]⟩
  | none => refuse s .param

/-! ### GET HISTORY, GET SHELF, GET POOLS (R55, R56, R57, R121) -/

/-- A presence vector as link `k` is given it (R55). -/
def State.presenceFor (s : State) (k : LinkId) (v : Flags8) : Flags8 :=
  match k with
  | .shelf => v
  | .bay i => selectorFlags (s.bindings.get i) v

/-- The 11 bytes of a summary (R154). -/
def State.summaryBytes (s : State) (k : LinkId) (x : Summary) : List Byte :=
  bytes4 x.epoch.toNat ++ bytes2 x.cap ++ bytes2 x.grants ++ [byte1 x.admissions, s.presenceFor k x.presence, x.flagByte]

/-- The answer NONE of an empty ring carries the list of its kind, which is empty: a count byte of 0. DEDUCED, log 12. -/
def serveGetHistory (s : State) (k : LinkId) (count : Nat) : Answer :=
  if !inRange 1 8 count then refuse s .param
  else
    let l := s.alloc.ring.reverse.take count
    ⟨s, if s.alloc.ring.isEmpty then .none else .ok, byte1 l.length :: l.flatMap (s.summaryBytes k)⟩

/-- The cap GET SHELF reports: 0 with no profile installed (R56). -/
def State.reportedCaps (s : State) : Nat × Nat :=
  match s.store.installed with
  | some p => (p.shelf.capNormal, p.shelf.capDerated)
  | none => (0, 0)

def serveGetShelf (s : State) : Answer :=
  ⟨s.setAlloc { s.alloc with stickyShort := false }, .ok,
    [s.alloc.engine.code] ++ bytes4 s.alloc.epoch.toNat ++ bytes2 s.reportedCaps.1 ++ bytes2 s.reportedCaps.2 ++
      [boolByte s.cycle.derate, s.presence, boolByte s.store.waiting.isSome, byte1 s.alloc.rotation.val,
        boolByte s.alloc.stickyShort]⟩

/-- One account's bytes (R121). -/
def PoolAccount.bytes (a : PoolAccount) : List Byte :=
  bytes2 a.reserve ++ bytes2 a.remaining ++ [boolByte a.exhausted] ++ bytes4 a.blocked.toNat

/-- The exhausted flags are cleared by a read (R121). -/
def BurstUnit.clearExhausted (b : BurstUnit) : BurstUnit :=
  { b with pools := Row4.ofFn fun i => { b.pools.get i with exhausted := false } }

/-- The number of records in the active table. -/
def BurstUnit.activeCount (b : BurstUnit) : Nat := sum8 fun n => if (b.active.get n).isSome then 1 else 0

/-- The four accounts in turn, a list of repeated records that one byte with their number precedes, then the two sizes
(R121, R154; log 13). -/
def serveGetPools (s : State) : Answer :=
  if s.alloc.engine = .stopped then refuse s .state
  else
    ⟨s.setBurst s.burst.clearExhausted, .ok,
      byte1 4 :: (s.burst.pools.get 0).bytes ++ (s.burst.pools.get 1).bytes ++ (s.burst.pools.get 2).bytes ++
        (s.burst.pools.get 3).bytes ++ [byte1 s.burst.queue.length, byte1 s.burst.activeCount]⟩

/-! ### Counters and the sensor record (R17, R18, R36, R156) -/

/-- The five cause counters cleared; GOOD is kept (R18). -/
def Decoder.clearCauses (d : Decoder) : Decoder := { d with marker := 0, gap := 0, width := 0, tail := 0, stuck := 0 }

def serveGetCaptureCounters (s : State) (bay choice : Nat) : Answer :=
  match bayOfNat bay with
  | none => refuse s .param
  | some n =>
    if 1 < choice then refuse s .param
    else
      let d := s.capture.get n
      ⟨if choice = 1 then s.setDecoder n d.clearCauses else s, .ok,
        [byte1 n.val, d.state.code, boolByte d.level] ++ bytes2 d.good.toNat ++
          [d.marker, d.gap, d.width, d.tail, d.stuck]⟩

/-- Origin, run count and run sample, or 0, 0, 0 and 0 outside ACQUIRING (R36). -/
def SensorState.runBytes : SensorState → List Byte
  | .acquiring run => [run.origin.code, run.count.code] ++ bytes2 run.sample.temp ++ bytes2 run.sample.power
  | _ => [0, 0] ++ bytes2 0 ++ bytes2 0

def serveGetSensor (s : State) (bay choice : Nat) : Answer :=
  match bayOfNat bay with
  | none => refuse s .param
  | some n =>
    if 1 < choice then refuse s .param
    else
      let r := s.sensors.get n
      ⟨if choice = 1 then s.setSensor n { r with implCount := 0, loss := 0 } else s, .ok,
        [byte1 n.val, r.state.code] ++ r.state.runBytes ++ [boolByte r.held.isSome] ++
          bytes2 (r.held.elim 0 Sample.temp) ++ bytes2 (r.held.elim 0 Sample.power) ++ bytes2 (r.age s.now) ++
          [byte1 r.implRun.val, r.implCount] ++ bytes2 r.loss.toNat ++ bytes2 r.maxTemp ++
          bytes2 s.params.stale ++ bytes2 s.params.lost ++ bytes2 s.params.step⟩

def serveGetLinkCounters (s : State) (link choice : Nat) : Answer :=
  match linkOfNat link with
  | none => refuse s .param
  | some k =>
    if 1 < choice then refuse s .param
    else
      let p := s.port k
      let c := p.counters
      ⟨if choice = 1 then s.setPort k { p with counters := LinkCounters.zero } else s, .ok,
        [byte1 link, p.rx.code, byte1 p.inbox.length, c.noise, c.gap, c.framing, c.length, c.crc, c.overrun, c.brk]⟩

/-! ### SET CAP, RELEASE BAY LINK, SHELF RESET (R169 to R171) -/

/-- The installed profile with new caps (R169). -/
def Profile.setCaps (p : Profile) (normal derated : Nat) : Profile :=
  { p with shelf := { p.shelf with capNormal := normal, capDerated := derated } }

def serveSetCap (s : State) (normal derated : Nat) : Answer :=
  match s.alloc.engine, s.store.installed with
  | .stopped, _ => refuse s .state
  | .running, none => refuse s .state
  | .running, some p =>
    if badCaps p.floors normal derated || decide (8191 < normal) then refuseCheck s 9 0
    else
      ⟨s.setStore { s.store with installed := some (p.setCaps normal derated) }, .ok, bytes2 normal ++ bytes2 derated⟩

def serveReleaseBayLink (s : State) (link : Nat) : Answer :=
  match bayOfNat link with
  | some i => ⟨s.bayLinkReset i, .ok, []⟩
  | none => refuse s .param

def serveShelfReset (s : State) : Answer := ⟨s.setArmed true, .ok, []⟩

/-! ### The profile requests (R178 to R181) -/

/-- The expected parameter count comes from the block number; a number above 11, a wrong size and a field out of range
are all PARAM (R178). -/
def serveProfileBlock (s : State) (block : Nat) (body : List Byte) : Answer :=
  if blockSize block = some body.length then
    match parseBlock block body with
    | some b =>
      ⟨s.setStore
        { s.store with staging := s.store.staging.setBlock b, written := s.store.written ||| (1#12 <<< block) },
        .ok, [byte1 block]⟩
    | none => refuse s .param
  else refuse s .param

/-- The staging profile after a discard (R179). -/
def ProfileStore.discard (st : ProfileStore) : ProfileStore :=
  match st.installed with
  | some p => { st with staging := p, written := BitVec.allOnes 12 }
  | none => { st with staging := Profile.empty, written := 0 }

def serveProfileDiscard (s : State) : Answer := ⟨s.setStore s.store.discard, .ok, []⟩

def serveProfileRead (s : State) (block : Nat) : Answer :=
  if (blockSize block).isNone then refuse s .param
  else
    match s.store.installed with
    | none => refuse s .state
    | some p =>
      match p.block block with
      | some b => ⟨s, .ok, byte1 block :: b.bytes⟩
      | none => refuse s .param

/-- PROFILE COMMIT: BUSY, the checks of R180, then pending while RUNNING, or the first boundary at once while STOPPED
(R39, R45, R144, R181). The first boundary is timed at the clock, which stands at the end of the frame's last character; where
an earlier command has moved it past that, at the clock all the same (DESIGN CHOICE, log 25). -/
def serveProfileCommit (s : State) : Answer :=
  if s.store.waiting.isSome then refuse s .busy
  else
    match s.store.firstFailure with
    | some (code, index) => refuseCheck s code index
    | none =>
      let s' := s.setStore { s.store with waiting := some s.store.staging }
      match s.alloc.engine with
      | .running => ⟨s', .ok, bytes4 (s.alloc.epoch + 1).toNat⟩
      | .stopped => ⟨s'.takeBoundary s.now, .ok, bytes4 1⟩

/-! ### The Request Handler (R153, R161) -/

/-- A request that passed checks 1 to 3 of R161, by its kind and its parameter bytes: a number of bytes other than the
table's is PARAM (check 4), then the selector is relocated (check 5, R162), then the owning block serves it. -/
def dispatch (s : State) (k : LinkId) (kind : Kind) (params : List Byte) : Answer :=
  match kind, params with
  | .getBay, [sel] => withBay s k sel fun n => serveGetBay s n
  | .setDemand, [sel, hi, lo] => withBay s k sel fun n => serveSetDemand s n (value2 hi lo)
  | .askBurst, [sel, ahi, alo, dhi, dlo, wait, tag] =>
    withBay s k sel fun n => serveAskBurst s n (value2 ahi alo) (value2 dhi dlo) wait.toNat tag
  | .dropBurst, [sel, choice] => withBay s k sel fun n => serveDropBurst s n choice.toNat
  | .getAlert, [] => serveGetAlert s k
  | .setAlertMask, [mask] => serveSetAlertMask s k mask
  | .getHistory, [count] => serveGetHistory s k count.toNat
  | .getShelf, [] => serveGetShelf s
  | .getPools, [] => serveGetPools s
  | .getCaptureCounters, [bay, choice] => serveGetCaptureCounters s bay.toNat choice.toNat
  | .getSensor, [bay, choice] => serveGetSensor s bay.toNat choice.toNat
  | .getLinkCounters, [link, choice] => serveGetLinkCounters s link.toNat choice.toNat
  | .pinBay, [bay, hi, lo] => withBay s k bay fun n => servePinBay s n (value2 hi lo)
  | .unpinBay, [bay] => withBay s k bay fun n => serveUnpinBay s n
  | .setCap, [nhi, nlo, dhi, dlo] => serveSetCap s (value2 nhi nlo) (value2 dhi dlo)
  | .releaseBayLink, [link] => serveReleaseBayLink s link.toNat
  | .shelfReset, [] => serveShelfReset s
  | .setAlertGroups, [link, groups] => serveSetAlertGroups s link groups
  | .profileBlock, block :: body => serveProfileBlock s block.toNat body
  | .profileDiscard, [] => serveProfileDiscard s
  | .profileRead, [block] => serveProfileRead s block.toNat
  | .profileCommit, [] => serveProfileCommit s
  | _, _ => refuse s .param

/-- The request came from a bay link whose binding list is empty (R161 check 3). -/
def State.unbound (s : State) (k : LinkId) : Bool :=
  match k with
  | .bay i => (s.bindings.get i).isEmpty
  | .shelf => false

/-- The checks of R161 in order, then the service. -/
def answer (s : State) (k : LinkId) (r : Request) : Answer :=
  match Kind.ofCode r.kind with
  | none => refuse s .kind
  | some kind =>
    if kind.shelfOnly && k != .shelf then refuse s .access
    else if kind.needsBinding && s.unbound k then refuse s .notBound
    else dispatch s k kind r.params

/-- The reply that a service fixes: kind and tag echoed (R154). -/
def Answer.reply (a : Answer) (r : Request) : Reply := ⟨r.kind, r.tag, a.status.code, a.data⟩

/-- A reply is handed to link `k`'s transmitter, which starts it within 50 µs (R153; log 9). -/
def State.send (s : State) (k : LinkId) (x : Reply) : State :=
  let p := s.port k
  s.setPort k { p with reply := some x, tx := ⟨s.replyStart k, x.frame⟩, started := p.started + 1 }

/-- The request at the head of link `k`'s inbox is served: its effects stand and its reply is handed to the transmitter
(R153). -/
def State.serveHead (s : State) (k : LinkId) : State :=
  match (s.port k).inbox with
  | [] => s
  | r :: _ =>
    let a := answer s k r
    a.state.send k (a.reply r)

/-- A request joins the tail of link `k`'s inbox; it is served when the inbox was empty (R152, R153). -/
def State.join (s : State) (k : LinkId) (r : Request) : State :=
  let p := s.port k
  let s' := s.setPort k { p with inbox := p.inbox ++ [r] }
  if p.inbox.isEmpty then s'.serveHead k else s'

end Sys2Proof.Machine
end

