-- ==== Sys2Proof/Machine/Reset.lean ====
section
/-! DEFINITION. Power-on reset, its release, and the reset that SHELF RESET takes (R58, R147, R159, R171 and each block's rule). -/

namespace Sys2Proof.Machine

/-- A Link Port at a release of reset at instant `t`: a receive line that is low there is timed as a low beginning there, and no
character begins (R159). The model's own count of replies goes on (log 9). -/
def Port.atRelease (p : Port) (t : Nat) : Port :=
  { Port.reset with lowSince := p.lowSince.map fun _ => t, seenTo := t, started := p.started }

/-- The part at a release of reset at instant `t`: every block at its reset value, the timed ones timed from `t`
(R19, R37, R58, R101, R123, R147, R159, R176, R177). The commands that wait, the clock and the levels of the raw lines
are not the part's to reset: a DRT high at the release starts its debounce there (R41), a rail sense line high there
opens its candidate there (R19), and a receive line low there is timed from there (R159). -/
def State.atRelease (s : State) (t : Nat) : State :=
  { State.reset with
    pending := s.pending
    now := s.now
    capture := s.capture.mapIdx fun _ d => Decoder.atRelease d.raw t
    lines := Row8.const (Line.defaultAt t)
    ports := s.ports.map fun p => p.atRelease t
    cycle := ⟨none, s.cycle.rawDrt, if s.cycle.rawDrt then some t else none, false, false⟩ }

/-- POWER_ON_RESET: RST is asserted, or power comes up; the part is held in reset until the release (R58, R147, R159).
Timing starts at the release, which sets the same values again (log 7). -/
def execPowerOnReset (t : Nat) (s : State) : Host.Outcome State Fault Refusal :=
  .next (((s.advance t).atRelease (s.advance t).now).setInReset true)

/-- RELEASE_OF_RESET (R19, R41, R147, R159). With RST not asserted there is nothing to release (log 2). -/
def execReleaseOfReset (t : Nat) (s : State) : Host.Outcome State Fault Refusal :=
  if s.inReset then .next ((s.advance t).atRelease (s.advance t).now) else .next (s.advance t)

/-- The reset a served SHELF RESET arranged is taken once its reply has ended, or been cut off, and its release is the same
instant (R158, R171). -/
def State.takeShelfReset (s : State) : State :=
  let s' := s.advance (s.port .shelf).tx.ends
  s'.atRelease s'.now

/-- SHELF_RESET_TAKEN: the arranged reset, at the end of SHELF RESET's reply; REPLY_END names the same event (R171; log 11).
With none arranged, or the reply still being sent, nothing is taken (log 2). -/
def execShelfResetTaken (t : Nat) (s : State) : Host.Outcome State Fault Refusal :=
  eventsUpTo t s fun s =>
    if s.shelfResetArmed && decide ((s.port .shelf).tx.ends ≤ max s.now t) then s.takeShelfReset else s

end Sys2Proof.Machine
end

