-- ==== Sys2Proof/Machine/Link.lean ====
section
/-! DEFINITION. The links' receive lines, receive decoders and transmitters (Chapter 8) and their commands: characters, gaps,
breaks and the end of a reply. -/

namespace Sys2Proof.Machine

/-! ### Characters (R148 to R152) -/

/-- A request as its kind, tag and parameters (R149). A frame has at least a kind and a tag, since its length is at
least 2 (R148). -/
def requestOf (got : List Byte) : Request :=
  match got with
  | kind :: tag :: params => ⟨kind, tag, params⟩
  | [kind] => ⟨kind, 0, []⟩
  | [] => ⟨0, 0, []⟩

/-- The CRC a frame must carry: over the length byte and what follows it (R148). -/
def frameCrc (got : List Byte) : BitVec 16 := crc16 (byte1 got.length :: got)

/-- The second CRC byte: a matching CRC makes the request join the inbox, another abandons the frame (R149, R152). -/
def State.endFrame (s : State) (k : LinkId) (got : List Byte) (high low : Byte) : State :=
  if crcHigh (frameCrc got) = high ∧ crcLow (frameCrc got) = low then (s.setRx k .hunt).join k (requestOf got)
  else s.linkError k .crc .hunt

/-- A start byte in HUNT begins a frame, or meets OVERRUN and DISCARD when the inbox holds two (R149, R151). -/
def State.startFrame (s : State) (k : LinkId) : State :=
  if (s.port k).inbox.length < 2 then s.setRx k .length else s.linkError k .overrun .discard

/-- The length byte is good (R148). -/
def lengthGood (n : Nat) : Bool := decide (2 ≤ n ∧ n ≤ 72)

/-- A character with a good stop bit, by the decoder's state (R149, R151). -/
def State.receive (s : State) (k : LinkId) (b : Byte) : State :=
  match (s.port k).rx with
  | .hunt => if b = startByte then s.startFrame k else s.linkError k .noise .hunt
  | .length => if lengthGood b.toNat then s.setRx k (.body b.toNat []) else s.linkError k .length .hunt
  | .body n got =>
    if got.length + 1 < n then s.setRx k (.body n (got ++ [b])) else s.setRx k (.check (got ++ [b]) none)
  | .check got none => s.setRx k (.check got (some b))
  | .check got (some high) => s.endFrame k got high b
  | .discard => s

/-- The level of the line `offset` after the start edge, by its changes before that instant: the start bit is low (R148). -/
def RxChar.levelAt (c : RxChar) (offset : Nat) : Bool := (c.edges.filter (· < offset)).length % 2 == 1

/-- Bit `i`, sampled at the middle of its bit time; the start bit is bit 0 (R148). -/
def RxChar.bit (c : RxChar) (i : Nat) : Bool := c.levelAt (bitTime * i + bitTime / 2)

/-- The byte, its bits sent least significant first (R148). -/
def RxChar.byte (c : RxChar) : Byte :=
  flagsOf (c.bit 1) (c.bit 2) (c.bit 3) (c.bit 4) (c.bit 5) (c.bit 6) (c.bit 7) (c.bit 8)

/-- The stop bit, judged at the middle of the tenth bit (R148). -/
def RxChar.stop (c : RxChar) : Bool := c.bit 9

/-- The line changes inside the character, at instant `t` (R148). -/
def RxChar.changed (c : RxChar) (t : Nat) : RxChar := { c with edges := c.edges ++ [t - c.start] }

/-- The decoder after a FRAMING error: HUNT, but DISCARD stays (R150, R151). -/
def RxState.atFraming : RxState → RxState
  | .discard => .discard
  | _ => .hunt

/-- The character in progress, if it ends by instant `t`, 10 µs after its start edge (R148). -/
def Port.charDue (p : Port) (t : Nat) : Option RxChar := p.char.filter fun c => decide (c.start + charTime ≤ t)

/-- A port once the character that began at `start` has ended. -/
def Port.charEnded (p : Port) (start : Nat) : Port := { p with char := none, lastCharEnd := start + charTime }

/-- The character that ends by `t` is taken, at the instant it ends: by its byte, or as a FRAMING error when its stop bit was
sampled low (R148 to R150). A request that it completes is so served at that instant, or at the clock where an earlier command
has moved the clock past it (log 5). -/
def State.takeChar (s : State) (k : LinkId) (t : Nat) : State :=
  match (s.port k).charDue t with
  | none => s
  | some c =>
    let s' := (s.advance (c.start + charTime)).setPort k ((s.port k).charEnded c.start)
    if c.stop then s'.receive k c.byte else s'.linkError k .framing (s'.port k).rx.atFraming

/-! ### Breaks (R157, R158) -/

/-- When the low in progress reaches 2 ms, if that is by instant `t` and no break episode is in progress (R157). -/
def Port.breakDue (p : Port) (t : Nat) : Option Nat :=
  if p.inBreak then none else (p.lowSince.map (· + breakTime)).filter (· ≤ t)

/-- A break that is due by `t` is taken at the instant it falls due: counted with LINK_ERROR, then the link's break effects;
once per episode (R150, R157, R158). -/
def State.countBreak (s : State) (k : LinkId) (t : Nat) : State :=
  match (s.port k).breakDue t with
  | some b => ((s.advance b).linkError k .brk (s.port k).rx).breakEffects k b
  | none => s

/-- The line is followed to instant `t`, if it has not been followed further (log 1). -/
def State.seen (s : State) (k : LinkId) (t : Nat) : State :=
  s.setPort k { s.port k with seenTo := max (s.port k).seenTo t }

/-- A break that is due by `t`. When it cuts SHELF RESET's reply off, the reset is taken at the instant of the cut-off, and the
line, still low, is timed from there (R158, R159, R171; log 11). -/
def State.takeBreak (s : State) (k : LinkId) (t : Nat) : State :=
  if ((s.port k).breakDue t).isSome && k == .shelf && s.shelfResetArmed then
    (((s.countBreak k t).takeShelfReset).seen k t).countBreak k t
  else s.countBreak k t

/-! ### The receive line (R148, R157; log 1, log 8) -/

/-- The receive line of link `k` holds its level until `t`, or as far as it has been followed if that is later (log 1):
what falls due by then is taken in the order it falls due, a character's end, then the gap after it, then a break (R148,
R150, R151, R157; log 5). -/
def State.settleLink (s : State) (k : LinkId) (t : Nat) : State :=
  let u := max (s.port k).seenTo t
  ((((s.seen k t).takeChar k u).takeLinkGap k u).takeDiscardEnd k u).takeBreak k u

/-- The line goes low at the instant it has been followed to. A falling edge inside a character is part of it; another starts
one, where `starts` says that it is an edge the receiver sees (R148). -/
def Port.fall (p : Port) (starts : Bool) : Port :=
  { p with
    lowSince := some p.seenTo
    char := match p.char with
      | some c => some (c.changed p.seenTo)
      | none => if starts then some ⟨p.seenTo, []⟩ else none }

/-- The line goes high at the instant it has been followed to. A break episode ends with it, in HUNT (R157; log 10). -/
def Port.rise (p : Port) : Port :=
  { p with
    rx := if p.inBreak then .hunt else p.rx
    lowSince := none
    inBreak := false
    char := p.char.map fun c => c.changed p.seenTo }

/-- The raw receive line of link `k` takes its other level at instant `t`; what falls due by then is taken first (log 5). A
change said to have come before what has been followed, such as one before a release of reset, leaves the level it brings
and is no edge that starts a character (R159; log 1). -/
def State.lineChange (k : LinkId) (s : State) (t : Nat) : State :=
  let p := (s.settleLink k t).port k
  (s.settleLink k t).setPort k (if p.lowSince.isSome then p.rise else p.fall (decide ((s.port k).seenTo ≤ t)))

/-- The raw receive line of link `k` changes at each of some instants and then holds until `t` (R148). -/
def State.followLine (s : State) (k : LinkId) (changes : List Nat) (t : Nat) : State :=
  (changes.foldl (State.lineChange k) s).settleLink k t

/-- The instants at which a line at level `level` changes when it is driven bit by bit from instant `t` on (R148). -/
def lineEdges (level : Bool) (t : Nat) : List Bool → List Nat
  | [] => []
  | b :: rest => if b = level then lineEdges level (t + bitTime) rest else t :: lineEdges b (t + bitTime) rest

/-- The master of link `k` drives the line through some bits, the last of them ending at `t` (R148). -/
def State.driveLine (s : State) (k : LinkId) (t : Nat) (bits : List Bool) : State :=
  s.followLine k (lineEdges (s.port k).lowSince.isNone (t - bitTime * bits.length) bits) t

/-- A master sends a whole request frame, its characters back to back and the last of them ending at `t` (log 4). -/
def State.sendRequest (s : State) (k : LinkId) (t : Nat) (r : Request) : State := s.driveLine k t (lineBits r.frame)

/-! ### The commands of the receive side -/

/-- While RST is asserted the level of a receive line alone follows the line (R159; log 7). -/
def State.lineInReset (s : State) (k : LinkId) (high : Bool) : State :=
  s.setPort k { s.port k with lowSince := if high then none else some (s.port k).seenTo }

/-- CHARACTER_TAKEN, with what the raw receive line did (R148, R149; log 8). -/
def execCharacterTaken (t : Nat) (k : LinkId) (changes : List Nat) (s : State) : Host.Outcome State Fault Refusal :=
  if s.inReset then
    .next ((s.advance t).lineInReset k (rawAfter (s.port k).lowSince.isNone changes.length))
  else .next ((s.followLine k changes t).advance t)

/-- A row that names what a character leads to: the line holds until `t`. If the character in progress does not end by
then, or does not satisfy the row's own condition with the port as it finds it, the row's event does not occur and nothing
changes (log 2). -/
def State.charWhen (s : State) (k : LinkId) (t : Nat) (condition : Port → RxChar → Bool) : State :=
  match (s.port k).charDue t with
  | some c => if condition (s.port k) c then s.settleLink k t else s
  | none => s

/-- The character is byte `b` with a good stop bit. -/
def RxChar.is (c : RxChar) (b : Byte) : Bool := c.stop && c.byte == b

/-- REQUEST_FRAME: the second CRC byte (R152). -/
def execRequestFrame (t : Nat) (k : LinkId) (b : Byte) (s : State) : Host.Outcome State Fault Refusal :=
  eventsUpTo t s fun s => s.charWhen k t fun p c =>
    c.is b && match p.rx with
    | .check _ (some _) => true
    | _ => false

/-- NOISE: a byte other than 0xC3 in HUNT (R150). -/
def execNoise (t : Nat) (k : LinkId) (b : Byte) (s : State) : Host.Outcome State Fault Refusal :=
  eventsUpTo t s fun s => s.charWhen k t fun p c => c.is b && p.rx == .hunt && b != startByte

/-- LENGTH: a length byte outside 2 to 72 (R150). -/
def execLengthError (t : Nat) (k : LinkId) (b : Byte) (s : State) : Host.Outcome State Fault Refusal :=
  eventsUpTo t s fun s => s.charWhen k t fun p c => c.is b && p.rx == .length && !lengthGood b.toNat

/-- OVERRUN: a start byte in HUNT while the inbox holds two requests (R151). -/
def execOverrun (t : Nat) (k : LinkId) (s : State) : Host.Outcome State Fault Refusal :=
  eventsUpTo t s fun s => s.charWhen k t fun p c => c.is startByte && p.rx == .hunt && decide (2 ≤ p.inbox.length)

/-- FRAMING: a character whose stop bit is sampled low (R150). -/
def execFraming (t : Nat) (k : LinkId) (s : State) : Host.Outcome State Fault Refusal :=
  eventsUpTo t s fun s => s.charWhen k t fun _ c => !c.stop

/-- LINK_GAP: the line holds until `t`, and a gap that reaches 201 µs inside a frame by then abandons it (R150). -/
def execLinkGap (t : Nat) (k : LinkId) (s : State) : Host.Outcome State Fault Refusal :=
  eventsUpTo t s fun s => s.settleLink k t

/-- DISCARD_END: the line holds until `t`, and a gap that reaches 201 µs in DISCARD by then ends it (R151). -/
def execDiscardEnd (t : Nat) (k : LinkId) (s : State) : Host.Outcome State Fault Refusal :=
  eventsUpTo t s fun s => s.settleLink k t

/-- BREAK: the line holds until `t`, and a low that reaches 2 ms by then is a break (R157, R158). -/
def execLineBreak (t : Nat) (k : LinkId) (s : State) : Host.Outcome State Fault Refusal :=
  eventsUpTo t s fun s => s.settleLink k t

/-- The line returns high at `t` where a break is in progress; else there is no episode to end (R157; log 2). -/
def State.endBreak (s : State) (k : LinkId) (t : Nat) : State :=
  if ((s.settleLink k t).port k).inBreak then State.lineChange k s t else s

/-- BREAK_EPISODE_END. -/
def execBreakEpisodeEnd (t : Nat) (k : LinkId) (s : State) : Host.Outcome State Fault Refusal :=
  eventsUpTo t s fun s => s.endBreak k t

/-! ### The end of a reply (R152, R153, R171) -/

/-- The last CRC byte of link `k`'s reply has left by instant `t`: at the instant it did, the request leaves the inbox and the
next one is served. When that reply is SHELF RESET's, the reset it arranged is taken (R171). With no reply, or one still being
sent, nothing ends (log 2). -/
def State.endReply (s : State) (k : LinkId) (t : Nat) : State :=
  let p := s.port k
  if p.reply.isNone || decide (max s.now t < p.tx.ends) then s
  else if k == .shelf && s.shelfResetArmed then s.takeShelfReset
  else ((s.advance p.tx.ends).setPort k { p with inbox := p.inbox.tail, reply := none }).serveHead k

/-- REPLY_END. -/
def execReplyEnd (t : Nat) (k : LinkId) (s : State) : Host.Outcome State Fault Refusal :=
  eventsUpTo t s fun s => s.endReply k t

/-! ### The transmit line (R148, R153, R159) -/

/-- The level of link `k`'s TX at instant `t`: the bits of what its transmitter sends, back to back from its start on, and high
before it, after it, and while RST is asserted. -/
def State.txLevel (s : State) (k : LinkId) (t : Nat) : Bool :=
  let x := (s.port k).tx
  s.inReset || decide (t < x.start) || (lineBits x.bytes).getD ((t - x.start) / bitTime) true

end Sys2Proof.Machine
end

