-- ==== Sys2Proof/Machine/Requests.lean ====
section
/-! DEFINITION. The commands that name a request kind: link `k`'s master sends the kind's request frame, whose last character
ends at `t`; the link takes it, and the Request Handler serves it when it reaches the head of the inbox (R148 to R153,
log 4). What the service does is the kind's `serve…` in Request.lean. -/

namespace Sys2Proof.Machine

/-- A request frame of one kind arrives on link `k`, its last character ending at `t`; while RST is asserted the receive line is
left idling high and nothing is received (R159; log 7). -/
def requestEvent (t : Nat) (k : LinkId) (kind : Kind) (tag : Byte) (params : List Byte) (s : State) :
    Host.Outcome State Fault Refusal :=
  if s.inReset then .next ((s.advance t).lineInReset k true)
  else .next ((s.sendRequest k t ⟨kind.code, tag, params⟩).advance t)

/-- GET_BAY (R164). -/
def execGetBay (t : Nat) (k : LinkId) (tag sel : Byte) (s : State) : Host.Outcome State Fault Refusal :=
  requestEvent t k .getBay tag [sel] s

/-- SET_DEMAND (R166). -/
def execSetDemand (t : Nat) (k : LinkId) (tag sel : Byte) (value : BitVec 16) (s : State) : Host.Outcome State Fault Refusal :=
  requestEvent t k .setDemand tag (sel :: bytes2 value.toNat) s

/-- ASK_BURST (R106, R107). -/
def execAskBurst (t : Nat) (k : LinkId) (tag sel : Byte) (amount duration : BitVec 16) (wait burstTag : Byte) (s : State) :
    Host.Outcome State Fault Refusal :=
  requestEvent t k .askBurst tag (sel :: (bytes2 amount.toNat ++ bytes2 duration.toNat ++ [wait, burstTag])) s

/-- DROP_BURST (R109, R110). -/
def execDropBurst (t : Nat) (k : LinkId) (tag sel choice : Byte) (s : State) : Host.Outcome State Fault Refusal :=
  requestEvent t k .dropBurst tag [sel, choice] s

/-- GET_ALERT (R174). -/
def execGetAlert (t : Nat) (k : LinkId) (tag : Byte) (s : State) : Host.Outcome State Fault Refusal :=
  requestEvent t k .getAlert tag [] s

/-- SET_ALERT_MASK (R173). -/
def execSetAlertMask (t : Nat) (k : LinkId) (tag mask : Byte) (s : State) : Host.Outcome State Fault Refusal :=
  requestEvent t k .setAlertMask tag [mask] s

/-- GET_HISTORY (R55). -/
def execGetHistory (t : Nat) (k : LinkId) (tag count : Byte) (s : State) : Host.Outcome State Fault Refusal :=
  requestEvent t k .getHistory tag [count] s

/-- GET_SHELF (R56, R57). -/
def execGetShelf (t : Nat) (k : LinkId) (tag : Byte) (s : State) : Host.Outcome State Fault Refusal :=
  requestEvent t k .getShelf tag [] s

/-- GET_POOLS (R121). -/
def execGetPools (t : Nat) (k : LinkId) (tag : Byte) (s : State) : Host.Outcome State Fault Refusal :=
  requestEvent t k .getPools tag [] s

/-- GET_CAPTURE_COUNTERS (R17, R18). -/
def execGetCaptureCounters (t : Nat) (k : LinkId) (tag bay choice : Byte) (s : State) : Host.Outcome State Fault Refusal :=
  requestEvent t k .getCaptureCounters tag [bay, choice] s

/-- GET_SENSOR (R36). -/
def execGetSensor (t : Nat) (k : LinkId) (tag bay choice : Byte) (s : State) : Host.Outcome State Fault Refusal :=
  requestEvent t k .getSensor tag [bay, choice] s

/-- GET_LINK_COUNTERS (R156). -/
def execGetLinkCounters (t : Nat) (k : LinkId) (tag link choice : Byte) (s : State) : Host.Outcome State Fault Refusal :=
  requestEvent t k .getLinkCounters tag [link, choice] s

/-- PIN_BAY (R167). -/
def execPinBay (t : Nat) (k : LinkId) (tag bay : Byte) (value : BitVec 16) (s : State) : Host.Outcome State Fault Refusal :=
  requestEvent t k .pinBay tag (bay :: bytes2 value.toNat) s

/-- UNPIN_BAY (R168). -/
def execUnpinBay (t : Nat) (k : LinkId) (tag bay : Byte) (s : State) : Host.Outcome State Fault Refusal :=
  requestEvent t k .unpinBay tag [bay] s

/-- SET_CAP (R169). -/
def execSetCap (t : Nat) (k : LinkId) (tag : Byte) (normal derated : BitVec 16) (s : State) : Host.Outcome State Fault Refusal :=
  requestEvent t k .setCap tag (bytes2 normal.toNat ++ bytes2 derated.toNat) s

/-- RELEASE_BAY_LINK (R170). -/
def execReleaseBayLink (t : Nat) (k : LinkId) (tag link : Byte) (s : State) : Host.Outcome State Fault Refusal :=
  requestEvent t k .releaseBayLink tag [link] s

/-- SHELF_RESET (R171). -/
def execShelfReset (t : Nat) (k : LinkId) (tag : Byte) (s : State) : Host.Outcome State Fault Refusal :=
  requestEvent t k .shelfReset tag [] s

/-- SET_ALERT_GROUPS (R175). -/
def execSetAlertGroups (t : Nat) (k : LinkId) (tag link groups : Byte) (s : State) : Host.Outcome State Fault Refusal :=
  requestEvent t k .setAlertGroups tag [link, groups] s

/-- PROFILE_BLOCK (R178). -/
def execProfileBlock (t : Nat) (k : LinkId) (tag block : Byte) (body : List Byte) (s : State) : Host.Outcome State Fault Refusal :=
  requestEvent t k .profileBlock tag (block :: body) s

/-- PROFILE_DISCARD (R179). -/
def execProfileDiscard (t : Nat) (k : LinkId) (tag : Byte) (s : State) : Host.Outcome State Fault Refusal :=
  requestEvent t k .profileDiscard tag [] s

/-- PROFILE_READ (R179). -/
def execProfileRead (t : Nat) (k : LinkId) (tag block : Byte) (s : State) : Host.Outcome State Fault Refusal :=
  requestEvent t k .profileRead tag [block] s

/-- PROFILE_COMMIT (R180, R181). -/
def execProfileCommit (t : Nat) (k : LinkId) (tag : Byte) (s : State) : Host.Outcome State Fault Refusal :=
  requestEvent t k .profileCommit tag [] s

end Sys2Proof.Machine
end

