-- ==== Sys2Proof/Machine/Dispatch.lean ====
section
/-! DEFINITION. One arm for each command, in the order of spec/opcode_table.json. -/

namespace Sys2Proof.Machine

/-- The effect of a command on everything but the queue. -/
def exec (i : Instr) (s : State) : Host.Outcome State Fault Refusal :=
  match i with
  | .powerOnReset t => Sys2Proof.Machine.execPowerOnReset t s
  | .quietLow t n => Sys2Proof.Machine.execQuietLow t n s
  | .captureMarkerError t n => Sys2Proof.Machine.execCaptureMarkerError t n s
  | .captureGapError t n => Sys2Proof.Machine.execCaptureGapError t n s
  | .captureWidthError t n => Sys2Proof.Machine.execCaptureWidthError t n s
  | .captureTailError t n => Sys2Proof.Machine.execCaptureTailError t n s
  | .stuck t n => Sys2Proof.Machine.execStuck t n s
  | .tailComplete t n => Sys2Proof.Machine.execTailComplete t n s
  | .staleTimer t n => Sys2Proof.Machine.execStaleTimer t n s
  | .lostTimer t n => Sys2Proof.Machine.execLostTimer t n s
  | .runSilence t n => Sys2Proof.Machine.execRunSilence t n s
  | .derateAssertion t => Sys2Proof.Machine.execDerateAssertion t s
  | .derateDeassertion t => Sys2Proof.Machine.execDerateDeassertion t s
  | .boundary t => Sys2Proof.Machine.execBoundary t s
  | .completion t => Sys2Proof.Machine.execCompletion t s
  | .slotExpiry t n => Sys2Proof.Machine.execSlotExpiry t n s
  | .requestFrame t k b => Sys2Proof.Machine.execRequestFrame t k b s
  | .noise t k b => Sys2Proof.Machine.execNoise t k b s
  | .framing t k => Sys2Proof.Machine.execFraming t k s
  | .lengthError t k b => Sys2Proof.Machine.execLengthError t k b s
  | .overrun t k => Sys2Proof.Machine.execOverrun t k s
  | .linkGap t k => Sys2Proof.Machine.execLinkGap t k s
  | .discardEnd t k => Sys2Proof.Machine.execDiscardEnd t k s
  | .lineBreak t k => Sys2Proof.Machine.execLineBreak t k s
  | .replyEnd t k => Sys2Proof.Machine.execReplyEnd t k s
  | .getBay t k tag sel => Sys2Proof.Machine.execGetBay t k tag sel s
  | .setDemand t k tag sel value => Sys2Proof.Machine.execSetDemand t k tag sel value s
  | .askBurst t k tag sel amount duration wait burstTag => Sys2Proof.Machine.execAskBurst t k tag sel amount duration wait burstTag s
  | .dropBurst t k tag sel choice => Sys2Proof.Machine.execDropBurst t k tag sel choice s
  | .getAlert t k tag => Sys2Proof.Machine.execGetAlert t k tag s
  | .setAlertMask t k tag mask => Sys2Proof.Machine.execSetAlertMask t k tag mask s
  | .getHistory t k tag count => Sys2Proof.Machine.execGetHistory t k tag count s
  | .getShelf t k tag => Sys2Proof.Machine.execGetShelf t k tag s
  | .getPools t k tag => Sys2Proof.Machine.execGetPools t k tag s
  | .getCaptureCounters t k tag bay choice => Sys2Proof.Machine.execGetCaptureCounters t k tag bay choice s
  | .getSensor t k tag bay choice => Sys2Proof.Machine.execGetSensor t k tag bay choice s
  | .getLinkCounters t k tag link choice => Sys2Proof.Machine.execGetLinkCounters t k tag link choice s
  | .pinBay t k tag bay value => Sys2Proof.Machine.execPinBay t k tag bay value s
  | .unpinBay t k tag bay => Sys2Proof.Machine.execUnpinBay t k tag bay s
  | .setCap t k tag normal derated => Sys2Proof.Machine.execSetCap t k tag normal derated s
  | .releaseBayLink t k tag link => Sys2Proof.Machine.execReleaseBayLink t k tag link s
  | .shelfReset t k tag => Sys2Proof.Machine.execShelfReset t k tag s
  | .shelfResetTaken t => Sys2Proof.Machine.execShelfResetTaken t s
  | .setAlertGroups t k tag link groups => Sys2Proof.Machine.execSetAlertGroups t k tag link groups s
  | .profileBlock t k tag block body => Sys2Proof.Machine.execProfileBlock t k tag block body s
  | .profileDiscard t k tag => Sys2Proof.Machine.execProfileDiscard t k tag s
  | .profileRead t k tag block => Sys2Proof.Machine.execProfileRead t k tag block s
  | .profileCommit t k tag => Sys2Proof.Machine.execProfileCommit t k tag s
  | .acceptedEdge raw n => Sys2Proof.Machine.execAcceptedEdge raw n s
  | .rawDrtChange t high => Sys2Proof.Machine.execRawDrtChange t high s
  | .characterTaken t k changes => Sys2Proof.Machine.execCharacterTaken t k changes s
  | .breakEpisodeEnd t k => Sys2Proof.Machine.execBreakEpisodeEnd t k s
  | .releaseOfReset t => Sys2Proof.Machine.execReleaseOfReset t s

end Sys2Proof.Machine
end

