-- ==== Sys2Proof/WellFormed.lean ====
section
/-! DEFINITION. Which terms of `Instr` are commands a master can send: everything but one length and two lists is bounded by the types. -/

namespace Sys2Proof

/-- A frame carries 0 to 70 parameter bytes (R148); a PROFILE BLOCK's first parameter byte is the block number, so its
body is at most 69 bytes. A raw line changes at rising instants, none after the end (R2, R148). Every other operand is
bounded by its type. -/
def Instr.wellFormed : Instr → Bool
  | .profileBlock _ _ _ _ body => decide (body.length ≤ 69)
  | .acceptedEdge raw _ => decide (raw.changes.Pairwise (· < ·)) && raw.changes.all (· ≤ raw.upto)
  | .characterTaken t _ changes => decide (changes.Pairwise (· < ·)) && changes.all (· ≤ t)
  | _ => true

end Sys2Proof
end

