-- ==== Sys2Proof/Safety.lean ====
section
/-! DEFINITION. The terms the statements are made in: an idle link, an answered request, the relations of a link reset and of
a commit check, the ranges of the profile's blocks, and what a sound state of each block is. -/

namespace Sys2Proof

/-- The request a request command sends: its instant, its link, and kind, tag and parameters as the kind table of Chapter 8
lays them out. -/
def Instr.request : Instr → Option (Nat × LinkId × Machine.Request)
  | .getBay t k tag sel => some (t, k, ⟨0x10, tag, [sel]⟩)
  | .setDemand t k tag sel v => some (t, k, ⟨0x11, tag, sel :: Machine.bytes2 v.toNat⟩)
  | .askBurst t k tag sel a d w b =>
    some (t, k, ⟨0x12, tag, sel :: (Machine.bytes2 a.toNat ++ Machine.bytes2 d.toNat ++ [w, b])⟩)
  | .dropBurst t k tag sel c => some (t, k, ⟨0x13, tag, [sel, c]⟩)
  | .getAlert t k tag => some (t, k, ⟨0x14, tag, []⟩)
  | .setAlertMask t k tag m => some (t, k, ⟨0x15, tag, [m]⟩)
  | .getHistory t k tag c => some (t, k, ⟨0x16, tag, [c]⟩)
  | .getShelf t k tag => some (t, k, ⟨0x20, tag, []⟩)
  | .getPools t k tag => some (t, k, ⟨0x21, tag, []⟩)
  | .getCaptureCounters t k tag b c => some (t, k, ⟨0x22, tag, [b, c]⟩)
  | .getSensor t k tag b c => some (t, k, ⟨0x23, tag, [b, c]⟩)
  | .getLinkCounters t k tag l c => some (t, k, ⟨0x24, tag, [l, c]⟩)
  | .pinBay t k tag b v => some (t, k, ⟨0x30, tag, b :: Machine.bytes2 v.toNat⟩)
  | .unpinBay t k tag b => some (t, k, ⟨0x31, tag, [b]⟩)
  | .setCap t k tag n d => some (t, k, ⟨0x32, tag, Machine.bytes2 n.toNat ++ Machine.bytes2 d.toNat⟩)
  | .releaseBayLink t k tag l => some (t, k, ⟨0x33, tag, [l]⟩)
  | .shelfReset t k tag => some (t, k, ⟨0x34, tag, []⟩)
  | .setAlertGroups t k tag l g => some (t, k, ⟨0x35, tag, [l, g]⟩)
  | .profileBlock t k tag b body => some (t, k, ⟨0x40, tag, b :: body⟩)
  | .profileDiscard t k tag => some (t, k, ⟨0x41, tag, []⟩)
  | .profileRead t k tag b => some (t, k, ⟨0x42, tag, [b]⟩)
  | .profileCommit t k tag => some (t, k, ⟨0x43, tag, []⟩)
  | _ => none

/-- The instant at which a command is taken: of a raw line's trace, its end. -/
def Instr.instant : Instr → Nat
  | .powerOnReset t | .quietLow t _ | .captureMarkerError t _ | .captureGapError t _ | .captureWidthError t _
  | .captureTailError t _ | .stuck t _ | .tailComplete t _ | .staleTimer t _ | .lostTimer t _ | .runSilence t _
  | .derateAssertion t | .derateDeassertion t | .boundary t | .completion t | .slotExpiry t _ | .requestFrame t _ _
  | .noise t _ _ | .framing t _ | .lengthError t _ _ | .overrun t _ | .linkGap t _ | .discardEnd t _ | .lineBreak t _
  | .replyEnd t _ | .getBay t _ _ _ | .setDemand t _ _ _ _ | .askBurst t _ _ _ _ _ _ _ | .dropBurst t _ _ _ _
  | .getAlert t _ _ | .setAlertMask t _ _ _ | .getHistory t _ _ _ | .getShelf t _ _ | .getPools t _ _
  | .getCaptureCounters t _ _ _ _ | .getSensor t _ _ _ _ | .getLinkCounters t _ _ _ _ | .pinBay t _ _ _ _
  | .unpinBay t _ _ _ | .setCap t _ _ _ _ | .releaseBayLink t _ _ _ | .shelfReset t _ _ | .shelfResetTaken t
  | .setAlertGroups t _ _ _ _ | .profileBlock t _ _ _ _ | .profileDiscard t _ _ | .profileRead t _ _ _
  | .profileCommit t _ _ | .rawDrtChange t _ | .characterTaken t _ _ | .breakEpisodeEnd t _ | .releaseOfReset t => t
  | .acceptedEdge raw _ => raw.upto

/-- The link on which a command happens: a request of its master, what its receive line does or holds, the end of a
reply on its transmit line. -/
def Instr.onLink (c : Instr) : Option LinkId :=
  match c with
  | .requestFrame _ k _ | .noise _ k _ | .framing _ k | .lengthError _ k _ | .overrun _ k | .linkGap _ k
  | .discardEnd _ k | .lineBreak _ k | .replyEnd _ k | .characterTaken _ k _ | .breakEpisodeEnd _ k => some k
  | _ => c.request.map fun x => x.2.1

end Sys2Proof

namespace Sys2Proof.Machine

/-! ### The sense lines -/

/-- By instant `t` no interval of the decoder has reached a length at which a decision falls due (R3, R6, R9, R10, R12, R13). -/
def Decoder.nothingDue (d : Decoder) (t : Nat) : Prop :=
  (d.state = .seek → d.level = false → t < max d.seekAt d.edgeAt + us 1000) ∧
  (d.state = .gapA ∨ d.state = .gapB → t < d.edgeAt + us 201) ∧
  (d.state = .temp ∨ d.state = .power → t < d.edgeAt + us 1074) ∧
  (d.state = .tail → t < d.edgeAt + us 1000) ∧
  (d.level = true → d.stuckCounted = false → t < d.edgeAt + us 2000)

/-! ### Alerts -/

/-- The selectors of bay link `i` that name a bay of the list under a profile's bindings, as a vector (R160, R172). -/
def selectorsOf (bindings : Row8 (List Bay)) (i : Fin 8) (bays : List Bay) : Flags8 :=
  flagsOf (bays.any fun n => servingLink bindings n == some (i, 0)) (bays.any fun n => servingLink bindings n == some (i, 1))
    false false false false false false

/-- A bay link's cause once it has been raised for the selectors of `vector`, for each in turn: with none it is as it was
(R172). -/
def raisedWith (held : Option Raised) (vector : Flags8) (reasons : BitVec 2) : Option Raised :=
  if vector = 0 then held
  else match held with
    | none => some ⟨vector, reasons⟩
    | some x => some ⟨x.vector ||| vector, x.reasons ||| reasons⟩

/-- The cause, pending with an empty vector once it has been raised so, as its vector was before (R172). -/
def raisedEmpty (held : Option Raised) (raised : Bool) : Option Raised :=
  if raised = true then some (held.getD ⟨0, 0⟩) else held

/-! ### Requests -/

/-- The receive line idles high, with no character and no break in progress, and it has been followed no further than `x`
(R148). -/
def Port.lineIdle (p : Port) (x : Nat) : Prop :=
  p.lowSince = none ∧ p.char = none ∧ p.inBreak = false ∧ p.seenTo ≤ x

/-- Link `k` can take, and at once serve, a request with `n` parameter bytes whose frame ends at `t`: RST is released, its
decoder hunts, its inbox is empty, and its line idles until the frame begins, `n` + 6 characters before `t` (R148). -/
def State.linkIdle (s : State) (k : LinkId) (n t : Nat) : Prop :=
  s.inReset = false ∧ (s.port k).rx = .hunt ∧ (s.port k).inbox = [] ∧ us (10 * (n + 6)) ≤ t ∧
    (s.port k).lineIdle (t - us (10 * (n + 6)))

/-- The reply `x` handed to link `k`'s transmitter: its frame starts within 50 µs of the clock, by the free delay of log 9 (R148,
R153). -/
def State.sending (s : State) (k : LinkId) (x : Reply) : State :=
  s.setPort k { s.port k with
    reply := some x
    tx := ⟨s.now + min (Config.replyDelay k (s.port k).started) (us 50), x.frame⟩
    started := (s.port k).started + 1 }

/-- The state `s` once link `k` has taken request `r`, its last character at `t`, and answered it: the clock has moved, the line
has been followed to `t`, the request stands in the inbox and its reply in the transmitter (R152 to R154). -/
def State.replied (s : State) (t : Nat) (k : LinkId) (r : Request) (status : Status) (data : List Byte) : State :=
  ((s.advance t).setPort k { s.port k with lastCharEnd := t, seenTo := t, inbox := [r] }).sending k
    ⟨r.kind, r.tag, status.code, data⟩

/-- What a transmission becomes when it is cut off at instant `t`: it ends with the character in progress, and is not begun if
it was still to start (R157). -/
def cutOff (x : Transmission) (t : Nat) : Transmission :=
  if t ≤ x.start then ⟨t, []⟩ else ⟨x.start, x.bytes.take ((t - x.start + 9999) / us 10)⟩

/-- In command `c` no break of the shelf link can follow a request that ends in the same command: a low inside the character in
progress is not 2 ms old by then, and each change that CHARACTER_TAKEN's trace names lies within the last 2 ms of it (R157). -/
def State.noBreakAfterRequest (s : State) (c : Instr) : Prop :=
  (∀ x a, (s.port .shelf).char = some x → (s.port .shelf).lowSince = some a →
    max (s.port .shelf).seenTo c.instant < a + ms 2) ∧
  ∀ t changes, c = .characterTaken t .shelf changes → ∀ e ∈ changes, e ≤ t ∧ t < e + ms 2

/-- When a transmission's last character has been sent, each lasting 10 µs (R148). -/
def sentBy (x : Transmission) : Nat := x.start + us (10 * x.bytes.length)

/-- On link `k` the selector names bay `n`: absolutely on the shelf link, through the installed binding list on a bay link
(R160, R162). -/
def State.reaches (s : State) (k : LinkId) (sel : Byte) (n : Bay) : Prop :=
  match k with
  | .shelf => sel.toNat = n.val
  | .bay i => (sel = 0 ∧ (s.bindings.get i)[0]? = some n) ∨ (sel = 1 ∧ (s.bindings.get i)[1]? = some n)

/-- The kinds of Chapter 8's table with their numbers of parameter bytes; PROFILE BLOCK, 0x40, whose number follows its block,
is not listed (R154). -/
def kindTable : List (Byte × Nat) :=
  [(0x10, 1), (0x11, 3), (0x12, 7), (0x13, 2), (0x14, 0), (0x15, 1), (0x16, 1), (0x20, 0), (0x21, 0), (0x22, 2), (0x23, 2),
   (0x24, 2), (0x30, 3), (0x31, 1), (0x32, 4), (0x33, 1), (0x34, 0), (0x35, 2), (0x41, 0), (0x42, 1), (0x43, 0)]

/-- The bay has an entry in the burst queue. -/
def State.queued (s : State) (n : Bay) : Prop := ∃ e ∈ s.burst.queue, e.bay = n

/-- The two-byte field at byte `i` of a reply's data. -/
def field2 (data : List Byte) (i : Nat) : Nat := value2 (data.getD i 0) (data.getD (i + 1) 0)

/-- The byte at `i` of a reply's data. -/
def field1 (data : List Byte) (i : Nat) : Byte := data.getD i 0

/-- The four-byte field at byte `i` of a reply's data. -/
def field4 (data : List Byte) (i : Nat) : Nat := field2 data i * 65536 + field2 data (i + 2)

/-- Cause `c` is the one GET ALERT selects on link `k` from alert state `a` (R174). -/
def selects (k : LinkId) (a : AlertState) (c : Fin 8) : Prop :=
  (a.pendingCauses.get c).isSome = true ∧
    if k = .shelf ∧ (a.pendingCauses.get 0).isSome = true then c = 0
    else if ∃ d, (a.pendingCauses.get d).isSome = true ∧ a.groups.getLsbD d.val = true then
      a.groups.getLsbD c.val = true ∧
        ∀ d, (a.pendingCauses.get d).isSome = true → a.groups.getLsbD d.val = true → c ≤ d
    else ∀ d, (a.pendingCauses.get d).isSome = true → c ≤ d

/-- The amount a pool is credited when the active bursts of some bays leave the live table. -/
def State.credit (s : State) (bays : List Bay) (p : Pool) : Nat :=
  sum8 fun n =>
    match s.burst.active.get n with
    | some r => if bays.contains n = true ∧ r.pool = p then r.amount else 0
    | none => 0

/-- What a bay link reset of link `i` does beyond its receive decoder, from `s` to `s'` (R101, R119, R157, R176): the inbox
and the reply are abandoned, the alerts cleared and the mask with them, the demands of the served bays undeclared, their
entries and bursts removed with the pools credited, and nothing else of these blocks changed. -/
def bayLinkWasReset (i : Fin 8) (s s' : State) : Prop :=
  (s'.port (.bay i)).inbox = [] ∧ (s'.port (.bay i)).reply = none ∧
  s'.alert (.bay i) = { s.alert (.bay i) with pendingCauses := Row8.const none, mask := 0 } ∧
  s'.alloc = { s.alloc with
    demand := Row8.ofFn fun n => if (s.bindings.get i).contains n then none else s.alloc.demand.get n } ∧
  s'.burst.queue = s.burst.queue.filter (fun e => !(s.bindings.get i).contains e.bay) ∧
  (∀ n, s'.burst.active.get n = if (s.bindings.get i).contains n then none else s.burst.active.get n) ∧
  ∀ p, s'.burst.pools.get p = { s.burst.pools.get p with
    remaining := (s.burst.pools.get p).remaining + s.credit (s.bindings.get i) p }

/-! ### Resets and errors -/

/-- Every block stands at the value its chapter states for a reset, the timed ones timed from `t`; `s` is the state before
(R19, R37, R58, R101, R123, R147, R159, R176, R177). -/
def State.hasResetValues (s' s : State) (t : Nat) : Prop :=
  (∀ n, s'.capture.get n =
    { state := .seek, level := false, edgeAt := t, seekAt := t, temp := none, power := none, stuckCounted := false,
      raw := (s.capture.get n).raw, candidate := if (s.capture.get n).raw = true then some t else none,
      good := 0, marker := 0, gap := 0, width := 0, tail := 0, stuck := 0 }) ∧
  (∀ n, (s'.sensors.get n).state = .absent ∧ (s'.sensors.get n).held = none ∧ (s'.sensors.get n).implRun = 0 ∧
    (s'.sensors.get n).implCount = 0 ∧ (s'.sensors.get n).loss = 0 ∧ (s'.sensors.get n).maxTemp = 0 ∧
    ∀ u, (s'.sensors.get n).age u = 65535) ∧
  s'.params = ⟨200, 1000, 1023⟩ ∧ s'.presence = 0 ∧
  s'.alloc.engine = .stopped ∧ s'.alloc.epoch = 0 ∧ s'.alloc.rotation = 0 ∧ s'.alloc.ring = [] ∧
  s'.alloc.stickyShort = false ∧ s'.alloc.flight = none ∧
  (∀ n, s'.alloc.records.get n = none ∧ s'.alloc.demand.get n = none ∧ s'.alloc.pin.get n = none) ∧
  s'.cycle.derate = false ∧ s'.cycle.debounced = false ∧ s'.cycle.epochDue = none ∧ s'.cycle.rawDrt = s.cycle.rawDrt ∧
  s'.cycle.drtSince = (if s.cycle.rawDrt = true then some t else none) ∧
  s'.burst.queue = [] ∧ (∀ n, s'.burst.active.get n = none) ∧
  (∀ p, (s'.burst.pools.get p).exhausted = false ∧ (s'.burst.pools.get p).blocked = 0) ∧
  (∀ n, (s'.lines.get n).mode = .default ∧ (s'.lines.get n).len = 16 ∧ (s'.lines.get n).live = 8 ∧
    (s'.lines.get n).phi = 0 ∧ (s'.lines.get n).slotIndex = 0 ∧ (s'.lines.get n).slotTimeUs = 100 ∧
    (s'.lines.get n).staged = none ∧ (s'.lines.get n).hold = .free ∧ (s'.lines.get n).slotStart = t) ∧
  (∀ k, (s'.port k).rx = .hunt ∧ (s'.port k).inbox = [] ∧ (s'.port k).reply = none ∧ (s'.port k).inBreak = false ∧
    (s'.port k).counters = ⟨0, 0, 0, 0, 0, 0, 0⟩ ∧ (s'.port k).char = none ∧ (s'.port k).seenTo = t ∧
    (s'.port k).tx.bytes = [] ∧ (s'.port k).started = (s.port k).started ∧
    (s'.port k).lowSince = if (s.port k).lowSince.isSome = true then some t else none) ∧
  (∀ k, (s'.alert k).pendingCauses = Row8.const none ∧ (s'.alert k).mask = 0) ∧
  (∀ i, (s'.alert (.bay i)).groups = 0x03) ∧ (s'.alert .shelf).groups = 0x07 ∧
  s'.store.written = 0 ∧ s'.store.waiting = none ∧ s'.store.installed = none ∧ s'.shelfResetArmed = false ∧
  s'.pending = s.pending

/-- A change of a bay's sensor state, or a JUMP, is announced: SENSOR to the bay link that serves the bay, SENSOR_ANY to the
shelf link (R32). -/
def State.announceSensor (s : State) (n : Bay) : State :=
  (s.raiseServing s.bindings n .sensor 0).raiseShelf .sensorAny (flagBit n)

/-- A run in ACQUIRING ends and the bay returns to its origin (R25); no other record is touched. -/
def State.runEnds (s : State) (n : Bay) : State :=
  match (s.sensors.get n).state with
  | .acquiring run =>
    match run.origin with
    | .absent => (s.setSensor n { s.sensors.get n with state := .absent, implRun := 0 }).announceSensor n
    | .lost => (s.setSensor n { s.sensors.get n with state := .lost, implRun := 0 }).announceSensor n
  | _ => s

/-- A record whose timers are measured at `now` against a stale and a lost time in ms, as an install measures them: VALID moves
to STALE and on to LOST, STALE to LOST with the loss counted, a run that has been silent back to its origin (R34). -/
def SensorRec.agedUnder (r : SensorRec) (stale lost now : Nat) : SensorRec :=
  let past (a : Option Nat) (limit : Nat) : Bool := a.any fun a => decide (a + ms limit ≤ now)
  let gone : SensorRec := { r with state := .lost, implRun := 0, loss := satInc16 r.loss }
  match r.state with
  | .valid =>
    if past r.acceptedAt stale = false then r
    else if past r.acceptedAt lost = false then { r with state := .stale }
    else gone
  | .stale => if past r.acceptedAt lost = false then r else gone
  | .acquiring run =>
    if now < run.lastAt + ms stale then r
    else match run.origin with
      | .absent => { r with state := .absent, implRun := 0 }
      | .lost => { r with state := .lost, implRun := 0 }
  | _ => r

/-- What a capture error does beyond its decoder: the error notice ends a run, and CAPTURE_ERROR is raised (R14, R25). -/
def State.errorNoticed (s : State) (n : Bay) : State := (s.runEnds n).raiseShelf .captureError (flagBit n)

/-- The vector LINK_ERROR is raised with for an error on link `k` (R150). -/
def linkErrorBits : LinkId → Flags8
  | .bay n => flagBit n
  | .shelf => 0

/-! ### Profile blocks (Chapter 11) -/

/-- The block's number. -/
def Block.number : Block → Nat
  | .shelf _ => 0
  | .bindings _ => 1
  | .bay n _ => n.val + 2
  | .coupling _ => 10
  | .pools _ => 11

/-- Every field of the block lies in the range its table gives (Chapter 11, "Blocks and their contents"). -/
def Block.inRanges : Block → Prop
  | .shelf b =>
    b.format < 65536 ∧ 5 ≤ b.epochMs ∧ b.epochMs ≤ 250 ∧ b.capNormal ≤ 8191 ∧ b.capDerated ≤ 8191 ∧ b.margin ≤ 255 ∧
      1 ≤ b.alertThreshold ∧ b.alertThreshold ≤ 255 ∧ 50 ≤ b.staleMs ∧ b.staleMs ≤ 5000 ∧ 51 ≤ b.lostMs ∧
      b.lostMs ≤ 30000 ∧ 1 ≤ b.stepLimit ∧ b.stepLimit ≤ 1023 ∧ 20 ≤ b.slotTimeUs ∧ b.slotTimeUs ≤ 2000 ∧
      1 ≤ b.airflow.length ∧ b.airflow.length ≤ 8 ∧ b.airflow.Nodup
  | .bindings r => ∀ i, (r.get i).length ≤ 2 ∧ (r.get i).Nodup
  | .bay _ b =>
    b.floor ≤ 1023 ∧ b.idle ≤ 1022 ∧ 1 ≤ b.peak ∧ b.peak ≤ 1023 ∧ b.fallback ≤ 1023 ∧ b.limit ≤ 1023 ∧
      b.selfGain ≤ 4095 ∧ 8 ≤ b.len ∧ b.len ≤ 64 ∧ 1 ≤ b.countMin ∧ b.countMin ≤ 64 ∧ 1 ≤ b.countDerate ∧
      b.countDerate ≤ 64 ∧ 1 ≤ b.countFallback ∧ b.countFallback ≤ 64 ∧ b.phi ≤ 63
  | .coupling l => l.length ≤ 16 ∧ ∀ e ∈ l, 1 ≤ e.strength ∧ e.strength ≤ 1023
  | .pools r => ∀ p, (r.get p).reserve ≤ 8191 ∧ (r.get p).extra ≤ 8191

/-- Byte `i` of the block's data stands in a list beyond the list's count, where any value is allowed and ignored (R178). -/
def Block.spare (b : Block) (i : Nat) : Prop :=
  match b with
  | .shelf x => 19 + x.airflow.length ≤ i
  | .bindings r => ∃ k : Fin 8, ∃ j, (r.get k).length ≤ j ∧ j < 2 ∧ i = 3 * k.val + 1 + j
  | .coupling l => 1 + 4 * l.length ≤ i
  | .bay _ _ => False
  | .pools _ => False

/-- The bytes are this block's data in the layout of Chapter 11's tables, but for list entries beyond a count (R178). -/
def Block.readFrom (b : Block) (body : List Byte) : Prop :=
  body.length = b.bytes.length ∧ ∀ i, ¬b.spare i → body[i]? = b.bytes[i]?

/-- The staging profile fails check `code` of R180 at `index`. -/
def ProfileStore.failsAt (st : ProfileStore) (code index : Nat) : Prop :=
  match code with
  | 1 => st.installed = none ∧ index < 12 ∧ st.written.getLsbD index = false
  | 2 => index = 0 ∧ st.staging.shelf.format ≠ 0x0816
  | 3 => ∃ n : Bay, n.val = index ∧ (st.staging.bays.get n).occupied = true ∧
      ((st.staging.bays.get n).peak ≤ (st.staging.bays.get n).idle ∨
        (st.staging.bays.get n).peak < (st.staging.bays.get n).floor ∨
        (st.staging.bays.get n).peak < (st.staging.bays.get n).fallback)
  | 4 => ∃ n : Bay, n.val = index ∧ (st.staging.bays.get n).occupied = true ∧
      ((st.staging.bays.get n).countDerate < (st.staging.bays.get n).countMin ∨
        (st.staging.bays.get n).len < (st.staging.bays.get n).countDerate ∨
        (st.staging.bays.get n).countFallback < (st.staging.bays.get n).countMin ∨
        (st.staging.bays.get n).len < (st.staging.bays.get n).countFallback ∨
        (st.staging.bays.get n).len ≤ (st.staging.bays.get n).phi)
  | 5 => index = 0 ∧ st.staging.shelf.lostMs ≤ st.staging.shelf.staleMs
  | 6 => ∃ n : Bay, n.val = index ∧
      ¬(n ∈ st.staging.shelf.airflow ↔ (st.staging.bays.get n).occupied = true)
  | 7 => ∃ e, st.staging.couplings[index]? = some e ∧
      ((st.staging.bays.get e.down).occupied = false ∨ (st.staging.bays.get e.up).occupied = false ∨
        st.staging.shelf.airflow.idxOf e.down ≤ st.staging.shelf.airflow.idxOf e.up ∨
        ∃ j f, j < index ∧ st.staging.couplings[j]? = some f ∧ f.down = e.down ∧ f.up = e.up)
  | 8 => ∃ n : Bay, n.val = index ∧
      (sum8 fun k => if n ∈ st.staging.bindings.get k then 1 else 0) ≠
        if (st.staging.bays.get n).occupied = true then 1 else 0
  | 9 => index = 0 ∧ (st.staging.shelf.capDerated < st.staging.floors ∨
      st.staging.shelf.capNormal < st.staging.shelf.capDerated)
  | 10 => ∃ p : Pool, p.val = index ∧ st.staging.shelf.capNormal < (st.staging.pools.get p).reserve
  | _ => False

/-! ### Ceilings and patterns -/

/-- The airflow order lists each of its bays once and places every coupling's upstream bay before its downstream bay
(R59, R60). -/
def Profile.ordered (p : Profile) : Prop :=
  p.shelf.airflow.Nodup ∧
    ∀ e ∈ p.couplings, e.down ∈ p.shelf.airflow ∧ e.up ∈ p.shelf.airflow ∧
      p.shelf.airflow.idxOf e.up < p.shelf.airflow.idxOf e.down

/-- How many of `m` consecutive slots from slot `a` on are open, the pattern read cyclically (R127). -/
def openSlots (count len a m : Nat) : Nat := ((List.range m).filter fun i => openSlot count len ((a + i) % len)).length

/-- The relations of a bay's pattern fields that check 4 of a commit asks for (R180). -/
def BayBlock.patternSound (b : BayBlock) : Prop :=
  b.countMin ≤ b.countDerate ∧ b.countDerate ≤ b.len ∧ b.countMin ≤ b.countFallback ∧ b.countFallback ≤ b.len ∧
    b.phi < b.len

/-- They hold of every occupied bay. -/
def Profile.patternsSound (p : Profile) : Prop :=
  ∀ n, (p.bays.get n).occupied = true → (p.bays.get n).patternSound

/-! ### Sound states, one predicate for each block -/

/-- What a port holds of its receive line is coherent at the instant the line has been followed to: a character in progress
has not ended, a break episode has the line low, and neither a break nor a gap inside a frame or in DISCARD is overdue
(R148, R150, R151, R157). -/
def Port.lineSound (p : Port) : Prop :=
  (∀ a, p.lowSince = some a → a ≤ p.seenTo ∧ (p.inBreak = false → p.seenTo < a + ms 2)) ∧
  (p.inBreak = true → p.lowSince.isSome = true ∧ p.char = none) ∧
  (∀ c, p.char = some c → c.start ≤ p.seenTo ∧ p.seenTo < c.start + us 10 ∧ (∀ e ∈ c.edges, c.start + e ≤ p.seenTo) ∧
    (p.lowSince.isSome = true ↔ c.edges.length % 2 = 0) ∧ ∀ a, p.lowSince = some a → c.start ≤ a) ∧
  (p.char = none → p.rx ≠ .hunt → p.seenTo < p.lastCharEnd + us 201)

/-- A link's inbox holds at most two requests, at most one while a frame arrives, a reply is in the transmitter exactly while
the inbox holds something, whole and started within 50 µs, and its receive line is coherent; RST leaves no character and no
break in progress; while a SHELF RESET is arranged the shelf link is sending (R148, R150 to R153, R157 to R159, R171). -/
def State.linksSound (s : State) : Prop :=
  (s.shelfResetArmed = true → (s.port .shelf).reply.isSome = true) ∧
  ∀ k, (∀ x, (s.port k).reply = some x → (s.port k).tx.bytes = x.frame) ∧ (s.port k).tx.start ≤ s.now + us 50 ∧
    (s.port k).inbox.length ≤ 2 ∧ ((s.port k).rx.inFrame = true → (s.port k).inbox.length ≤ 1) ∧
    ((s.port k).reply.isSome = true ↔ (s.port k).inbox ≠ []) ∧ (s.port k).lineSound ∧
    (s.inReset = true → (s.port k).char = none ∧ (s.port k).inBreak = false)

/-- A bay link's vectors name selectors only, reasons stand at BURST_WITHDRAWN alone, the causes of Chapter 10 with an empty
vector hold none, OVERTEMP_ANY is never masked and always in the high group (R172 to R175). -/
def State.alertsSound (s : State) : Prop :=
  (∀ i c r, (s.alert (.bay i)).pendingCauses.get c = some r →
    (∀ b, 2 ≤ b → r.vector.getLsbD b = false) ∧ (c ≠ 5 → r.reasons = 0)) ∧
  (∀ c r, (s.alert .shelf).pendingCauses.get c = some r →
    r.reasons = 0 ∧ (c = 1 ∨ c = 2 ∨ c = 7 → r.vector = 0) ∧ (c = 6 → ∀ b, 4 ≤ b → r.vector.getLsbD b = false)) ∧
  (s.alert .shelf).mask.getLsbD 0 = false ∧ (s.alert .shelf).groups.getLsbD 0 = true

/-- Each pool's remaining plus the amounts of its active bursts is its reserve, which is the installed profile's (R104). -/
def State.poolsSound (s : State) : Prop :=
  ∀ p, (s.burst.pools.get p).remaining +
      (sum8 fun n =>
        match s.burst.active.get n with
        | some r => if r.pool = p then r.amount else 0
        | none => 0) = (s.burst.pools.get p).reserve ∧
    ∀ prof, s.store.installed = some prof → (s.burst.pools.get p).reserve = (prof.pools.get p).reserve

/-- The queue holds at most one entry per bay; entries and active bursts belong to occupied, unpinned bays and their pools,
with fields in their ranges; demands and pins belong to occupied bays and are at most their peaks (R79 to R81, R102, R103,
R105). -/
def State.burstsSound (s : State) : Prop :=
  (s.burst.queue.map QueueEntry.bay).Nodup ∧
  (∀ e ∈ s.burst.queue, s.alloc.pin.get e.bay = none ∧ s.occupied e.bay = true ∧ e.pool = (s.bayBlock e.bay).pool ∧
    1 ≤ e.amount ∧ e.amount ≤ 511 ∧ e.amount ≤ (s.burst.pools.get e.pool).reserve ∧ 1 ≤ e.duration ∧
    e.duration ≤ 4095 ∧ 1 ≤ e.roundsLeft ∧ e.roundsLeft ≤ 256) ∧
  (∀ n r, s.burst.active.get n = some r → s.alloc.pin.get n = none ∧ s.occupied n = true ∧
    r.pool = (s.bayBlock n).pool ∧ 1 ≤ r.amount ∧ r.amount ≤ 511 ∧ 1 ≤ r.remaining ∧ r.remaining ≤ 4095) ∧
  (∀ n v, s.alloc.demand.get n = some v → s.occupied n = true ∧ v ≤ (s.bayBlock n).peak) ∧
  (∀ n v, s.alloc.pin.get n = some v → s.occupied n = true ∧ v ≤ (s.bayBlock n).peak)

/-- A line's record agrees with its bay: in PROFILE mode exactly while the bay is occupied, with the profile's pattern and
its live and staged counts from Amin to L; else in DEFAULT mode with the default pattern (R125, R129, R145). -/
def Line.soundFor (l : Line) (b : BayBlock) : Prop :=
  l.slotIndex < l.len ∧
    if b.occupied = true then
      l.mode = .profile ∧ l.len = b.len ∧ l.phi = b.phi ∧ b.countMin ≤ l.live ∧ l.live ≤ b.len ∧
        ∀ x, l.staged = some x → b.countMin ≤ x.count ∧ x.count ≤ b.len
    else
      l.mode = .default ∧ l.len = 16 ∧ l.live = 8 ∧ l.phi = 0 ∧ l.slotTimeUs = 100 ∧ l.staged = none ∧ l.hold = .free

/-- Every line agrees with its bay; the profiles installed and pending passed check 4; the operation in flight works on the
installed bays (R46, R125, R145, R180). -/
def State.linesSound (s : State) : Prop :=
  (∀ p, s.store.installed = some p → p.patternsSound) ∧ (∀ p, s.store.waiting = some p → p.patternsSound) ∧
  (∀ x, s.alloc.flight = some x → ∃ p, s.store.installed = some p ∧ x.profile.bays = p.bays) ∧
  ∀ n, (s.lines.get n).soundFor (s.bayBlock n)

/-- The sensor state has taken no sample for the held sample yet: ABSENT, or a run that came from ABSENT. -/
def SensorState.neverAccepted : SensorState → Prop
  | .absent => True
  | .acquiring run => run.origin = .absent
  | _ => False

/-- A record's held sample is present exactly once a sample has been accepted, its values and the maximum are in range, the
implausible run is 0 outside VALID and STALE, and nothing it is timed from lies ahead of the clock (Chapter 2, R23, R26). -/
def SensorRec.sound (r : SensorRec) (now : Nat) : Prop :=
  (r.held = none ↔ r.state.neverAccepted) ∧ (r.acceptedAt = none ↔ r.held = none) ∧
  (∀ x, r.held = some x → x.temp ≤ r.maxTemp ∧ x.power ≤ 1023) ∧ r.maxTemp ≤ 1023 ∧
  (∀ a, r.acceptedAt = some a → a ≤ now) ∧
  (∀ run, r.state = .acquiring run → run.sample.temp ≤ 1023 ∧ run.sample.power ≤ 1023 ∧ run.lastAt ≤ now) ∧
  (r.implRun ≠ 0 → r.state = .valid ∨ r.state = .stale)

/-- Every record is sound, every partial value lies from 0 to 1023 (R5), and outside reset a candidate is open exactly while
the raw line differs from the filtered level, opened no later than now (R2). -/
def State.sensorsSound (s : State) : Prop :=
  ∀ n, (s.sensors.get n).sound s.now ∧ (∀ v, (s.capture.get n).temp = some v → v ≤ 1023) ∧
    (∀ v, (s.capture.get n).power = some v → v ≤ 1023) ∧
    (s.inReset = false → ((s.capture.get n).candidate.isSome = true ↔ (s.capture.get n).raw ≠ (s.capture.get n).level)) ∧
    ∀ c, (s.capture.get n).candidate = some c → c ≤ s.now

/-- The engine runs exactly while a profile is installed and the epoch timer runs; while it is STOPPED everything of the
cycle stands as reset left it; the derate flag covers the debounced level, and equals it while STOPPED; a debounce runs
exactly while the raw line differs (R38, R39, R41 to R43, R58, R177). -/
def State.engineSound (s : State) : Prop :=
  (s.alloc.engine = .running ↔ s.store.installed.isSome = true) ∧
  (s.alloc.engine = .running ↔ s.cycle.epochDue.isSome = true) ∧
  (s.alloc.engine = .stopped →
    s.alloc = Allocator.reset ∧ s.store.waiting = none ∧ s.burst = BurstUnit.reset ∧ s.cycle.derate = s.cycle.debounced) ∧
  (s.cycle.debounced = true → s.cycle.derate = true) ∧
  (s.inReset = false → (s.cycle.drtSince.isSome = true ↔ s.cycle.rawDrt ≠ s.cycle.debounced))

/-- The ring holds at most eight summaries, consecutive up to the last completed allocation, none with grants above its cap;
the operation in flight carries the current epoch number (R38, R54, R98). -/
def State.ringSound (s : State) : Prop :=
  s.engineSound ∧ s.alloc.ring.length ≤ 8 ∧
  (∀ i x y, s.alloc.ring[i]? = some x → s.alloc.ring[i + 1]? = some y → y.epoch = x.epoch + 1) ∧
  (∀ x, s.alloc.flight = some x → x.epoch = s.alloc.epoch) ∧
  (∀ y, s.alloc.ring.getLast? = some y →
    y.epoch + (if s.alloc.flight.isSome = true then 1 else 0) = s.alloc.epoch) ∧
  ∀ y ∈ s.alloc.ring, y.grants ≤ y.cap

end Sys2Proof.Machine
end

