-- ==== Sys2Proof/Certificates/Slice0/Obligations.lean ====
section
/-! DEFINITION. The statements for the provers, in the order of OBLIGATIONS.json. -/

section

open Sys2Proof Sys2Proof.Machine

/-- A step takes the command at the front of the queue, and idles on an empty one (the idling is the model's choice, log 3). -/
def Obligations.StepTakesTheFrontCommand : Prop :=
  (∀ (c : Instr) (s : State) (rest : List Instr),
    step { s with pending := c :: rest } = exec c { s with pending := rest }) ∧
  ∀ s : State, s.pending = [] → step s = .next s

/-- No command stops the part (R44), touches the queue or turns the clock back. That a command whose event the state does not
admit, or a term that is not well formed (log 21), answers a next state, not a fault and not a refusal, is the model's choice, log 2;
the clock is log 1's. -/
def Obligations.EveryCommandAnswersANextState : Prop :=
  ∀ (c : Instr) (s : State), ∃ s', exec c s = .next s' ∧ s'.pending = s.pending ∧ s.now ≤ s'.now

/-- The three commands of a reset: the values of every block, and the outputs (R19, R37, R58, R101, R123, R147, R159, R171,
R176, R177); and what the commands do while RST is asserted. That POWER_ON_RESET times the blocks from the assertion, and
what passes while RST is asserted, is the model's choice, log 7; that SHELF_RESET_TAKEN names the same event as the REPLY_END of
SHELF RESET's reply is log 11, and what it does where there is none is log 2. -/
def Obligations.ResetsSetEveryBlock : Prop :=
  (∀ (t : Nat) (s : State), ∃ s', exec (.powerOnReset t) s = .next s' ∧ s'.hasResetValues s (max s.now t) ∧
    s'.now = max s.now t ∧ s'.inReset = true ∧
    (∀ k, s'.rdy k = false ∧ s'.alt k = false ∧ ∀ u, s'.txLevel k u = true) ∧ ∀ n, s'.throttle n = false) ∧
  (∀ (t : Nat) (s : State), s.inReset = true →
    ∃ s', exec (.releaseOfReset t) s = .next s' ∧ s'.hasResetValues s (max s.now t) ∧ s'.now = max s.now t ∧
      s'.inReset = false ∧ (∀ k, s'.rdy k = true ∧ s'.alt k = false ∧ ∀ u, s'.txLevel k u = true) ∧
      ∀ n, s'.throttle n = true) ∧
  (∀ (t : Nat) (s : State), s.inReset = false → s.shelfResetArmed = true →
    sentBy (s.port .shelf).tx ≤ max s.now t →
    ∃ s', exec (.shelfResetTaken t) s = .next s' ∧ s'.hasResetValues s (max s.now (sentBy (s.port .shelf).tx)) ∧
      s'.now = max s.now t ∧
      s'.inReset = false ∧ (∀ k, s'.rdy k = true ∧ s'.alt k = false ∧ ∀ u, s'.txLevel k u = true) ∧
      ∀ n, s'.throttle n = true) ∧
  (∀ (t : Nat) (s : State), s.inReset = false →
    s.shelfResetArmed = false ∨ max s.now t < sentBy (s.port .shelf).tx →
    exec (.shelfResetTaken t) s = .next (s.advance t)) ∧
  ∀ s : State, s.inReset = true →
    (∀ c : Instr, (∀ t, c ≠ .powerOnReset t ∧ c ≠ .releaseOfReset t ∧ ∀ high, c ≠ .rawDrtChange t high) →
      (∀ raw n, c ≠ .acceptedEdge raw n) → (∀ t k changes, c ≠ .characterTaken t k changes) → c.request = none →
      exec c s = .next (s.advance c.instant)) ∧
    (∀ t k changes, exec (.characterTaken t k changes) s = .next ((s.advance t).setPort k
      { s.port k with
        lowSince := if (s.port k).lowSince.isSome = decide (changes.length % 2 = 0) then some (s.port k).seenTo
          else none })) ∧
    (∀ c t k r, c.request = some (t, k, r) →
      exec c s = .next ((s.advance t).setPort k { s.port k with lowSince := none })) ∧
    (∀ t high, exec (.rawDrtChange t high) s = .next ((s.advance t).setCycle { s.cycle with rawDrt := high })) ∧
    ∀ raw n, exec (.acceptedEdge raw n) s = .next ((s.advance raw.upto).setDecoder n
      { s.capture.get n with raw := (s.capture.get n).raw != decide (raw.changes.length % 2 = 1) })

/-- SEEK's quiet low (R3, R6); a command that comes too early is the model's choice, log 2. -/
def Obligations.QuietLowEntersIdle : Prop :=
  ∀ (t : Nat) (n : Bay) (s : State), s.inReset = false → (s.capture.get n).state = .seek →
    (s.capture.get n).level = false →
    let settled := match (s.capture.get n).candidate with
      | some c => min (max s.now t) c
      | none => max s.now t
    (max (s.capture.get n).seekAt (s.capture.get n).edgeAt + us 1000 ≤ settled →
      exec (.quietLow t n) s = .next ((s.advance t).setDecoder n { s.capture.get n with state := .idle })) ∧
    (settled < max (s.capture.get n).seekAt (s.capture.get n).edgeAt + us 1000 →
      exec (.quietLow t n) s = .next (s.advance t))

/-- Accepted edges that abandon nothing (R2, R4 to R10, R13). -/
def Obligations.GoodEdgesMoveTheFrame : Prop :=
  ∀ (t c : Nat) (n : Bay) (s : State), s.inReset = false → (s.capture.get n).candidate = some c →
    c + us 4 ≤ max s.now t →
    let d := s.capture.get n
    let w := (c - d.edgeAt) / 1000
    let accepted := exec (.acceptedEdge ⟨[], t⟩ n) s
    let moved (d' : Decoder) : Host.Outcome State Fault Refusal :=
      .next ((s.advance t).setDecoder n
        { d' with level := !d.level, candidate := none, edgeAt := c, stuckCounted := false })
    (d.state = .idle → d.level = false → accepted = moved { d with state := .marker }) ∧
    (d.state = .marker → d.level = true → 400 ≤ w → w ≤ 600 → accepted = moved { d with state := .gapA }) ∧
    (d.state = .gapA → d.level = false → 40 ≤ w → w ≤ 200 → accepted = moved { d with state := .temp }) ∧
    (d.state = .temp → d.level = true → 50 ≤ w → w ≤ 1073 →
      accepted = moved { d with state := .gapB, temp := some (w - 50) }) ∧
    (d.state = .gapB → d.level = false → 40 ≤ w → w ≤ 200 → accepted = moved { d with state := .power }) ∧
    (d.state = .power → d.level = true → 50 ≤ w → w ≤ 1073 →
      accepted = moved { d with state := .tail, power := some (w - 50) }) ∧
    (d.state = .seek → d.level = false → c < max d.seekAt d.edgeAt + us 1000 → accepted = moved d) ∧
    (d.state = .seek → d.level = true → d.stuckCounted = true ∨ c < d.edgeAt + us 2000 → accepted = moved d)

/-- Capture errors at an edge (R2, R8 to R11, R14): the row's own command and the accepted edge itself do the same. -/
def Obligations.BadEdgesAbandonTheFrame : Prop :=
  ∀ (t c : Nat) (n : Bay) (s : State), s.inReset = false → (s.capture.get n).candidate = some c →
    c + us 4 ≤ max s.now t →
    let d := s.capture.get n
    let w := (c - d.edgeAt) / 1000
    let accepted := exec (.acceptedEdge ⟨[], t⟩ n) s
    let abandoned (d' : Decoder) : Host.Outcome State Fault Refusal :=
      .next (((s.advance t).setDecoder n
        { d' with state := .seek, seekAt := c, temp := none, power := none, level := !d.level, candidate := none,
                  edgeAt := c, stuckCounted := false }).errorNoticed n)
    (d.state = .marker → d.level = true → (w < 400 ∨ 600 < w) → c < d.edgeAt + us 2000 →
      exec (.captureMarkerError t n) s = abandoned { d with marker := satInc8 d.marker } ∧
      accepted = abandoned { d with marker := satInc8 d.marker }) ∧
    ((d.state = .gapA ∨ d.state = .gapB) → d.level = false → w < 40 →
      exec (.captureGapError t n) s = abandoned { d with gap := satInc8 d.gap } ∧
      accepted = abandoned { d with gap := satInc8 d.gap }) ∧
    ((d.state = .temp ∨ d.state = .power) → d.level = true → w < 50 →
      exec (.captureWidthError t n) s = abandoned { d with width := satInc8 d.width } ∧
      accepted = abandoned { d with width := satInc8 d.width }) ∧
    (d.state = .tail → d.level = false → c < d.edgeAt + us 1000 →
      exec (.captureTailError t n) s = abandoned { d with tail := satInc8 d.tail } ∧
      accepted = abandoned { d with tail := satInc8 d.tail })

/-- Capture errors at an expiry, and what keeps an expiry waiting (R3, R9, R10, R13, R14); a command that comes too early is
the model's choice, log 2. -/
def Obligations.OverlongIntervalsAbandonTheFrame : Prop :=
  ∀ (t : Nat) (n : Bay) (s : State), s.inReset = false →
    let d := s.capture.get n
    let settled := match d.candidate with
      | some c => min (max s.now t) c
      | none => max s.now t
    let good (least : Nat) : Prop :=
      ∀ c, d.candidate = some c → c + us 4 ≤ max s.now t → least ≤ (c - d.edgeAt) / 1000
    let sought (u : Nat) (d' : Decoder) : Decoder := { d' with state := .seek, seekAt := u, temp := none, power := none }
    ((d.state = .gapA ∨ d.state = .gapB) →
      (d.edgeAt + us 201 ≤ settled → exec (.captureGapError t n) s =
        .next (((s.advance t).setDecoder n
          (sought (d.edgeAt + us 201) { d with gap := satInc8 d.gap })).errorNoticed n)) ∧
      (settled < d.edgeAt + us 201 → good 40 → exec (.captureGapError t n) s = .next (s.advance t))) ∧
    ((d.state = .temp ∨ d.state = .power) →
      (d.edgeAt + us 1074 ≤ settled → exec (.captureWidthError t n) s =
        .next (((s.advance t).setDecoder n
          (sought (d.edgeAt + us 1074) { d with width := satInc8 d.width })).errorNoticed n)) ∧
      (settled < d.edgeAt + us 1074 → good 50 → exec (.captureWidthError t n) s = .next (s.advance t))) ∧
    (d.level = true → d.stuckCounted = false → d.edgeAt + us 2000 ≤ settled →
      (d.state = .marker → exec (.stuck t n) s =
        .next (((s.advance t).setDecoder n
          (sought (d.edgeAt + us 2000) { d with stuckCounted := true, stuck := satInc8 d.stuck })).errorNoticed n)) ∧
      (d.state = .seek → exec (.stuck t n) s =
        .next (((s.advance t).setDecoder n
          (sought d.seekAt { d with stuckCounted := true, stuck := satInc8 d.stuck })).errorNoticed n)) ∧
      ((d.state = .temp ∨ d.state = .power) → exec (.stuck t n) s =
        .next (((((s.advance t).setDecoder n
          (sought (d.edgeAt + us 1074) { d with width := satInc8 d.width })).errorNoticed n).setDecoder n
            (sought (d.edgeAt + us 1074)
              { d with width := satInc8 d.width, stuckCounted := true, stuck := satInc8 d.stuck })).errorNoticed n))) ∧
    ((d.state = .marker ∨ d.state = .seek) → d.stuckCounted = true ∨ settled < d.edgeAt + us 2000 →
      exec (.stuck t n) s = .next (s.advance t)) ∧
    (d.state = .tail → settled < d.edgeAt + us 1000 → exec (.tailComplete t n) s = .next (s.advance t))

/-- The glitch filter (R2, R3); the trace as ACCEPTED_EDGE's operand, and late changes taken at the clock, are the model's
choice, log 8. -/
def Obligations.FilterHidesShortPulses : Prop :=
  ∀ (t : Nat) (n : Bay) (s : State), s.inReset = false →
    let d := s.capture.get n
    let now := max s.now t
    let held := ∃ c, d.candidate = some c ∧ c + us 4 ≤ now
    let changed := exec (.acceptedEdge ⟨[t], t⟩ n) s
    let becomes (d' : Decoder) : State := (s.advance t).setDecoder n { d' with raw := !d.raw }
    (¬held → exec (.acceptedEdge ⟨[], t⟩ n) s = .next (s.advance t)) ∧
    (¬held → d.nothingDue now → d.raw = d.level → changed = .next (becomes { d with candidate := some now })) ∧
    (¬held → d.raw ≠ d.level →
      let dropped := becomes { d with candidate := none }
      (d.nothingDue now → changed = .next dropped) ∧
      ((d.state = .gapA ∨ d.state = .gapB) → d.level = false → now < d.edgeAt + us 1201 →
        changed = exec (.captureGapError t n) dropped) ∧
      (d.state = .tail → d.level = false → changed = exec (.tailComplete t n) dropped) ∧
      (d.state = .seek → d.level = false → changed = exec (.quietLow t n) dropped) ∧
      ((d.state = .marker ∨ d.state = .temp ∨ d.state = .power ∨ d.state = .seek) → d.level = true →
        changed = exec (.stuck t n) dropped)) ∧
    (∀ x y, d.candidate = none → d.raw = d.level → s.now ≤ x → x < y → y < x + us 4 → y ≤ t → d.nothingDue y →
      exec (.acceptedEdge ⟨[x, y], t⟩ n) s = .next (s.advance t)) ∧
    ∀ x rest, ∃ s1 s2, exec (.acceptedEdge ⟨[], x⟩ n) s = .next s1 ∧ exec (.acceptedEdge ⟨[x], x⟩ n) s1 = .next s2 ∧
      exec (.acceptedEdge ⟨x :: rest, t⟩ n) s = exec (.acceptedEdge ⟨rest, t⟩ n) s2

/-- TAIL_COMPLETE with the sample's fate in each sensor state (R3, R12, R22 to R28, R32). -/
def Obligations.CompletedTailDeliversItsSample : Prop :=
  ∀ (t : Nat) (n : Bay) (s : State), s.inReset = false → (s.capture.get n).state = .tail →
    let d := s.capture.get n
    let settled := match d.candidate with
      | some c => min (max s.now t) c
      | none => max s.now t
    d.edgeAt + us 1000 ≤ settled →
    let r := s.sensors.get n
    let x : Sample := ⟨d.temp.getD 0, d.power.getD 0⟩
    let now := max s.now t
    let near (reference : Nat) : Prop := reference ≤ x.temp + s.params.step ∧ x.temp ≤ reference + s.params.step
    let q := (s.advance t).setDecoder n { d with state := .idle, temp := none, power := none, good := d.good + 1 }
    let accepted : SensorRec :=
      { r with state := .valid, held := some x, acceptedAt := some now, implRun := 0, maxTemp := max r.maxTemp x.temp }
    let ends (s' : State) : Prop := exec (.tailComplete t n) s = .next s'
    (r.state = .absent →
      ends ((q.setSensor n { r with state := .acquiring ⟨.absent, .one, x, now⟩ }).announceSensor n)) ∧
    (r.state = .lost →
      ends ((q.setSensor n { r with state := .acquiring ⟨.lost, .one, x, now⟩ }).announceSensor n)) ∧
    (∀ run, r.state = .acquiring run →
      (¬near run.sample.temp →
        ends (q.setSensor n { r with state := .acquiring ⟨run.origin, .one, x, now⟩ })) ∧
      (near run.sample.temp → run.count = .one →
        ends (q.setSensor n { r with state := .acquiring ⟨run.origin, .two, x, now⟩ })) ∧
      (near run.sample.temp → run.count = .two →
        ends (((q.setSensor n accepted).announceSensor n).overtempTest n x.temp))) ∧
    (∀ h, r.held = some h → r.state = .valid ∨ r.state = .stale →
      (near h.temp → r.state = .valid → ends ((q.setSensor n accepted).overtempTest n x.temp)) ∧
      (near h.temp → r.state = .stale →
        ends (((q.setSensor n accepted).announceSensor n).overtempTest n x.temp)) ∧
      (¬near h.temp → r.implRun ≠ 2 →
        ends (q.setSensor n { r with implRun := r.implRun + 1, implCount := satInc8 r.implCount })) ∧
      (¬near h.temp → r.implRun = 2 →
        ends (((q.setSensor n { accepted with implCount := satInc8 r.implCount }).announceSensor n).overtempTest
          n x.temp)))

/-- The over-temperature test and its event (R33, R139). -/
def Obligations.OverTemperatureTestHoldsTheLine : Prop :=
  ∀ (s : State) (n : Bay) (temp : Nat),
    (s.store.installed = none → s.overtempTest n temp = s) ∧
    ∀ p, s.store.installed = some p →
      ((p.bays.get n).occupied = false → s.overtempTest n temp = s) ∧
      ((p.bays.get n).occupied = true →
        (temp < (p.bays.get n).limit + p.shelf.margin → s.overtempTest n temp = s) ∧
        ((p.bays.get n).limit + p.shelf.margin ≤ temp →
          ((s.lines.get n).mode = .profile →
            s.overtempTest n temp =
              (((s.setLine n
                { s.lines.get n with
                  live := (p.bays.get n).countMin
                  staged := (s.lines.get n).staged.map fun x => ⟨(p.bays.get n).countMin, x.derateMark⟩
                  hold := .held }).raiseServing p.bindings n .overtemp 0).raiseShelf .overtempAny (flagBit n))) ∧
          ((s.lines.get n).mode = .default →
            s.overtempTest n temp =
              (s.raiseServing p.bindings n .overtemp 0).raiseShelf .overtempAny (flagBit n))))

/-- The three timers (R25, R29, R30); a command that comes too early is the model's choice, log 2. -/
def Obligations.SensorTimersAgeTheRecord : Prop :=
  ∀ (t : Nat) (n : Bay) (s : State), s.inReset = false →
    let r := s.sensors.get n
    (∀ a, r.state = .valid → r.acceptedAt = some a →
      (a + ms s.params.stale ≤ max s.now t → exec (.staleTimer t n) s =
        .next (((s.advance t).setSensor n { r with state := .stale }).announceSensor n)) ∧
      (max s.now t < a + ms s.params.stale → exec (.staleTimer t n) s = .next (s.advance t))) ∧
    (∀ a, r.state = .stale → r.acceptedAt = some a →
      (a + ms s.params.lost ≤ max s.now t → exec (.lostTimer t n) s =
        .next (((s.advance t).setSensor n
          { r with state := .lost, implRun := 0, loss := if r.loss = 65535 then 65535 else r.loss + 1 }).announceSensor
            n)) ∧
      (max s.now t < a + ms s.params.lost → exec (.lostTimer t n) s = .next (s.advance t))) ∧
    ∀ run, r.state = .acquiring run →
      (run.lastAt + ms s.params.stale ≤ max s.now t →
        exec (.runSilence t n) s = .next ((s.advance t).runEnds n)) ∧
      (max s.now t < run.lastAt + ms s.params.stale → exec (.runSilence t n) s = .next (s.advance t))

/-- The raw line and its debounce (R41). -/
def Obligations.RawDrtStartsAndDropsTheDebounce : Prop :=
  ∀ (t : Nat) (high : Bool) (s : State), s.inReset = false →
    (∀ a, s.cycle.drtSince = some a → max s.now t < a + us 200) →
    exec (.rawDrtChange t high) s =
      .next ((s.advance t).setCycle
        { s.cycle with
          rawDrt := high
          drtSince := if high = s.cycle.rawDrt then s.cycle.drtSince
            else if high = s.cycle.debounced then none else some (max s.now t) })

/-- Derate assertion and deassertion in both engine states (R41 to R43, R137, R138). -/
def Obligations.DebouncedDrtSetsTheDerateFlag : Prop :=
  ∀ (t a : Nat) (s : State), s.inReset = false → s.cycle.drtSince = some a → a + us 200 ≤ max s.now t →
    (s.cycle.rawDrt = true → s.cycle.debounced = false →
      let q := (s.advance t).setCycle { s.cycle with debounced := true, drtSince := none, derate := true }
      (s.alloc.engine = .running → exec (.derateAssertion t) s =
        .next ((q.setLines (Row8.ofFn fun n =>
          if (s.lines.get n).mode = .profile then
            { s.lines.get n with live := min (s.lines.get n).live (s.bayBlock n).countDerate }
          else s.lines.get n)).raiseShelf .derate 0)) ∧
      (s.alloc.engine = .stopped → exec (.derateAssertion t) s = .next q)) ∧
    (s.cycle.rawDrt = false → s.cycle.debounced = true →
      (s.alloc.engine = .running → exec (.derateDeassertion t) s =
        .next ((s.advance t).setCycle { s.cycle with debounced := false, drtSince := none })) ∧
      (s.alloc.engine = .stopped → exec (.derateDeassertion t) s =
        .next ((s.advance t).setCycle { s.cycle with debounced := false, drtSince := none, derate := false })))

/-- A boundary that installs nothing (R38, R40, R44 to R47, R111, R115, R126, R130, R135, R136, R140, R172). That slot 0 and
the epoch timer run from the due instant when the command comes later is the model's choice, log 20. -/
def Obligations.BoundaryTransfersAndTakesTheSnapshot : Prop :=
  ∀ (t due : Nat) (p : Profile) (s : State), s.inReset = false → s.alloc.engine = .running →
    s.store.installed = some p → s.store.waiting = none → s.alloc.flight = none → s.cycle.epochDue = some due →
    due ≤ max s.now t →
    let flag := s.cycle.derate && s.cycle.debounced
    let cap := if flag then p.shelf.capDerated else p.shelf.capNormal
    let base := sum8 fun n =>
      if (p.bays.get n).occupied then (s.alloc.pin.get n).getD (p.bays.get n).floor else 0
    let r := s.burst.round cap base
    ∃ s', exec (.boundary t) s = .next s' ∧ s'.now = max s.now t ∧ s'.inReset = false ∧
      s'.shelfResetArmed = s.shelfResetArmed ∧ s'.capture = s.capture ∧ s'.sensors = s.sensors ∧
      s'.params = s.params ∧ s'.ports = s.ports ∧ s'.store = s.store ∧ s'.burst = r.unit ∧
      s'.cycle = { s.cycle with derate := flag, epochDue := some (due + ms p.shelf.epochMs) } ∧
      s'.alloc = { s.alloc with
        epoch := s.alloc.epoch + 1
        flight := some
          { epoch := s.alloc.epoch + 1
            profile := p
            cap := cap
            derated := flag
            usable := Row8.ofFn fun n =>
              if (s.sensors.get n).state = .valid ∨ (s.sensors.get n).state = .stale then (s.sensors.get n).held else none
            presence := s.presence
            demand := s.alloc.demand
            pin := s.alloc.pin
            rotation := s.alloc.rotation
            clamped := decide (∃ n, (s.lines.get n).mode = .profile ∧
              ∃ x, (s.lines.get n).staged = some x ∧ s.cycle.derate = true ∧ x.derateMark = false)
            bursts := r.copy
            admitted := r.admitted.length } } ∧
      (∀ n, let l := s.lines.get n
        (l.mode = .default → s'.lines.get n = l) ∧
        (l.mode = .profile →
          let live := match l.staged with
            | none => l.live
            | some x => if s.cycle.derate = true ∧ x.derateMark = false then min x.count (p.bays.get n).countDerate
              else x.count
          s'.lines.get n = { l with
            live := live
            staged := none
            hold := match l.hold with
              | .held => .reassessing
              | .releasing => .free
              | h => h
            slotIndex := 0
            slotStart := due
            asserted := !openSlot live l.len (l.phi % l.len) })) ∧
      (∀ k, (s'.alert k).mask = (s.alert k).mask ∧ (s'.alert k).groups = (s.alert k).groups) ∧
      (∀ i c, (s'.alert (.bay i)).pendingCauses.get c =
        raisedWith ((s.alert (.bay i)).pendingCauses.get c)
          (if c = 3 then selectorsOf p.bindings i r.ended
            else if c = 4 then selectorsOf p.bindings i r.expired
            else if c = 6 then selectorsOf p.bindings i r.admitted
            else 0) 0) ∧
      (∀ c, c ≠ 6 → (s'.alert .shelf).pendingCauses.get c =
        raisedEmpty ((s.alert .shelf).pendingCauses.get c) (c == 1 && s.cycle.derate && !s.cycle.debounced)) ∧
      (s'.alert .shelf).pendingCauses.get 6 =
        match r.outcome with
        | .blockedByPool pool => raisedWith ((s.alert .shelf).pendingCauses.get 6) (1#8 <<< pool.val) 0
        | _ => (s.alert .shelf).pendingCauses.get 6

/-- A boundary that installs a pending profile (R32, R34, R40, R45, R46, R81, R120, R143, R144, R181). That slot 0 and the
epoch timer run from the due instant, and the sensor timers are measured at the clock, when the command comes later is the
model's choice, log 20. -/
def Obligations.BoundaryInstallsThePendingProfile : Prop :=
  ∀ (t due : Nat) (q : Profile) (s : State), s.inReset = false → s.alloc.engine = .running →
    s.store.waiting = some q → s.alloc.flight = none → s.cycle.epochDue = some due → due ≤ max s.now t →
    let flag := s.cycle.derate && s.cycle.debounced
    let aged (r : SensorRec) : SensorRec := r.agedUnder q.shelf.staleMs q.shelf.lostMs (max s.now t)
    let moved : List Bay :=
      numbers8.filter fun n => (aged (s.sensors.get n)).state.code != (s.sensors.get n).state.code
    let held : List Bay :=
      numbers8.filter fun n => s.burst.queue.any (fun e => e.bay == n) || (s.burst.active.get n).isSome
    let limited (v : Row8 (Option Nat)) : Row8 (Option Nat) := Row8.ofFn fun n =>
      if (q.bays.get n).occupied = true then (v.get n).map fun x => min x (q.bays.get n).peak else none
    ∃ s', exec (.boundary t) s = .next s' ∧ s'.now = max s.now t ∧ s'.inReset = false ∧
      s'.shelfResetArmed = s.shelfResetArmed ∧ s'.capture = s.capture ∧ s'.ports = s.ports ∧
      s'.store = { s.store with installed := some q, waiting := none } ∧
      s'.params = ⟨q.shelf.staleMs, q.shelf.lostMs, q.shelf.stepLimit⟩ ∧
      s'.cycle = { s.cycle with derate := flag, epochDue := some (due + ms q.shelf.epochMs) } ∧
      s'.burst =
        { queue := []
          active := Row8.const none
          pools := Row4.ofFn fun i => { s.burst.pools.get i with
            reserve := (q.pools.get i).reserve
            remaining := (q.pools.get i).reserve } } ∧
      s'.sensors = Row8.ofFn (fun n => aged (s.sensors.get n)) ∧
      s'.alloc = { s.alloc with
        epoch := s.alloc.epoch + 1
        demand := limited s.alloc.demand
        pin := limited s.alloc.pin
        flight := some
          { epoch := s.alloc.epoch + 1
            profile := q
            cap := if flag = true then q.shelf.capDerated else q.shelf.capNormal
            derated := flag
            usable := Row8.ofFn fun n =>
              let r := aged (s.sensors.get n)
              if r.state = .valid ∨ r.state = .stale then r.held else none
            presence := flags8 fun n => decide ((aged (s.sensors.get n)).state = .valid)
            demand := limited s.alloc.demand
            pin := limited s.alloc.pin
            rotation := s.alloc.rotation
            clamped := decide (∃ n, (s.lines.get n).mode = .profile ∧
              ∃ x, (s.lines.get n).staged = some x ∧ s.cycle.derate = true ∧ x.derateMark = false)
            bursts := Row8.const none
            admitted := 0 } } ∧
      (∀ n, let l := s.lines.get n
        let b := q.bays.get n
        let old := s.bayBlock n
        let kept := match l.mode, l.staged with
          | .profile, some x =>
            if s.cycle.derate = true ∧ x.derateMark = false then min x.count old.countDerate else x.count
          | _, _ => l.live
        let hold := if l.mode = .profile ∧ l.hold = .releasing then .free else l.hold
        let live := if hold ≠ .free then b.countMin
          else if old.occupied = true ∧ old.len = b.len ∧ old.countMin = b.countMin ∧ old.countDerate = b.countDerate ∧
              old.countFallback = b.countFallback ∧ old.phi = b.phi then kept
          else if s.cycle.derate = true then min b.countFallback b.countDerate
          else b.countFallback
        (b.occupied = true →
          s'.lines.get n =
            { mode := .profile, len := b.len, live := live, phi := b.phi, slotIndex := 0
              slotTimeUs := q.shelf.slotTimeUs, staged := none
              hold := if hold = .held then .reassessing else hold
              slotStart := due, asserted := !openSlot live b.len (b.phi % b.len) }) ∧
        (b.occupied = false → l.mode = .profile →
          s'.lines.get n =
            { mode := .default, len := 16, live := 8, phi := 0, slotIndex := 0, slotTimeUs := 100, staged := none
              hold := .free, slotStart := due, asserted := true }) ∧
        (b.occupied = false → l.mode = .default → s'.lines.get n = l)) ∧
      (∀ k, (s'.alert k).mask = (s.alert k).mask ∧ (s'.alert k).groups = (s.alert k).groups) ∧
      (∀ i c, (s'.alert (.bay i)).pendingCauses.get c =
        if c = 5 then raisedWith ((s.alert (.bay i)).pendingCauses.get c) (selectorsOf s.bindings i held) 2
        else if c = 2 then raisedWith ((s.alert (.bay i)).pendingCauses.get c) (selectorsOf q.bindings i moved) 0
        else (s.alert (.bay i)).pendingCauses.get c) ∧
      ∀ c, (s'.alert .shelf).pendingCauses.get c =
        if c = 3 then raisedWith ((s.alert .shelf).pendingCauses.get c) (flags8 fun n => moved.contains n) 0
        else raisedEmpty ((s.alert .shelf).pendingCauses.get c)
          (c == 7 || c == 1 && s.cycle.derate && !s.cycle.debounced)

/-- Completion of the operation in flight (R51 to R54, R134, R141, R172). -/
def Obligations.CompletionPublishesTheAllocation : Prop :=
  ∀ (t : Nat) (x : Snapshot) (s : State), s.inReset = false → s.alloc.flight = some x →
    let thermal : List Bay := numbers8.filter fun n =>
      (x.profile.bays.get n).occupied && x.deficit n &&
        match s.alloc.records.get n with
        | some old => !old.flags.deficit
        | none => true
    let moved : List Bay := numbers8.filter fun n =>
      (x.profile.bays.get n).occupied &&
        match s.alloc.records.get n with
        | some old => decide (x.profile.shelf.alertThreshold + old.grant ≤ x.grant n ∨
            x.profile.shelf.alertThreshold + x.grant n ≤ old.grant)
        | none => false
    ∃ s', exec (.completion t) s = .next s' ∧ s'.now = max s.now t ∧ s'.inReset = false ∧
      s'.shelfResetArmed = s.shelfResetArmed ∧ s'.capture = s.capture ∧ s'.sensors = s.sensors ∧
      s'.params = s.params ∧ s'.cycle = s.cycle ∧ s'.burst = s.burst ∧ s'.ports = s.ports ∧ s'.store = s.store ∧
      s'.alloc = { s.alloc with
        rotation := s.alloc.rotation + 1
        records := Row8.ofFn fun n =>
          if (x.profile.bays.get n).occupied = true then
            some (⟨x.grant n, x.ceiling n, countOf (x.profile.bays.get n) (x.grant n), x.burstAmount n, x.flags n⟩ : EpochRecord)
          else none
        ring := (s.alloc.ring ++
          [(⟨x.epoch, x.cap, x.grants, x.admitted, x.presence, x.short, x.derated, x.clamped⟩ : Summary)]).drop
            (s.alloc.ring.length + 1 - 8)
        stickyShort := s.alloc.stickyShort || x.short
        flight := none } ∧
      (∀ n, let l := s.lines.get n
        let b := x.profile.bays.get n
        s'.lines.get n =
          if b.occupied = true ∧ l.mode = .profile then
            { l with
              staged := some ⟨if l.hold = .held then b.countMin else countOf b (x.grant n), x.derated⟩
              hold := if l.hold = .reassessing then .releasing else l.hold }
          else l) ∧
      (∀ k, (s'.alert k).mask = (s.alert k).mask ∧ (s'.alert k).groups = (s.alert k).groups) ∧
      (∀ i c, (s'.alert (.bay i)).pendingCauses.get c =
        raisedWith ((s.alert (.bay i)).pendingCauses.get c)
          (if c = 1 then selectorsOf x.profile.bindings i thermal
            else if c = 7 then selectorsOf x.profile.bindings i moved
            else 0) 0) ∧
      ∀ c, (s'.alert .shelf).pendingCauses.get c =
        raisedEmpty ((s.alert .shelf).pendingCauses.get c) (c == 2 && x.short)

/-- The next slot of a line (R126 to R129); a command that comes too early is the model's choice, log 2. -/
def Obligations.SlotExpiryPlaysTheNextSlot : Prop :=
  ∀ (t : Nat) (n : Bay) (s : State), s.inReset = false →
    let l := s.lines.get n
    let next := (l.slotIndex + 1) % l.len
    (l.slotStart + us l.slotTimeUs ≤ max s.now t → exec (.slotExpiry t n) s =
      .next ((s.advance t).setLine n
        { l with
          slotIndex := next
          slotStart := l.slotStart + us l.slotTimeUs
          asserted := !openSlot l.live l.len ((next + l.phi) % l.len) })) ∧
    (max s.now t < l.slotStart + us l.slotTimeUs → exec (.slotExpiry t n) s = .next (s.advance t))

/-- The receiver's sampling and the receive decoder's table (R148 to R152), and the rows that name its characters. That
CHARACTER_TAKEN carries the line's trace is the model's choice, log 8; that a change at the very instant of a sample comes after it
is log 5. -/
def Obligations.CharactersMoveTheReceiveDecoder : Prop :=
  ∀ (x y : Nat) (k : LinkId) (rest : List Nat) (b : Byte) (s : State), s.inReset = false → (s.port k).lineIdle x →
    ((s.port k).rx = .hunt ∨ x < (s.port k).lastCharEnd + us 201) →
    (x :: rest).Pairwise (· < ·) → (∀ e ∈ rest, e ≤ y) → x ≤ y → y < x + us 10 →
    let t := x + us 10
    let level (offset : Nat) : Bool := decide ((rest.filter fun e => decide (e < x + offset)).length % 2 = 1)
    (∀ i, i < 8 → b.getLsbD i = level (us (i + 1) + 500)) → level (us 9 + 500) = true →
    let p := s.port k
    let moved (p' : Port) : State := (s.advance t).setPort k
      { p' with
        lastCharEnd := t
        seenTo := t
        lowSince := if rest.length % 2 = 1 then none else rest.getLast? }
    let error (rx : RxState) (c : LinkCounters) : Host.Outcome State Fault Refusal :=
      .next ((moved { p with rx := rx, counters := c }).raiseShelf .linkError (linkErrorBits k))
    let taken := exec (.characterTaken t k (x :: rest)) s
    let begun : State := (s.advance y).setPort k
      { p with
        seenTo := y
        lowSince := if rest.length % 2 = 1 then none else (x :: rest).getLast?
        char := some ⟨x, rest.map fun e => e - x⟩ }
    exec (.characterTaken y k (x :: rest)) s = .next begun ∧
    (p.rx = .hunt →
      (b = 0xC3 → p.inbox.length < 2 → taken = .next (moved { p with rx := .length })) ∧
      (b = 0xC3 → 2 ≤ p.inbox.length →
        taken = error .discard { p.counters with overrun := satInc8 p.counters.overrun } ∧
        exec (.overrun t k) begun = taken) ∧
      (b ≠ 0xC3 → taken = error .hunt { p.counters with noise := satInc8 p.counters.noise } ∧
        exec (.noise t k b) begun = taken)) ∧
    (p.rx = .length →
      (2 ≤ b.toNat → b.toNat ≤ 72 → taken = .next (moved { p with rx := .body b.toNat [] })) ∧
      (b.toNat < 2 ∨ 72 < b.toNat → taken = error .hunt { p.counters with length := satInc8 p.counters.length } ∧
        exec (.lengthError t k b) begun = taken)) ∧
    (∀ n got, p.rx = .body n got →
      (got.length + 1 < n → taken = .next (moved { p with rx := .body n (got ++ [b]) })) ∧
      (n ≤ got.length + 1 → taken = .next (moved { p with rx := .check (got ++ [b]) none }))) ∧
    (∀ got, p.rx = .check got none → taken = .next (moved { p with rx := .check got (some b) })) ∧
    (∀ kind tag params high, p.rx = .check (kind :: tag :: params) (some high) →
      let crc := crc16 (byte1 (params.length + 2) :: kind :: tag :: params)
      exec (.requestFrame t k b) begun = taken ∧
      (crc ≠ high ++ b → taken = error .hunt { p.counters with crc := satInc8 p.counters.crc }) ∧
      (crc = high ++ b →
        let q := moved { p with rx := .hunt, inbox := p.inbox ++ [⟨kind, tag, params⟩] }
        let a := answer q k ⟨kind, tag, params⟩
        (p.inbox ≠ [] → taken = .next q) ∧
        (p.inbox = [] → taken =
          .next (a.state.sending k ⟨kind, tag, a.status.code, a.data⟩)))) ∧
    (p.rx = .discard → taken = .next (moved p))

/-- FRAMING, GAP and the end of DISCARD (R148, R150, R151); a command that comes too early is the model's choice, log 2, and so is
a line's own clock, log 1; what is due before a change is log 5. -/
def Obligations.FramingErrorsAndGapsEndFrames : Prop :=
  ∀ (k : LinkId) (s : State), s.inReset = false →
    let p := s.port k
    (∀ (x y : Nat) (rest : List Nat), p.lineIdle x → (p.rx = .hunt ∨ x < p.lastCharEnd + us 201) →
      (x :: rest).Pairwise (· < ·) → (∀ e ∈ rest, e ≤ y) → x ≤ y → y < x + us 10 →
      (rest.filter fun e => decide (e < x + us 9 + 500)).length % 2 = 0 →
      let begun : State := (s.advance y).setPort k
        { p with
          seenTo := y
          lowSince := if rest.length % 2 = 1 then none else (x :: rest).getLast?
          char := some ⟨x, rest.map fun e => e - x⟩ }
      exec (.characterTaken y k (x :: rest)) s = .next begun ∧
        exec (.framing (x + us 10) k) begun = exec (.characterTaken (x + us 10) k (x :: rest)) s ∧
        exec (.characterTaken (x + us 10) k (x :: rest)) s =
          .next (((s.advance (x + us 10)).setPort k
            { p with
              lastCharEnd := x + us 10
              seenTo := x + us 10
              lowSince := if rest.length % 2 = 1 then none else (x :: rest).getLast?
              rx := if p.rx = .discard then .discard else .hunt
              counters := { p.counters with framing := satInc8 p.counters.framing } }).raiseShelf .linkError
                (linkErrorBits k))) ∧
    (∀ t : Nat,
      let u := max p.seenTo t
      let due := p.lastCharEnd + us 201 ≤ u
      p.char = none → (p.inBreak = true ∨ ∀ a, p.lowSince = some a → u < a + ms 2) →
      (p.rx ≠ .hunt → p.rx ≠ .discard → due → exec (.linkGap t k) s =
        .next (((s.advance t).setPort k
          { p with
            rx := .hunt
            seenTo := u
            counters := { p.counters with gap := satInc8 p.counters.gap } }).raiseShelf .linkError
              (linkErrorBits k))) ∧
      (p.rx = .discard → due → exec (.discardEnd t k) s =
        .next ((s.advance t).setPort k { p with rx := .hunt, seenTo := u })) ∧
      (p.rx = .hunt ∨ ¬due → exec (.linkGap t k) s = .next ((s.advance t).setPort k { p with seenTo := u }) ∧
        exec (.discardEnd t k) s = .next ((s.advance t).setPort k { p with seenTo := u }))) ∧
    ∀ (x t : Nat) (rest : List Nat) (s1 : State), p.char = none → x ≤ t → exec (.linkGap x k) s = .next s1 →
      exec (.characterTaken t k (x :: rest)) s = exec (.characterTaken t k (x :: rest)) s1

/-- Breaks and the end of their episode (R101, R119, R150, R157, R158, R171, R176). That the episode's end takes a decoder from
DISCARD to HUNT is the model's reading, log 10; that one command takes a break and the cut-off after it, with SHELF RESET's
reset, is the model's choice, log 11; a command that comes too early is log 2, and a line's own clock log 1. -/
def Obligations.BreaksResetALink : Prop :=
  ∀ (t a : Nat) (s : State), s.inReset = false →
    let u (p : Port) : Nat := max p.seenTo t
    let gap (p : Port) : Prop := p.lastCharEnd + us 201 ≤ u p
    let inFrame (p : Port) : Prop := p.rx ≠ .hunt ∧ p.rx ≠ .discard
    let low (p : Port) : Prop := p.lowSince = some a ∧ p.char = none
    let struck (p : Port) : Port :=
      { p with
        rx := if inFrame p ∧ ¬gap p then .discard else .hunt
        inBreak := true
        seenTo := u p
        inbox := []
        reply := none
        tx := cutOff p.tx (a + ms 2)
        counters := { p.counters with
          gap := if inFrame p ∧ gap p then satInc8 p.counters.gap else p.counters.gap
          brk := satInc8 p.counters.brk } }
    let breaks (p : Port) : Prop := low p ∧ p.inBreak = false ∧ a + ms 2 ≤ u p
    (∀ i, breaks (s.port (.bay i)) →
      ∃ s', exec (.lineBreak t (.bay i)) s = .next s' ∧ bayLinkWasReset i s s' ∧
        s'.port (.bay i) = struck (s.port (.bay i)) ∧ (∀ k, k ≠ .bay i → s'.port k = s.port k) ∧
        s'.alert .shelf = (s.raiseShelf .linkError (flagBit i)).alert .shelf ∧
        (∀ j, j ≠ i → s'.alert (.bay j) = s.alert (.bay j)) ∧
        s'.now = max s.now (max (a + ms 2) t) ∧ s'.inReset = false ∧ s'.shelfResetArmed = s.shelfResetArmed ∧
        s'.capture = s.capture ∧ s'.sensors = s.sensors ∧ s'.params = s.params ∧ s'.cycle = s.cycle ∧
        s'.lines = s.lines ∧ s'.store = s.store) ∧
    (breaks (s.port .shelf) → s.shelfResetArmed = false → exec (.lineBreak t .shelf) s =
      .next (((s.advance (max (a + ms 2) t)).setPort .shelf (struck (s.port .shelf))).raiseShelf .linkError 0)) ∧
    (breaks (s.port .shelf) → s.shelfResetArmed = true →
      let cut := max s.now (max (a + ms 2) (sentBy (cutOff (s.port .shelf).tx (a + ms 2))))
      ∃ s1 : State, s1.hasResetValues s cut ∧ s1.now = cut ∧ s1.inReset = false ∧
        let held := s1.setPort .shelf { s1.port .shelf with seenTo := max cut (u (s.port .shelf)) }
        exec (.lineBreak t .shelf) s = exec (.lineBreak t .shelf) held ∧
        (max cut (u (s.port .shelf)) < cut + ms 2 → exec (.lineBreak t .shelf) s = .next (held.advance t))) ∧
    ∀ k, low (s.port k) → ¬(inFrame (s.port k) ∧ gap (s.port k)) →
      ((s.port k).rx = .hunt ∨ ¬gap (s.port k) →
        (s.port k).inBreak = true ∨ u (s.port k) < a + ms 2 →
        exec (.lineBreak t k) s = .next ((s.advance t).setPort k { s.port k with seenTo := u (s.port k) })) ∧
      ((s.port k).inBreak = true → exec (.breakEpisodeEnd t k) s =
        .next ((s.advance t).setPort k
          { s.port k with inBreak := false, rx := .hunt, lowSince := none, seenTo := u (s.port k) }))

/-- The end of a reply (R148, R152, R153, R171). The free delay is log 9's; a REPLY_END that comes late is log 5's, and one
without a reply that has ended log 2's: the model's choices. -/
def Obligations.ReplyEndServesTheNextRequest : Prop :=
  ∀ (t : Nat) (k : LinkId) (s : State), s.inReset = false →
    let p := s.port k
    let e := sentBy p.tx
    (e ≤ max s.now t →
      (∀ rep r, p.reply = some rep → k ≠ .shelf ∨ s.shelfResetArmed = false →
        (p.inbox = [r] → exec (.replyEnd t k) s =
          .next ((s.advance t).setPort k { p with inbox := [], reply := none })) ∧
        ∀ r2 rest, p.inbox = r :: r2 :: rest →
          let q := (s.advance e).setPort k { p with inbox := r2 :: rest, reply := none }
          let a := answer q k r2
          let s' := a.state.sending k ⟨r2.kind, r2.tag, a.status.code, a.data⟩
          exec (.replyEnd t k) s = .next (s'.advance t) ∧ max s.now e ≤ (s'.port k).tx.start ∧
            (s'.port k).tx.start ≤ max s.now e + us 50) ∧
      (∀ rep, p.reply = some rep → k = .shelf → s.shelfResetArmed = true →
        ∃ s', exec (.replyEnd t k) s = .next s' ∧ s'.hasResetValues s (max s.now e) ∧ s'.now = max s.now t ∧
          s'.inReset = false)) ∧
    (p.reply = none ∨ max s.now t < e → exec (.replyEnd t k) s = .next (s.advance t))

/-- The five checks of R161 on the Request Handler's function, by the kind table of Chapter 8. -/
def Obligations.RequestHandlerChecksInOrder : Prop :=
  ∀ (s : State) (k : LinkId) (r : Request),
    let known := r.kind = 0x40 ∨ ∃ n, (r.kind, n) ∈ kindTable
    let shelfOnly := 0x20 ≤ r.kind.toNat
    let onBay := r.kind = 0x10 ∨ r.kind = 0x11 ∨ r.kind = 0x12 ∨ r.kind = 0x13
    let unbound := ∃ i, k = .bay i ∧ s.bindings.get i = []
    let refused (status : Status) : Prop := answer s k r = ⟨s, status, []⟩
    (¬known → refused .kind) ∧
    (known → shelfOnly → k ≠ .shelf → refused .access) ∧
    (known → ¬shelfOnly → unbound → onBay ∨ r.kind = 0x16 → refused .notBound) ∧
    ((k = .shelf ∨ ¬shelfOnly ∧ (¬unbound ∨ r.kind = 0x14 ∨ r.kind = 0x15)) →
      (∀ n, (r.kind, n) ∈ kindTable → r.params.length ≠ n → refused .param) ∧
      (r.kind = 0x40 → (r.params = [] ∨ ∃ block body, r.params = block :: body ∧
        blockSize block.toNat ≠ some body.length) → refused .param)) ∧
    (∀ i n sel rest, k = .bay i → onBay → s.bindings.get i ≠ [] → (r.kind, n) ∈ kindTable → r.params.length = n →
      r.params = sel :: rest →
      (sel ≠ 0 → (sel ≠ 1 ∨ (s.bindings.get i).length < 2) → refused .access) ∧
      ∀ bay : Bay, s.reaches k sel bay → answer s k r = answer s .shelf ⟨r.kind, r.tag, byte1 bay.val :: rest⟩) ∧
    (r.kind = 0x14 → r.params = [] → (answer s k r).status = .ok) ∧
    (∀ mask, r.kind = 0x15 → r.params = [mask] → (answer s k r).status = .ok)

/-- What every request row does on a hunting link (R149 to R153, R161); one row for a whole frame is the model's choice,
log 4. -/
def Obligations.RequestCommandsReachTheHandler : Prop :=
  ∀ (c : Instr) (t : Nat) (k : LinkId) (r : Request) (s : State), c.wellFormed = true →
    c.request = some (t, k, r) → s.inReset = false → (s.port k).rx = .hunt → us (10 * (r.params.length + 6)) ≤ t →
    (s.port k).lineIdle (t - us (10 * (r.params.length + 6))) →
    let p := s.port k
    (p.inbox = [] →
      let q := (s.advance t).setPort k { p with lastCharEnd := t, seenTo := t, inbox := [r] }
      let a := answer q k r
      exec c s = .next (a.state.sending k ⟨r.kind, r.tag, a.status.code, a.data⟩)) ∧
    (∀ first, p.inbox = [first] → exec c s =
      .next ((s.advance t).setPort k { p with lastCharEnd := t, seenTo := t, inbox := [first, r] })) ∧
    (2 ≤ p.inbox.length → exec c s =
      .next (((s.advance t).setPort k
        { p with
          lastCharEnd := t
          seenTo := t
          rx := .discard
          counters := { p.counters with overrun := satInc8 p.counters.overrun } }).raiseShelf .linkError
            (linkErrorBits k))) ∧
    ∀ i, k = .bay i → p.inbox = [] → 0x20 ≤ r.kind.toNat → exec c s = .next (s.replied t k r .access [])

/-- A frame spelt bit by bit on the line is received as the request it spells (R148, R149, R152, R153); that CHARACTER_TAKEN
carries the line's changes is the model's choice, log 8. -/
def Obligations.RequestFramesArriveCharacterByCharacter : Prop :=
  ∀ (s : State) (k : LinkId) (r : Request) (f : Nat → Nat), s.inReset = false → r.params.length ≤ 70 →
    (s.port k).rx = .hunt → (s.port k).lineIdle (f 0) → (s.port k).inbox.length < 2 →
    (∀ i, f i + us 10 ≤ f (i + 1) ∧ f (i + 1) < f i + us 211) →
    let content := byte1 (r.params.length + 2) :: r.kind :: r.tag :: r.params
    let crc := crc16 content
    let frame : List Byte := 0xC3 :: (content ++ [crc.extractLsb' 8 8, crc.extractLsb' 0 8])
    let level (b : Byte) (j : Nat) : Bool := if j = 0 then false else if j = 9 then true else b.getLsbD (j - 1)
    let before (b : Byte) (j : Nat) : Bool := if j = 0 then true else level b (j - 1)
    let changes (b : Byte) (x : Nat) : List Nat :=
      ((List.range 10).filter fun j => level b j != before b j).map fun j => x + us j
    let t := f (r.params.length + 5) + us 10
    let p := s.port k
    let q := ({ s with pending := [] }.advance t).setPort k
      { p with lastCharEnd := t, seenTo := t, inbox := p.inbox ++ [r] }
    let a := answer q k r
    Host.Core.run Sys2Proof.core (r.params.length + 6)
        { s with pending := frame.mapIdx fun i b => Instr.characterTaken (f i + us 10) k (changes b (f i)) } =
      .next (if p.inbox = [] then
        a.state.sending k ⟨r.kind, r.tag, a.status.code, a.data⟩
      else q)

/-- GET BAY (R35, R79, R122, R146, R154, R162, R164, R165); that bit 7 of the present marks is 0 is the model's choice,
log 23. -/
def Obligations.GetBayReportsTheBay : Prop :=
  ∀ (t : Nat) (k : LinkId) (tag sel : Byte) (s : State), s.linkIdle k 1 t →
    (k = .shelf → 7 < sel.toNat →
      exec (.getBay t k tag sel) s = .next (s.replied t k ⟨0x10, tag, [sel]⟩ .param [])) ∧
    ∀ n, s.reaches k sel n → ∃ data, exec (.getBay t k tag sel) s = .next (s.replied t k ⟨0x10, tag, [sel]⟩ .ok data) ∧
      let r := s.sensors.get n
      let b := s.bayBlock n
      let l := s.lines.get n
      let mark (i : Nat) : Prop := (field1 data 1).getLsbD i = true
      data.length = 35 ∧ (field1 data 0).toNat = n.val ∧
      (mark 0 ↔ b.occupied = true) ∧ (mark 1 ↔ s.alloc.demand.get n ≠ none) ∧ (mark 2 ↔ s.alloc.pin.get n ≠ none) ∧
      (mark 3 ↔ l.staged ≠ none) ∧ (mark 4 ↔ s.queued n) ∧ (mark 5 ↔ s.burst.active.get n ≠ none) ∧
      (mark 6 ↔ s.alloc.records.get n ≠ none) ∧ ¬mark 7 ∧
      field1 data 2 =
        (match r.state with
          | .absent => 0
          | .acquiring _ => 1
          | .valid => 2
          | .stale => 3
          | .lost => 4) ∧
      (r.held = none → field2 data 3 = 0 ∧ field2 data 5 = 0) ∧
      (∀ x, r.held = some x → field2 data 3 = x.temp % 65536 ∧ field2 data 5 = x.power % 65536) ∧
      (r.acceptedAt = none → field2 data 7 = 65535) ∧
      (∀ a, r.acceptedAt = some a → field2 data 7 = min 65535 ((max s.now t - a) / ms 1)) ∧
      (∀ v, s.alloc.demand.get n = some v → field2 data 9 = v % 65536) ∧
      (s.alloc.demand.get n = none → field2 data 9 = if b.occupied = true then b.floor % 65536 else 0) ∧
      field2 data 11 = (s.alloc.pin.get n).getD 0 % 65536 ∧
      (s.alloc.records.get n = none →
        field2 data 13 = 0 ∧ field2 data 15 = 0 ∧ field1 data 17 = 0 ∧ field2 data 18 = 0 ∧ field1 data 20 = 0) ∧
      (∀ x, s.alloc.records.get n = some x →
        field2 data 13 = x.grant % 65536 ∧ field2 data 15 = x.ceiling % 65536 ∧ field1 data 17 = byte1 x.count ∧
        field2 data 18 = x.burst % 65536 ∧
        let flag (i : Nat) : Bool := (field1 data 20).getLsbD i
        flag 7 = x.flags.thermal ∧ flag 6 = x.flags.deficit ∧ flag 5 = x.flags.subst ∧ flag 4 = x.flags.pinned ∧
        flag 3 = x.flags.short ∧ flag 2 = x.flags.pool ∧ flag 1 = x.flags.shelf ∧ flag 0 = x.flags.burst) ∧
      field1 data 21 = byte1 l.live ∧
      (¬s.queued n → field1 data 22 = 0 ∧ field2 data 23 = 0 ∧ field1 data 25 = 0 ∧ field2 data 26 = 0) ∧
      (∀ i e, s.burst.queue[i]? = some e → e.bay = n → (∀ j e', j < i → s.burst.queue[j]? = some e' → e'.bay ≠ n) →
        field1 data 22 = byte1 (i + 1) ∧ field2 data 23 = e.amount % 65536 ∧ field1 data 25 = e.tag ∧
        field2 data 26 = e.roundsLeft % 65536) ∧
      (s.burst.active.get n = none → field2 data 28 = 0 ∧ field2 data 30 = 0 ∧ field1 data 32 = 0) ∧
      (∀ x, s.burst.active.get n = some x →
        field2 data 28 = x.amount % 65536 ∧ field2 data 30 = x.remaining % 65536 ∧ field1 data 32 = x.tag) ∧
      field2 data 33 = r.maxTemp % 65536

/-- SET DEMAND (R162, R166). -/
def Obligations.SetDemandStoresTheDemand : Prop :=
  ∀ (t : Nat) (k : LinkId) (tag sel : Byte) (v : BitVec 16) (s : State), s.linkIdle k 3 t →
    let r : Request := ⟨0x11, tag, sel :: bytes2 v.toNat⟩
    (k = .shelf → 7 < sel.toNat → exec (.setDemand t k tag sel v) s = .next (s.replied t k r .param [])) ∧
    ∀ n, s.reaches k sel n →
    let stored (x : Nat) : State := s.setAlloc { s.alloc with demand := s.alloc.demand.set n (some x) }
    ((s.bayBlock n).occupied = true → v.toNat ≤ (s.bayBlock n).peak → exec (.setDemand t k tag sel v) s =
      .next ((stored v.toNat).replied t k r .ok (byte1 n.val :: bytes2 v.toNat))) ∧
    ((s.bayBlock n).occupied = true → (s.bayBlock n).peak < v.toNat → exec (.setDemand t k tag sel v) s =
      .next ((stored (s.bayBlock n).peak).replied t k r .okClamped (byte1 n.val :: bytes2 (s.bayBlock n).peak))) ∧
    ((s.bayBlock n).occupied = false → exec (.setDemand t k tag sel v) s = .next (s.replied t k r .param []))

/-- ASK BURST (R106, R107). -/
def Obligations.AskBurstChecksThenJoinsTheTail : Prop :=
  ∀ (t : Nat) (k : LinkId) (tag sel : Byte) (amount duration : BitVec 16) (wait burstTag : Byte) (s : State),
    s.linkIdle k 7 t →
    let r : Request := ⟨0x12, tag, sel :: (bytes2 amount.toNat ++ bytes2 duration.toNat ++ [wait, burstTag])⟩
    let asked := exec (.askBurst t k tag sel amount duration wait burstTag) s
    let refused (status : Status) : Prop := asked = .next (s.replied t k r status [])
    (k = .shelf → 7 < sel.toNat → refused .param) ∧
    ∀ n, s.reaches k sel n →
      let b := s.bayBlock n
      let bad := b.occupied = false ∨ amount.toNat = 0 ∨ 511 < amount.toNat ∨ duration.toNat = 0 ∨
        4095 < duration.toNat ∨ (s.burst.pools.get b.pool).reserve < amount.toNat
      (s.alloc.engine = .stopped → refused .state) ∧
      (s.alloc.engine = .running → bad → refused .param) ∧
      (s.alloc.engine = .running → ¬bad → s.alloc.pin.get n ≠ none → refused .pinned) ∧
      (s.alloc.engine = .running → ¬bad → s.alloc.pin.get n = none → s.queued n → refused .busy) ∧
      (s.alloc.engine = .running → ¬bad → s.alloc.pin.get n = none → ¬s.queued n →
        asked = .next ((s.setBurst { s.burst with
          queue := s.burst.queue ++ [⟨n, b.pool, amount.toNat, duration.toNat, wait.toNat + 1, burstTag⟩] }).replied
            t k r .ok [byte1 (s.burst.queue.length + 1)]))

/-- DROP BURST (R109, R110, R162). -/
def Obligations.DropBurstRemovesWhatIsChosen : Prop :=
  ∀ (t : Nat) (k : LinkId) (tag sel choice : Byte) (s : State), s.linkIdle k 2 t →
    let r : Request := ⟨0x13, tag, [sel, choice]⟩
    let dropped := exec (.dropBurst t k tag sel choice) s
    (k = .shelf → 7 < sel.toNat → dropped = .next (s.replied t k r .param [])) ∧
    ∀ n, s.reaches k sel n →
    ((s.bayBlock n).occupied = false ∨ 1 < choice.toNat → dropped = .next (s.replied t k r .param [])) ∧
    ((s.bayBlock n).occupied = true →
      (choice = 0 → s.queued n → dropped = .next ((s.setBurst
        { s.burst with queue := s.burst.queue.filter fun e => e.bay ≠ n }).replied t k r .ok [])) ∧
      (choice = 0 → ¬s.queued n → dropped = .next (s.replied t k r .none [])) ∧
      (∀ x, choice = 1 → s.burst.active.get n = some x → dropped = .next ((s.setBurst
        { s.burst with
          active := s.burst.active.set n none
          pools := s.burst.pools.set x.pool { s.burst.pools.get x.pool with
            remaining := (s.burst.pools.get x.pool).remaining + x.amount } }).replied t k r .ok [])) ∧
      (choice = 1 → s.burst.active.get n = none → dropped = .next (s.replied t k r .none [])))

/-- GET ALERT (R174); that bits 2 to 7 of the reason byte are 0 is the model's choice, log 23. -/
def Obligations.GetAlertReadsTheSelectedCause : Prop :=
  ∀ (t : Nat) (k : LinkId) (tag : Byte) (s : State), s.linkIdle k 0 t →
    let a := s.alert k
    (∀ c x, selects k a c → a.pendingCauses.get c = some x → exec (.getAlert t k tag) s =
      .next ((s.setAlert k { a with pendingCauses := a.pendingCauses.set c none }).replied t k ⟨0x14, tag, []⟩ .ok
        [byte1 c.val, x.vector, x.reasons.zeroExtend 8])) ∧
    ((∀ c, a.pendingCauses.get c = none) → exec (.getAlert t k tag) s =
      .next (s.replied t k ⟨0x14, tag, []⟩ .ok [255, 0, 0]))

/-- SET ALERT MASK and the outputs (R126, R147, R148, R152, R154, R159, R173); when a reply starts is a free value, log 9. -/
def Obligations.AlertMaskActsOnAltAlone : Prop :=
  (∀ (t : Nat) (k : LinkId) (tag mask : Byte) (s : State), s.linkIdle k 1 t →
    let stored := if k = .shelf then mask &&& 0xFE else mask
    exec (.setAlertMask t k tag mask) s =
      .next ((s.setAlert k { s.alert k with mask := stored }).replied t k ⟨0x15, tag, [mask]⟩ .ok [stored])) ∧
  (∀ x : Reply,
    let content := byte1 (x.data.length + 3) :: x.kind :: x.tag :: x.status :: x.data
    let crc := crc16 content
    x.frame = (0x3C : Byte) :: (content ++ [crc.extractLsb' 8 8, crc.extractLsb' 0 8])) ∧
  ∀ (s : State) (k : LinkId) (n : Bay) (t : Nat),
    let x := (s.port k).tx
    (s.inReset = false →
      (s.alt k = true ↔ ∃ c, (s.alert k).pendingCauses.get c ≠ none ∧ (s.alert k).mask.getLsbD c.val = false) ∧
      (s.rdy k = true ↔ (s.port k).inbox.length < 2) ∧ s.throttle n = (s.lines.get n).asserted ∧
      (t < x.start ∨ x.start + us (10 * x.bytes.length) ≤ t → s.txLevel k t = true) ∧
      ∀ i b, x.bytes[i]? = some b →
        let bit := x.start + us (10 * i)
        (bit ≤ t → t < bit + us 1 → s.txLevel k t = false) ∧
        (∀ j, j < 8 → bit + us (j + 1) ≤ t → t < bit + us (j + 2) → s.txLevel k t = b.getLsbD j) ∧
        (bit + us 9 ≤ t → t < bit + us 10 → s.txLevel k t = true)) ∧
    (s.inReset = true → s.alt k = false ∧ s.rdy k = false ∧ s.throttle n = false ∧ s.txLevel k t = true)

/-- SET ALERT GROUPS (R175). -/
def Obligations.AlertGroupsAreReplaced : Prop :=
  ∀ (t : Nat) (tag link groups : Byte) (s : State),
    let r : Request := ⟨0x35, tag, [link, groups]⟩
    (∀ i, s.linkIdle (.bay i) 2 t → exec (.setAlertGroups t (.bay i) tag link groups) s =
      .next (s.replied t (.bay i) r .access [])) ∧
    (s.linkIdle .shelf 2 t →
      (8 < link.toNat → exec (.setAlertGroups t .shelf tag link groups) s = .next (s.replied t .shelf r .param [])) ∧
      (∀ i : Fin 8, link.toNat = i.val → exec (.setAlertGroups t .shelf tag link groups) s =
        .next ((s.setAlert (.bay i) { s.alert (.bay i) with groups := groups }).replied t .shelf r .ok
          [link, groups])) ∧
      (link.toNat = 8 → exec (.setAlertGroups t .shelf tag link groups) s =
        .next ((s.setAlert .shelf { s.alert .shelf with groups := groups ||| 1 }).replied t .shelf r .ok
          [link, groups ||| 1]))) ∧
    ∀ s' k, exec (.setAlertGroups t .shelf tag link groups) s = .next s' → s.linkIdle .shelf 2 t → s'.alt k = s.alt k

/-- GET HISTORY (R55, R154); the count byte of a NONE answer is the model's reading, log 12, and that the bits
of the presence byte and the flags byte that name nothing are 0 is its choice, log 23. -/
def Obligations.GetHistoryReadsTheRing : Prop :=
  ∀ (t : Nat) (k : LinkId) (tag count : Byte) (s : State), s.linkIdle k 1 t →
    let r : Request := ⟨0x16, tag, [count]⟩
    let got := exec (.getHistory t k tag count) s
    let bound := ∀ i, k = .bay i → s.bindings.get i ≠ []
    let good := 1 ≤ count.toNat ∧ count.toNat ≤ 8
    (¬bound → got = .next (s.replied t k r .notBound [])) ∧
    (bound → ¬good → got = .next (s.replied t k r .param [])) ∧
    (bound → good → s.alloc.ring = [] → got = .next (s.replied t k r .none [0])) ∧
    (bound → good → s.alloc.ring ≠ [] →
      let m := min count.toNat s.alloc.ring.length
      ∃ data, got = .next (s.replied t k r .ok data) ∧ data.length = 1 + 11 * m ∧ field1 data 0 = byte1 m ∧
        ∀ j x, j < m → s.alloc.ring.reverse[j]? = some x →
          let a := 1 + 11 * j
          field4 data a = x.epoch.toNat ∧ field2 data (a + 4) = x.cap % 65536 ∧
          field2 data (a + 6) = x.grants % 65536 ∧ field1 data (a + 8) = byte1 x.admissions ∧
          (k = .shelf → field1 data (a + 9) = x.presence) ∧
          (∀ i first rest, k = .bay i → s.bindings.get i = first :: rest →
            ((field1 data (a + 9)).getLsbD 0 = x.presence.getLsbD first.val) ∧
            (∀ second, rest[0]? = some second →
              (field1 data (a + 9)).getLsbD 1 = x.presence.getLsbD second.val) ∧
            (rest = [] → (field1 data (a + 9)).getLsbD 1 = false) ∧
            ∀ b, 2 ≤ b → (field1 data (a + 9)).getLsbD b = false) ∧
          (field1 data (a + 10)).getLsbD 0 = x.clamped ∧ (field1 data (a + 10)).getLsbD 1 = x.derated ∧
          (field1 data (a + 10)).getLsbD 2 = x.short ∧ ∀ b, 3 ≤ b → (field1 data (a + 10)).getLsbD b = false)

/-- GET SHELF (R32, R56, R57). -/
def Obligations.GetShelfReportsAndClearsTheStickyShortFlag : Prop :=
  ∀ (t : Nat) (tag : Byte) (s : State),
    let r : Request := ⟨0x20, tag, []⟩
    let flag (b : Bool) : Byte := if b = true then 1 else 0
    (∀ i, s.linkIdle (.bay i) 0 t → exec (.getShelf t (.bay i) tag) s = .next (s.replied t (.bay i) r .access [])) ∧
    (s.linkIdle .shelf 0 t → ∃ presence : Flags8,
      (∀ n : Bay, presence.getLsbD n.val = true ↔ (s.sensors.get n).state = .valid) ∧
      ∀ caps : Nat × Nat, (s.store.installed = none → caps = (0, 0)) →
        (∀ p, s.store.installed = some p → caps = (p.shelf.capNormal, p.shelf.capDerated)) →
        exec (.getShelf t .shelf tag) s =
          .next ((s.setAlloc { s.alloc with stickyShort := false }).replied t .shelf r .ok
            ([if s.alloc.engine = .running then 1 else 0] ++ bytes4 s.alloc.epoch.toNat ++ bytes2 caps.1 ++
              bytes2 caps.2 ++ [flag s.cycle.derate, presence, flag s.store.waiting.isSome,
                byte1 s.alloc.rotation.val, flag s.alloc.stickyShort])))

/-- GET POOLS (R121, R154); that the count byte stands before the four accounts is the model's reading, log 13. -/
def Obligations.GetPoolsReportsAndClearsTheExhaustedFlags : Prop :=
  ∀ (t : Nat) (tag : Byte) (s : State),
    let r : Request := ⟨0x21, tag, []⟩
    let account (p : Pool) : List Byte :=
      let a := s.burst.pools.get p
      bytes2 a.reserve ++ bytes2 a.remaining ++ [if a.exhausted = true then 1 else 0] ++ bytes4 a.blocked.toNat
    (∀ i, s.linkIdle (.bay i) 0 t → exec (.getPools t (.bay i) tag) s = .next (s.replied t (.bay i) r .access [])) ∧
    (s.linkIdle .shelf 0 t → s.alloc.engine = .stopped → exec (.getPools t .shelf tag) s =
      .next (s.replied t .shelf r .state [])) ∧
    (s.linkIdle .shelf 0 t → s.alloc.engine = .running → exec (.getPools t .shelf tag) s =
      .next ((s.setBurst { s.burst with
        pools := Row4.ofFn fun p => { s.burst.pools.get p with exhausted := false } }).replied t .shelf r .ok
          ([4] ++ account 0 ++ account 1 ++ account 2 ++ account 3 ++
            [byte1 s.burst.queue.length,
              byte1 (sum8 fun n => if s.burst.active.get n = none then 0 else 1)])))

/-- GET CAPTURE COUNTERS and GET SENSOR (R17, R18, R36, R154); the origin's code is the model's reading, log 14. -/
def Obligations.CaptureCountersAndSensorAreReadAndCleared : Prop :=
  ∀ (t : Nat) (tag bay choice : Byte) (s : State), s.linkIdle .shelf 2 t →
    let counters := exec (.getCaptureCounters t .shelf tag bay choice) s
    let sensor := exec (.getSensor t .shelf tag bay choice) s
    (7 < bay.toNat ∨ 1 < choice.toNat →
      counters = .next (s.replied t .shelf ⟨0x22, tag, [bay, choice]⟩ .param []) ∧
      sensor = .next (s.replied t .shelf ⟨0x23, tag, [bay, choice]⟩ .param [])) ∧
    ∀ n : Bay, bay.toNat = n.val →
      let d := s.capture.get n
      let x := s.sensors.get n
      let decoder : Byte := match d.state with
        | .seek => 0
        | .idle => 1
        | .marker => 2
        | .gapA => 3
        | .temp => 4
        | .gapB => 5
        | .power => 6
        | .tail => 7
      let sensed : Byte := match x.state with
        | .absent => 0
        | .acquiring _ => 1
        | .valid => 2
        | .stale => 3
        | .lost => 4
      let read := [bay, decoder, if d.level = true then 1 else 0] ++ bytes2 d.good.toNat ++
        [d.marker, d.gap, d.width, d.tail, d.stuck]
      let run := match x.state with
        | .acquiring q =>
          [match q.origin with | .absent => 0 | .lost => 4, match q.count with | .one => 1 | .two => 2] ++
            bytes2 q.sample.temp ++ bytes2 q.sample.power
        | _ => [0, 0, 0, 0, 0, 0]
      let held := match x.held with
        | some q => [1] ++ bytes2 q.temp ++ bytes2 q.power
        | none => [0, 0, 0, 0, 0]
      let age := match x.acceptedAt with
        | some a => min 65535 ((max s.now t - a) / ms 1)
        | none => 65535
      let record := [bay, sensed] ++ run ++ held ++ bytes2 age ++ [byte1 x.implRun.val, x.implCount] ++
        bytes2 x.loss.toNat ++ bytes2 x.maxTemp ++ bytes2 s.params.stale ++ bytes2 s.params.lost ++
        bytes2 s.params.step
      (choice = 0 →
        counters = .next (s.replied t .shelf ⟨0x22, tag, [bay, choice]⟩ .ok read) ∧
        sensor = .next (s.replied t .shelf ⟨0x23, tag, [bay, choice]⟩ .ok record)) ∧
      (choice = 1 →
        counters = .next ((s.setDecoder n
          { d with marker := 0, gap := 0, width := 0, tail := 0, stuck := 0 }).replied t .shelf
            ⟨0x22, tag, [bay, choice]⟩ .ok read) ∧
        sensor = .next ((s.setSensor n { x with implCount := 0, loss := 0 }).replied t .shelf
          ⟨0x23, tag, [bay, choice]⟩ .ok record))

/-- GET LINK COUNTERS (R154 to R156). -/
def Obligations.LinkCountersAreReadAndCleared : Prop :=
  ∀ (t : Nat) (tag link choice : Byte) (s : State),
    let r : Request := ⟨0x24, tag, [link, choice]⟩
    (∀ i, s.linkIdle (.bay i) 2 t → exec (.getLinkCounters t (.bay i) tag link choice) s =
      .next (s.replied t (.bay i) r .access [])) ∧
    (s.linkIdle .shelf 2 t →
      (8 < link.toNat ∨ 1 < choice.toNat → exec (.getLinkCounters t .shelf tag link choice) s =
        .next (s.replied t .shelf r .param [])) ∧
      ∀ j, (link.toNat = 8 ∧ j = .shelf ∨ ∃ i : Fin 8, link.toNat = i.val ∧ j = .bay i) →
        let c := (s.port j).counters
        let held := if j = .shelf then 1 else (s.port j).inbox.length
        let decoder : Byte := match (s.port j).rx with
          | .hunt => 0
          | .length => 1
          | .body _ _ => 2
          | .check _ _ => 3
          | .discard => 4
        let data := [link, decoder, byte1 held, c.noise, c.gap, c.framing, c.length, c.crc, c.overrun, c.brk]
        (choice = 0 → exec (.getLinkCounters t .shelf tag link choice) s = .next (s.replied t .shelf r .ok data)) ∧
        (choice = 1 → exec (.getLinkCounters t .shelf tag link choice) s =
          .next ((s.setPort j { s.port j with counters := ⟨0, 0, 0, 0, 0, 0, 0⟩ }).replied t .shelf r .ok data)))

/-- PIN BAY and UNPIN BAY (R118, R167, R168). -/
def Obligations.PinBayPinsAndWithdraws : Prop :=
  ∀ (t : Nat) (tag bay : Byte) (v : BitVec 16) (s : State),
    let pinned := exec (.pinBay t .shelf tag bay v) s
    let unpinned := exec (.unpinBay t .shelf tag bay) s
    let r : Request := ⟨0x30, tag, bay :: bytes2 v.toNat⟩
    let u : Request := ⟨0x31, tag, [bay]⟩
    let bad := 7 < bay.toNat ∨ ∃ n : Bay, bay.toNat = n.val ∧ (s.bayBlock n).occupied = false
    (s.linkIdle .shelf 3 t →
      (bad → pinned = .next (s.replied t .shelf r .param [])) ∧
      ∀ n : Bay, bay.toNat = n.val → (s.bayBlock n).occupied = true →
        let x := min v.toNat (s.bayBlock n).peak
        let status : Status := if (s.bayBlock n).peak < v.toNat then .okClamped else .ok
        let q := s.setAlloc { s.alloc with pin := s.alloc.pin.set n (some x) }
        (¬s.queued n → s.burst.active.get n = none →
          pinned = .next (q.replied t .shelf r status (bay :: bytes2 x))) ∧
        (s.queued n ∨ s.burst.active.get n ≠ none →
          ∃ b, b.queue = s.burst.queue.filter (fun e => e.bay ≠ n) ∧
            (∀ m, b.active.get m = if m = n then none else s.burst.active.get m) ∧
            (∀ p, b.pools.get p = { s.burst.pools.get p with
              remaining := (s.burst.pools.get p).remaining + s.credit [n] p }) ∧
            pinned = .next (((q.setBurst b).raiseServing s.bindings n .burstWithdrawn 1).replied t .shelf r status
              (bay :: bytes2 x)))) ∧
    (s.linkIdle .shelf 1 t →
      (bad → unpinned = .next (s.replied t .shelf u .param [])) ∧
      ∀ n : Bay, bay.toNat = n.val → (s.bayBlock n).occupied = true →
        (s.alloc.pin.get n = none → unpinned = .next (s.replied t .shelf u .none [])) ∧
        (s.alloc.pin.get n ≠ none → unpinned =
          .next ((s.setAlloc { s.alloc with pin := s.alloc.pin.set n none }).replied t .shelf u .ok [])))

/-- SET CAP (R169). -/
def Obligations.SetCapReplacesTheCaps : Prop :=
  ∀ (t : Nat) (tag : Byte) (normal derated : BitVec 16) (s : State),
    let r : Request := ⟨0x32, tag, bytes2 normal.toNat ++ bytes2 derated.toNat⟩
    (∀ i, s.linkIdle (.bay i) 4 t → exec (.setCap t (.bay i) tag normal derated) s =
      .next (s.replied t (.bay i) r .access [])) ∧
    (s.linkIdle .shelf 4 t → s.alloc.engine = .stopped → exec (.setCap t .shelf tag normal derated) s =
      .next (s.replied t .shelf r .state [])) ∧
    ∀ p, s.linkIdle .shelf 4 t → s.alloc.engine = .running → s.store.installed = some p →
      let floors := sum8 fun n => if (p.bays.get n).occupied = true then (p.bays.get n).floor else 0
      let good := floors ≤ derated.toNat ∧ derated.toNat ≤ normal.toNat ∧ normal.toNat ≤ 8191
      (good → exec (.setCap t .shelf tag normal derated) s =
        .next ((s.setStore { s.store with
          installed := some { p with
            shelf := { p.shelf with capNormal := normal.toNat, capDerated := derated.toNat } } }).replied
              t .shelf r .ok (bytes2 normal.toNat ++ bytes2 derated.toNat))) ∧
      (¬good → exec (.setCap t .shelf tag normal derated) s = .next (s.replied t .shelf r .check [9, 0]))

/-- RELEASE BAY LINK (R101, R119, R157, R170, R176). That a decoder in DISCARD goes to HUNT, as at a break, is the model's
reading, log 10. -/
def Obligations.ReleaseBayLinkResetsTheNamedLink : Prop :=
  ∀ (t : Nat) (tag link : Byte) (s : State),
    let r : Request := ⟨0x33, tag, [link]⟩
    (∀ i, s.linkIdle (.bay i) 1 t → exec (.releaseBayLink t (.bay i) tag link) s =
      .next (s.replied t (.bay i) r .access [])) ∧
    (s.linkIdle .shelf 1 t →
      (7 < link.toNat → exec (.releaseBayLink t .shelf tag link) s = .next (s.replied t .shelf r .param [])) ∧
      ∀ i : Fin 8, link.toNat = i.val →
        ∃ s', exec (.releaseBayLink t .shelf tag link) s = .next s' ∧ bayLinkWasReset i s s' ∧
          s'.port (.bay i) = { s.port (.bay i) with
            rx := if (s.port (.bay i)).rx = .hunt ∨ (s.port (.bay i)).rx = .discard then .hunt else .discard
            inbox := []
            reply := none
            tx := cutOff (s.port (.bay i)).tx (max s.now t) } ∧
          s'.port .shelf = (s.replied t .shelf r .ok []).port .shelf ∧
          (∀ j, j ≠ i → s'.port (.bay j) = s.port (.bay j) ∧ s'.alert (.bay j) = s.alert (.bay j)) ∧
          s'.alert .shelf = s.alert .shelf ∧ s'.now = max s.now t ∧ s'.inReset = false ∧
          s'.shelfResetArmed = s.shelfResetArmed ∧ s'.capture = s.capture ∧ s'.sensors = s.sensors ∧
          s'.params = s.params ∧ s'.cycle = s.cycle ∧ s'.lines = s.lines ∧ s'.store = s.store)

/-- SHELF RESET's service (R171). -/
def Obligations.ShelfResetIsArmedByItsService : Prop :=
  ∀ (t : Nat) (tag : Byte) (s : State),
    (∀ i, s.linkIdle (.bay i) 0 t → exec (.shelfReset t (.bay i) tag) s =
      .next (s.replied t (.bay i) ⟨0x34, tag, []⟩ .access [])) ∧
    (s.linkIdle .shelf 0 t → exec (.shelfReset t .shelf tag) s =
      .next (({ s with shelfResetArmed := true }).replied t .shelf ⟨0x34, tag, []⟩ .ok []))

/-- PROFILE BLOCK over the tables of Chapter 11 (R178). -/
def Obligations.ProfileBlocksAreStagedWhole : Prop :=
  ∀ (t : Nat) (tag block : Byte) (body : List Byte) (s : State), body.length ≤ 69 →
    let r : Request := ⟨0x40, tag, block :: body⟩
    let staged (b : Block) : State := s.setStore
      { s.store with staging := s.store.staging.setBlock b, written := s.store.written ||| (1#12 <<< b.number) }
    let spells (b : Block) : Prop := b.inRanges ∧ block.toNat = b.number ∧ b.readFrom body
    (∀ i, s.linkIdle (.bay i) (body.length + 1) t → exec (.profileBlock t (.bay i) tag block body) s =
      .next (s.replied t (.bay i) r .access [])) ∧
    (s.linkIdle .shelf (body.length + 1) t →
      (∀ b, spells b →
        exec (.profileBlock t .shelf tag block body) s = .next ((staged b).replied t .shelf r .ok [block])) ∧
      ((∀ b, ¬spells b) →
        exec (.profileBlock t .shelf tag block body) s = .next (s.replied t .shelf r .param [])) ∧
      (11 < block.toNat ∨ blockSize block.toNat ≠ some body.length →
        exec (.profileBlock t .shelf tag block body) s = .next (s.replied t .shelf r .param [])))

/-- PROFILE READ and PROFILE DISCARD (R179); what the emptied staging profile holds is the model's choice, log 15. -/
def Obligations.ProfileIsReadAndDiscarded : Prop :=
  ∀ (t : Nat) (tag block : Byte) (s : State),
    let r : Request := ⟨0x42, tag, [block]⟩
    let u : Request := ⟨0x41, tag, []⟩
    let read := exec (.profileRead t .shelf tag block) s
    let discarded := exec (.profileDiscard t .shelf tag) s
    (∀ i, s.linkIdle (.bay i) 1 t → exec (.profileRead t (.bay i) tag block) s =
      .next (s.replied t (.bay i) r .access [])) ∧
    (∀ i, s.linkIdle (.bay i) 0 t → exec (.profileDiscard t (.bay i) tag) s =
      .next (s.replied t (.bay i) u .access [])) ∧
    (s.linkIdle .shelf 1 t →
      (11 < block.toNat → read = .next (s.replied t .shelf r .param [])) ∧
      (block.toNat ≤ 11 → s.store.installed = none → read = .next (s.replied t .shelf r .state [])) ∧
      ∀ p, s.store.installed = some p →
        (block = 0 → read = .next (s.replied t .shelf r .ok (block :: (Block.shelf p.shelf).bytes))) ∧
        (block = 1 → read = .next (s.replied t .shelf r .ok (block :: (Block.bindings p.bindings).bytes))) ∧
        (∀ n : Bay, block.toNat = n.val + 2 →
          read = .next (s.replied t .shelf r .ok (block :: (Block.bay n (p.bays.get n)).bytes))) ∧
        (block = 10 → read = .next (s.replied t .shelf r .ok (block :: (Block.coupling p.couplings).bytes))) ∧
        (block = 11 → read = .next (s.replied t .shelf r .ok (block :: (Block.pools p.pools).bytes)))) ∧
    (s.linkIdle .shelf 0 t →
      (∀ p, s.store.installed = some p → discarded =
        .next ((s.setStore { s.store with staging := p, written := 0xFFF }).replied t .shelf u .ok [])) ∧
      (s.store.installed = none → discarded =
        .next ((s.setStore { s.store with staging := Profile.empty, written := 0 }).replied t .shelf u .ok [])))

/-- PROFILE COMMIT's checks, and its pass while RUNNING (R45, R180, R181). -/
def Obligations.CommitChecksThenWaitsForTheBoundary : Prop :=
  ∀ (t : Nat) (tag : Byte) (s : State),
    let r : Request := ⟨0x43, tag, []⟩
    (∀ i, s.linkIdle (.bay i) 0 t → exec (.profileCommit t (.bay i) tag) s =
      .next (s.replied t (.bay i) r .access [])) ∧
    (s.linkIdle .shelf 0 t →
      (s.store.waiting ≠ none → exec (.profileCommit t .shelf tag) s = .next (s.replied t .shelf r .busy [])) ∧
      (∀ code index, s.store.waiting = none → s.store.failsAt code index →
        (∀ code' index', s.store.failsAt code' index' → code < code' ∨ code = code' ∧ index ≤ index') →
        exec (.profileCommit t .shelf tag) s =
          .next (s.replied t .shelf r .check [byte1 code, byte1 index])) ∧
      (s.store.waiting = none → (∀ code index, ¬s.store.failsAt code index) → s.alloc.engine = .running →
        exec (.profileCommit t .shelf tag) s =
          .next ((s.setStore { s.store with waiting := some s.store.staging }).replied t .shelf r .ok
            (bytes4 (s.alloc.epoch + 1).toNat))))

/-- PROFILE COMMIT while STOPPED (R32, R34, R39, R40, R43, R45, R46, R120, R143, R144, R181). That the first boundary is timed at the
clock where that has passed the end of the commit's frame is the model's choice, log 25. -/
def Obligations.FirstCommitStartsTheEngine : Prop :=
  ∀ (t : Nat) (tag : Byte) (s : State), s.linkIdle .shelf 0 t → s.engineSound → s.alloc.engine = .stopped →
    (∀ code index, ¬s.store.failsAt code index) →
    let p := s.store.staging
    let now := max s.now t
    let aged (r : SensorRec) : SensorRec := r.agedUnder p.shelf.staleMs p.shelf.lostMs now
    let moved : List Bay :=
      numbers8.filter fun n => (aged (s.sensors.get n)).state.code != (s.sensors.get n).state.code
    let met (l : Line) : Prop :=
      l.mode = .profile ∧ ∃ x, l.staged = some x ∧ s.cycle.derate = true ∧ x.derateMark = false
    ∃ s', exec (.profileCommit t .shelf tag) s = .next s' ∧ s'.now = now ∧ s'.inReset = false ∧
      s'.shelfResetArmed = s.shelfResetArmed ∧ s'.capture = s.capture ∧
      s'.port .shelf = (s.replied t .shelf ⟨0x43, tag, []⟩ .ok [0, 0, 0, 1]).port .shelf ∧
      (∀ i, s'.port (.bay i) = s.port (.bay i)) ∧
      s'.store = { s.store with installed := some p, waiting := none } ∧
      s'.params = ⟨p.shelf.staleMs, p.shelf.lostMs, p.shelf.stepLimit⟩ ∧
      s'.cycle = { s.cycle with epochDue := some (now + ms p.shelf.epochMs) } ∧
      s'.burst =
        { queue := []
          active := Row8.const none
          pools := Row4.ofFn fun i => ⟨(p.pools.get i).reserve, (p.pools.get i).reserve, false, 0⟩ } ∧
      s'.sensors = Row8.ofFn (fun n => aged (s.sensors.get n)) ∧
      s'.alloc = { s.alloc with
        engine := .running
        epoch := 1
        flight := some
          { epoch := 1
            profile := p
            cap := if s.cycle.derate = true then p.shelf.capDerated else p.shelf.capNormal
            derated := s.cycle.derate
            usable := Row8.ofFn fun n =>
              let r := aged (s.sensors.get n)
              if r.state = .valid ∨ r.state = .stale then r.held else none
            presence := flags8 fun n => decide ((aged (s.sensors.get n)).state = .valid)
            demand := Row8.const none
            pin := Row8.const none
            rotation := 0
            clamped := decide (∃ n, met (s.lines.get n))
            bursts := Row8.const none
            admitted := 0 } } ∧
      (∀ n, let l := s.lines.get n
        let b := p.bays.get n
        let hold := if l.mode = .profile ∧ l.hold = .releasing then .free else l.hold
        let live := if hold ≠ .free then b.countMin
          else if s.cycle.derate = true then min b.countFallback b.countDerate
          else b.countFallback
        (b.occupied = true →
          s'.lines.get n =
            { mode := .profile, len := b.len, live := live, phi := b.phi, slotIndex := 0
              slotTimeUs := p.shelf.slotTimeUs, staged := none
              hold := if hold = .held then .reassessing else hold
              slotStart := now, asserted := !openSlot live b.len (b.phi % b.len) }) ∧
        (b.occupied = false → l.mode = .profile →
          s'.lines.get n =
            { mode := .default, len := 16, live := 8, phi := 0, slotIndex := 0, slotTimeUs := 100, staged := none
              hold := .free, slotStart := now, asserted := true }) ∧
        (b.occupied = false → l.mode = .default → s'.lines.get n = l)) ∧
      (∀ k, (s'.alert k).mask = (s.alert k).mask ∧ (s'.alert k).groups = (s.alert k).groups) ∧
      (∀ i c, (s'.alert (.bay i)).pendingCauses.get c =
        if c = 2 then raisedWith ((s.alert (.bay i)).pendingCauses.get c) (selectorsOf p.bindings i moved) 0
        else (s.alert (.bay i)).pendingCauses.get c) ∧
      ∀ c, (s'.alert .shelf).pendingCauses.get c =
        if c = 3 then raisedWith ((s.alert .shelf).pendingCauses.get c) (flags8 fun n => moved.contains n) 0
        else raisedEmpty ((s.alert .shelf).pendingCauses.get c) (c == 7 || c == 1 && s.cycle.derate)

/-- The grant stage (R79, R83 to R98) on the ceilings of stage 3, which CeilingsFollowTheThermalModel fixes. Bay `m` comes
before bay `n` in the hand-out of R93 exactly when it is fewer places after the rotation pointer, counted modulo 8. -/
def Obligations.GrantsStayWithinCeilingsAndCap : Prop :=
  ∀ x : Snapshot,
    let block (n : Bay) : BayBlock := x.profile.bays.get n
    let total (f : Bay → Nat) : Nat := sum8 fun n => if (block n).occupied = true then f n else 0
    let ceil (n : Bay) : Nat := x.ceiling n
    let burst (n : Bay) : Nat := (x.bursts.get n).elim 0 Prod.snd
    let owed (n : Bay) : Nat := (block n).floor + burst n
    let demand (n : Bay) : Nat := (x.demand.get n).getD (block n).floor
    let commitment (n : Bay) : Nat := min ((x.pin.get n).getD (owed n)) (ceil n)
    let short : Bool := decide (x.cap < total commitment)
    let residue : Nat := x.cap - total commitment
    let want (n : Bay) : Nat := if (x.pin.get n).isSome = true then 0 else min (demand n) (ceil n) - commitment n
    let poolWants (p : Pool) : Nat := total fun n => if (block n).pool = p then want n else 0
    let extra (n : Bay) : Nat := (x.profile.pools.get (block n).pool).extra
    let pooled (n : Bay) : Nat :=
      if poolWants (block n).pool ≤ extra n then want n else want n * extra n / poolWants (block n).pool
    let contended : Bool := decide (residue < total pooled)
    let share (n : Bay) : Nat := pooled n * residue / total pooled
    let leftover : Nat := residue - total share
    let before (n : Bay) : Nat := total fun m => if 0 < pooled m ∧ m - x.rotation < n - x.rotation then 1 else 0
    let final (n : Bay) : Nat :=
      if contended = false then pooled n
      else if 0 < pooled n ∧ before n < leftover then share n + 1
      else share n
    let grant (n : Bay) : Nat :=
      if short = true then commitment n * x.cap / total commitment else commitment n + final n
    let sought (n : Bay) : Nat := (x.pin.get n).getD (max (owed n) (demand n))
    let flags (n : Bay) : RecordFlags :=
      { thermal := decide (ceil n < sought n)
        deficit := x.deficit n
        subst := x.subst n
        pinned := (x.pin.get n).isSome
        short := short
        pool := !short && decide (pooled n < want n)
        shelf := !short && decide (final n < pooled n)
        burst := (x.bursts.get n).isSome }
    (∀ n, (block n).occupied = true →
      x.grant n = grant n ∧ x.burstAmount n = burst n ∧ x.flags n = flags n ∧
      x.records.get n = some ⟨grant n, ceil n, countOf (block n) (grant n), burst n, flags n⟩) ∧
    (∀ n, (block n).occupied = false → x.grant n = 0 ∧ x.records.get n = none) ∧
    x.short = short ∧ x.grants = total grant ∧
    x.summary.cap = x.cap ∧ x.summary.grants = total grant ∧ x.summary.short = short ∧
    (∀ n, (block n).occupied = true → grant n ≤ ceil n ∧ (short = true → grant n ≤ commitment n)) ∧
    total grant ≤ x.cap ∧
    (short = false → contended = false → total grant = total commitment + total pooled) ∧
    (short = false → contended = true → total grant = x.cap)

/-- The ceilings as one system of equations (R62 to R73). -/
def Obligations.CeilingsFollowTheThermalModel : Prop :=
  ∀ x : Snapshot, x.profile.ordered →
    (∀ j, j ∉ x.profile.shelf.airflow → x.ceiling j = 0) ∧
    (∀ j, (x.profile.bays.get j).fallback ≤ (x.profile.bays.get j).peak →
      x.ceiling j ≤ (x.profile.bays.get j).peak) ∧
    ∀ j, j ∈ x.profile.shelf.airflow →
      let b := x.profile.bays.get j
      let upstream : Int := ((x.profile.couplings.filter fun e => e.down = j).map fun e =>
        (e.strength : Int) * ((x.ceiling e.up : Int) -
          match x.usable.get e.up with
          | some h => (h.power : Int)
          | none => 0)).sum
      (x.usable.get j = none → x.ceiling j = b.fallback ∧ x.subst j = true ∧ x.deficit j = false) ∧
      ∀ h, x.usable.get j = some h → x.subst j = false ∧
        (b.selfGain = 0 → x.ceiling j = b.peak ∧ x.deficit j = false) ∧
        (b.selfGain ≠ 0 →
          let v : Int := (h.power : Int) +
            Int.fdiv (256 * ((b.limit : Int) - (h.temp : Int)) - upstream) (b.selfGain : Int)
          (x.ceiling j : Int) = max 0 (min v (b.peak : Int)) ∧
          (x.deficit j = true ↔ v < (b.idle : Int)))

/-- The order decides nothing but which ceilings are known when (R59, R60). -/
def Obligations.CeilingsIgnoreTheChoiceOfOrder : Prop :=
  ∀ (x : Snapshot) (order : List Bay),
    let y := { x with profile := { x.profile with shelf := { x.profile.shelf with airflow := order } } }
    x.profile.ordered → y.profile.ordered → order.Perm x.profile.shelf.airflow →
    ∀ n, y.ceiling n = x.ceiling n ∧ y.deficit n = x.deficit n ∧ y.subst n = x.subst n

/-- Grant to count (R132). -/
def Obligations.CountsLieBetweenMinimumAndLength : Prop :=
  ∀ (b : BayBlock) (g g' : Nat), b.idle < b.peak → b.countMin ≤ b.len →
    (g ≤ b.idle → countOf b g = b.countMin) ∧
    (b.peak ≤ g → countOf b g = b.len) ∧
    (b.idle < g → g < b.peak →
      countOf b g = max b.countMin ((g - b.idle) * b.len / (b.peak - b.idle))) ∧
    b.countMin ≤ countOf b g ∧ countOf b g ≤ b.len ∧
    (g ≤ g' → countOf b g ≤ countOf b g') ∧
    (g ≤ b.peak → b.countMin < countOf b g →
      b.idle * b.len + countOf b g * (b.peak - b.idle) ≤ g * b.len)

/-- The distribution of the open slots (R127). -/
def Obligations.PatternsAreEven : Prop :=
  (∀ count len : Nat, 1 ≤ count → count ≤ len →
    (∀ i, i < len →
      ((i + 1) * count / len - i * count / len = 0 ∧ openSlot count len i = false ∨
        (i + 1) * count / len - i * count / len = 1 ∧ openSlot count len i = true)) ∧
    openSlots count len 0 len = count ∧
    (∀ a m, a < len →
      openSlots count len a m = m * count / len ∨ openSlots count len a m = m * count / len + 1) ∧
    (∀ i, i < len → openSlot len len i = true) ∧
    ∀ i, i < len → (openSlot 1 len i = true ↔ i = len - 1)) ∧
  (List.range 8).filter (openSlot 3 8) = [2, 5, 7] ∧
  (List.range 8).filter (openSlot 8 8) = [0, 1, 2, 3, 4, 5, 6, 7] ∧
  (List.range 16).filter (openSlot 8 16) = [1, 3, 5, 7, 9, 11, 13, 15] ∧
  (List.range 16).filter (openSlot 1 16) = [15]

/-- The admission round (R47, R111 to R114, R116, R117). Where K is above S before step 2 and the head fails its bay or pool test
too, R117's shelf decides, and not R112's first failing test: the model's choice, log 24. -/
def Obligations.AdmissionRoundAgesAdmitsAndExpires : Prop :=
  ∀ (b : BurstUnit) (cap base : Nat),
    let r := b.round cap base
    let goesOn (a : ActiveBurst) : Bool := decide (1 < a.remaining)
    let kept (n : Bay) : Option ActiveBurst := (b.active.get n).filter goesOn
    let credit (p : Pool) : Nat := sum8 fun n =>
      match b.active.get n with
      | some a => if goesOn a = false ∧ a.pool = p then a.amount else 0
      | none => 0
    let paid (l : List QueueEntry) (p : Pool) : Nat :=
      ((l.filter fun e => e.pool = p).map QueueEntry.amount).sum
    let total (l : List QueueEntry) : Nat :=
      base + (sum8 fun n => ((kept n).map ActiveBurst.amount).getD 0) + (l.map QueueEntry.amount).sum
    let bayFree (l : List QueueEntry) (e : QueueEntry) : Prop := kept e.bay = none ∧ ∀ f ∈ l, f.bay ≠ e.bay
    let poolPays (l : List QueueEntry) (e : QueueEntry) : Prop :=
      e.amount + paid l e.pool ≤ (b.pools.get e.pool).remaining + credit e.pool
    let capHolds (l : List QueueEntry) (e : QueueEntry) : Prop := total l + e.amount ≤ cap
    ∃ taken rest, b.queue = taken ++ rest ∧
      r.admitted = taken.map QueueEntry.bay ∧
      (∀ i e, taken[i]? = some e →
        bayFree (taken.take i) e ∧ poolPays (taken.take i) e ∧ capHolds (taken.take i) e) ∧
      (rest = [] → r.outcome = .emptied) ∧
      (∀ e tail, rest = e :: tail →
        (cap < total [] → taken = [] ∧ r.outcome = .blockedByShelf) ∧
        (total [] ≤ cap →
          (¬bayFree taken e → r.outcome = .blockedByBay) ∧
          (bayFree taken e → ¬poolPays taken e → r.outcome = .blockedByPool e.pool) ∧
          (bayFree taken e → poolPays taken e → ¬capHolds taken e ∧ r.outcome = .blockedByShelf))) ∧
      (∀ n, r.unit.active.get n =
        match taken.find? fun e => e.bay == n with
        | some e => some ⟨e.pool, e.amount, e.duration, e.tag⟩
        | none => (kept n).map fun a => { a with remaining := a.remaining - 1 }) ∧
      (∀ n, r.copy.get n = (r.unit.active.get n).map fun a => (a.pool, a.amount)) ∧
      r.unit.queue =
        (rest.filter fun e => 1 < e.roundsLeft).map (fun e => { e with roundsLeft := e.roundsLeft - 1 }) ∧
      r.expired = (rest.filter fun e => e.roundsLeft ≤ 1).map QueueEntry.bay ∧
      (∀ n, n ∈ r.ended ↔ ∃ a, b.active.get n = some a ∧ a.remaining ≤ 1) ∧
      (∀ p, r.unit.pools.get p =
        { b.pools.get p with
          remaining := (b.pools.get p).remaining + credit p - paid taken p
          exhausted := (b.pools.get p).exhausted || r.outcome == .blockedByPool p
          blocked := (b.pools.get p).blocked + if r.outcome = .blockedByPool p then 1 else 0 }) ∧
      total taken ≤ max cap (total [])

/-- The snapshot is a copy, and results become visible at completion alone (R48 to R52). One command of the shelf link may serve
SHELF RESET and go on to the break that cuts its reply off, which resets the part (log 11): the premise rules that out. -/
def Obligations.OperationInFlightKeepsItsSnapshot : Prop :=
  ∀ (c : Instr) (s s' : State), s.inReset = false → s.shelfResetArmed = false → s.alloc.engine = .running →
    (∀ t, c ≠ .powerOnReset t ∧ c ≠ .boundary t ∧ c ≠ .completion t) →
    (c.onLink = some .shelf → s.noBreakAfterRequest c) → exec c s = .next s' →
    s'.alloc.flight = s.alloc.flight ∧ s'.alloc.records = s.alloc.records ∧ s'.alloc.ring = s.alloc.ring ∧
      s'.alloc.rotation = s.alloc.rotation ∧ s'.alloc.epoch = s.alloc.epoch ∧ s'.alloc.engine = s.alloc.engine

/-- What one bay link can reach (R109, R119, R150, R153, R157, R160, R161). -/
def Obligations.BayLinksReachOnlyTheirOwnBays : Prop :=
  ∀ (c : Instr) (i : Fin 8) (s s' : State), c.onLink = some (.bay i) → exec c s = .next s' →
    let own := s.bindings.get i
    s'.inReset = s.inReset ∧ s'.shelfResetArmed = s.shelfResetArmed ∧ s'.capture = s.capture ∧
    s'.sensors = s.sensors ∧ s'.params = s.params ∧ s'.cycle = s.cycle ∧ s'.lines = s.lines ∧ s'.store = s.store ∧
    (∀ k, k ≠ .bay i → s'.port k = s.port k) ∧ (∀ j, j ≠ i → s'.alert (.bay j) = s.alert (.bay j)) ∧
    (∀ cause, cause ≠ 5 → (s'.alert .shelf).pendingCauses.get cause = (s.alert .shelf).pendingCauses.get cause) ∧
    (s'.alert .shelf).mask = (s.alert .shelf).mask ∧ (s'.alert .shelf).groups = (s.alert .shelf).groups ∧
    s'.alloc = { s.alloc with demand := s'.alloc.demand } ∧
    (∀ n, n ∉ own → s'.alloc.demand.get n = s.alloc.demand.get n ∧
      s'.burst.active.get n = s.burst.active.get n) ∧
    (s'.burst.queue.filter fun e => e.bay ∉ own) = (s.burst.queue.filter fun e => e.bay ∉ own) ∧
    ∀ p, s'.burst.pools.get p = { s.burst.pools.get p with
      remaining := (s.burst.pools.get p).remaining + sum8 fun n =>
        match s.burst.active.get n with
        | some a => if a.pool = p ∧ s'.burst.active.get n = none then a.amount else 0
        | none => 0 }

/-- Inboxes, transmitters and receive lines (R148, R150 to R153, R157 to R159, R171). -/
def Obligations.StepsKeepTheLinksSound : Prop :=
  ∀ s s' : State, s.linksSound → step s = .next s' → s'.linksSound

/-- Vectors, reasons, masks and groups (R172, R173, R175). -/
def Obligations.StepsKeepTheAlertsSound : Prop :=
  ∀ s s' : State, s.alertsSound → step s = .next s' → s'.alertsSound

/-- The pool accounts (R104). -/
def Obligations.StepsKeepThePoolsSound : Prop :=
  ∀ s s' : State, s.poolsSound → step s = .next s' → s'.poolsSound

/-- Queue, table, demands and pins (R79 to R81, R102, R103, R105). -/
def Obligations.StepsKeepTheBurstsSound : Prop :=
  ∀ s s' : State, s.burstsSound → step s = .next s' → s'.burstsSound

/-- The throttle lines (R125, R129, R145). -/
def Obligations.StepsKeepTheLinesSound : Prop :=
  ∀ s s' : State, s.linesSound → step s = .next s' → s'.linesSound

/-- The sensor records and the filter (R2, R20, R23 to R30). -/
def Obligations.StepsKeepTheSensorsSound : Prop :=
  ∀ s s' : State, s.sensorsSound → step s = .next s' → s'.sensorsSound

/-- Engine, derate line, epoch numbers and history ring (R38, R39, R41 to R43, R54, R58, R98). -/
def Obligations.StepsKeepTheCycleAndRingSound : Prop :=
  ∀ s s' : State, s.ringSound → step s = .next s' → s'.ringSound

/-- The reset state is sound; its instant is the model's choice, log 6. -/
def Obligations.ResetMeetsEveryInvariant : Prop :=
  State.reset.linksSound ∧ State.reset.alertsSound ∧ State.reset.poolsSound ∧ State.reset.burstsSound ∧
    State.reset.linesSound ∧ State.reset.sensorsSound ∧ State.reset.ringSound

end
end

