-- ==== Sys2Proof/Laws/State.lean ====
section
/-! SUPPORT. What each setter of the state leaves: one lemma per field per update, and the members of a `PerLink`. -/

namespace Sys2Proof.Machine

variable (s : State)

/-! ### The setters of whole blocks -/

@[simp] theorem State.setNow_pending (x : Nat) : (s.setNow x).pending = s.pending := rfl
@[simp] theorem State.setNow_now (x : Nat) : (s.setNow x).now = x := rfl
@[simp] theorem State.setNow_inReset (x : Nat) : (s.setNow x).inReset = s.inReset := rfl
@[simp] theorem State.setNow_shelfResetArmed (x : Nat) : (s.setNow x).shelfResetArmed = s.shelfResetArmed := rfl
@[simp] theorem State.setNow_capture (x : Nat) : (s.setNow x).capture = s.capture := rfl
@[simp] theorem State.setNow_sensors (x : Nat) : (s.setNow x).sensors = s.sensors := rfl
@[simp] theorem State.setNow_params (x : Nat) : (s.setNow x).params = s.params := rfl
@[simp] theorem State.setNow_cycle (x : Nat) : (s.setNow x).cycle = s.cycle := rfl
@[simp] theorem State.setNow_alloc (x : Nat) : (s.setNow x).alloc = s.alloc := rfl
@[simp] theorem State.setNow_burst (x : Nat) : (s.setNow x).burst = s.burst := rfl
@[simp] theorem State.setNow_lines (x : Nat) : (s.setNow x).lines = s.lines := rfl
@[simp] theorem State.setNow_ports (x : Nat) : (s.setNow x).ports = s.ports := rfl
@[simp] theorem State.setNow_alerts (x : Nat) : (s.setNow x).alerts = s.alerts := rfl
@[simp] theorem State.setNow_store (x : Nat) : (s.setNow x).store = s.store := rfl

@[simp] theorem State.setInReset_pending (x : Bool) : (s.setInReset x).pending = s.pending := rfl
@[simp] theorem State.setInReset_now (x : Bool) : (s.setInReset x).now = s.now := rfl
@[simp] theorem State.setInReset_inReset (x : Bool) : (s.setInReset x).inReset = x := rfl
@[simp] theorem State.setInReset_shelfResetArmed (x : Bool) : (s.setInReset x).shelfResetArmed = s.shelfResetArmed := rfl
@[simp] theorem State.setInReset_capture (x : Bool) : (s.setInReset x).capture = s.capture := rfl
@[simp] theorem State.setInReset_sensors (x : Bool) : (s.setInReset x).sensors = s.sensors := rfl
@[simp] theorem State.setInReset_params (x : Bool) : (s.setInReset x).params = s.params := rfl
@[simp] theorem State.setInReset_cycle (x : Bool) : (s.setInReset x).cycle = s.cycle := rfl
@[simp] theorem State.setInReset_alloc (x : Bool) : (s.setInReset x).alloc = s.alloc := rfl
@[simp] theorem State.setInReset_burst (x : Bool) : (s.setInReset x).burst = s.burst := rfl
@[simp] theorem State.setInReset_lines (x : Bool) : (s.setInReset x).lines = s.lines := rfl
@[simp] theorem State.setInReset_ports (x : Bool) : (s.setInReset x).ports = s.ports := rfl
@[simp] theorem State.setInReset_alerts (x : Bool) : (s.setInReset x).alerts = s.alerts := rfl
@[simp] theorem State.setInReset_store (x : Bool) : (s.setInReset x).store = s.store := rfl

@[simp] theorem State.setArmed_pending (x : Bool) : (s.setArmed x).pending = s.pending := rfl
@[simp] theorem State.setArmed_now (x : Bool) : (s.setArmed x).now = s.now := rfl
@[simp] theorem State.setArmed_inReset (x : Bool) : (s.setArmed x).inReset = s.inReset := rfl
@[simp] theorem State.setArmed_shelfResetArmed (x : Bool) : (s.setArmed x).shelfResetArmed = x := rfl
@[simp] theorem State.setArmed_capture (x : Bool) : (s.setArmed x).capture = s.capture := rfl
@[simp] theorem State.setArmed_sensors (x : Bool) : (s.setArmed x).sensors = s.sensors := rfl
@[simp] theorem State.setArmed_params (x : Bool) : (s.setArmed x).params = s.params := rfl
@[simp] theorem State.setArmed_cycle (x : Bool) : (s.setArmed x).cycle = s.cycle := rfl
@[simp] theorem State.setArmed_alloc (x : Bool) : (s.setArmed x).alloc = s.alloc := rfl
@[simp] theorem State.setArmed_burst (x : Bool) : (s.setArmed x).burst = s.burst := rfl
@[simp] theorem State.setArmed_lines (x : Bool) : (s.setArmed x).lines = s.lines := rfl
@[simp] theorem State.setArmed_ports (x : Bool) : (s.setArmed x).ports = s.ports := rfl
@[simp] theorem State.setArmed_alerts (x : Bool) : (s.setArmed x).alerts = s.alerts := rfl
@[simp] theorem State.setArmed_store (x : Bool) : (s.setArmed x).store = s.store := rfl

@[simp] theorem State.setCapture_pending (x : Row8 Decoder) : (s.setCapture x).pending = s.pending := rfl
@[simp] theorem State.setCapture_now (x : Row8 Decoder) : (s.setCapture x).now = s.now := rfl
@[simp] theorem State.setCapture_inReset (x : Row8 Decoder) : (s.setCapture x).inReset = s.inReset := rfl
@[simp] theorem State.setCapture_shelfResetArmed (x : Row8 Decoder) : (s.setCapture x).shelfResetArmed = s.shelfResetArmed := rfl
@[simp] theorem State.setCapture_capture (x : Row8 Decoder) : (s.setCapture x).capture = x := rfl
@[simp] theorem State.setCapture_sensors (x : Row8 Decoder) : (s.setCapture x).sensors = s.sensors := rfl
@[simp] theorem State.setCapture_params (x : Row8 Decoder) : (s.setCapture x).params = s.params := rfl
@[simp] theorem State.setCapture_cycle (x : Row8 Decoder) : (s.setCapture x).cycle = s.cycle := rfl
@[simp] theorem State.setCapture_alloc (x : Row8 Decoder) : (s.setCapture x).alloc = s.alloc := rfl
@[simp] theorem State.setCapture_burst (x : Row8 Decoder) : (s.setCapture x).burst = s.burst := rfl
@[simp] theorem State.setCapture_lines (x : Row8 Decoder) : (s.setCapture x).lines = s.lines := rfl
@[simp] theorem State.setCapture_ports (x : Row8 Decoder) : (s.setCapture x).ports = s.ports := rfl
@[simp] theorem State.setCapture_alerts (x : Row8 Decoder) : (s.setCapture x).alerts = s.alerts := rfl
@[simp] theorem State.setCapture_store (x : Row8 Decoder) : (s.setCapture x).store = s.store := rfl

@[simp] theorem State.setSensors_pending (x : Row8 SensorRec) : (s.setSensors x).pending = s.pending := rfl
@[simp] theorem State.setSensors_now (x : Row8 SensorRec) : (s.setSensors x).now = s.now := rfl
@[simp] theorem State.setSensors_inReset (x : Row8 SensorRec) : (s.setSensors x).inReset = s.inReset := rfl
@[simp] theorem State.setSensors_shelfResetArmed (x : Row8 SensorRec) : (s.setSensors x).shelfResetArmed = s.shelfResetArmed := rfl
@[simp] theorem State.setSensors_capture (x : Row8 SensorRec) : (s.setSensors x).capture = s.capture := rfl
@[simp] theorem State.setSensors_sensors (x : Row8 SensorRec) : (s.setSensors x).sensors = x := rfl
@[simp] theorem State.setSensors_params (x : Row8 SensorRec) : (s.setSensors x).params = s.params := rfl
@[simp] theorem State.setSensors_cycle (x : Row8 SensorRec) : (s.setSensors x).cycle = s.cycle := rfl
@[simp] theorem State.setSensors_alloc (x : Row8 SensorRec) : (s.setSensors x).alloc = s.alloc := rfl
@[simp] theorem State.setSensors_burst (x : Row8 SensorRec) : (s.setSensors x).burst = s.burst := rfl
@[simp] theorem State.setSensors_lines (x : Row8 SensorRec) : (s.setSensors x).lines = s.lines := rfl
@[simp] theorem State.setSensors_ports (x : Row8 SensorRec) : (s.setSensors x).ports = s.ports := rfl
@[simp] theorem State.setSensors_alerts (x : Row8 SensorRec) : (s.setSensors x).alerts = s.alerts := rfl
@[simp] theorem State.setSensors_store (x : Row8 SensorRec) : (s.setSensors x).store = s.store := rfl

@[simp] theorem State.setParams_pending (x : SensorParams) : (s.setParams x).pending = s.pending := rfl
@[simp] theorem State.setParams_now (x : SensorParams) : (s.setParams x).now = s.now := rfl
@[simp] theorem State.setParams_inReset (x : SensorParams) : (s.setParams x).inReset = s.inReset := rfl
@[simp] theorem State.setParams_shelfResetArmed (x : SensorParams) : (s.setParams x).shelfResetArmed = s.shelfResetArmed := rfl
@[simp] theorem State.setParams_capture (x : SensorParams) : (s.setParams x).capture = s.capture := rfl
@[simp] theorem State.setParams_sensors (x : SensorParams) : (s.setParams x).sensors = s.sensors := rfl
@[simp] theorem State.setParams_params (x : SensorParams) : (s.setParams x).params = x := rfl
@[simp] theorem State.setParams_cycle (x : SensorParams) : (s.setParams x).cycle = s.cycle := rfl
@[simp] theorem State.setParams_alloc (x : SensorParams) : (s.setParams x).alloc = s.alloc := rfl
@[simp] theorem State.setParams_burst (x : SensorParams) : (s.setParams x).burst = s.burst := rfl
@[simp] theorem State.setParams_lines (x : SensorParams) : (s.setParams x).lines = s.lines := rfl
@[simp] theorem State.setParams_ports (x : SensorParams) : (s.setParams x).ports = s.ports := rfl
@[simp] theorem State.setParams_alerts (x : SensorParams) : (s.setParams x).alerts = s.alerts := rfl
@[simp] theorem State.setParams_store (x : SensorParams) : (s.setParams x).store = s.store := rfl

@[simp] theorem State.setCycle_pending (x : CycleTimer) : (s.setCycle x).pending = s.pending := rfl
@[simp] theorem State.setCycle_now (x : CycleTimer) : (s.setCycle x).now = s.now := rfl
@[simp] theorem State.setCycle_inReset (x : CycleTimer) : (s.setCycle x).inReset = s.inReset := rfl
@[simp] theorem State.setCycle_shelfResetArmed (x : CycleTimer) : (s.setCycle x).shelfResetArmed = s.shelfResetArmed := rfl
@[simp] theorem State.setCycle_capture (x : CycleTimer) : (s.setCycle x).capture = s.capture := rfl
@[simp] theorem State.setCycle_sensors (x : CycleTimer) : (s.setCycle x).sensors = s.sensors := rfl
@[simp] theorem State.setCycle_params (x : CycleTimer) : (s.setCycle x).params = s.params := rfl
@[simp] theorem State.setCycle_cycle (x : CycleTimer) : (s.setCycle x).cycle = x := rfl
@[simp] theorem State.setCycle_alloc (x : CycleTimer) : (s.setCycle x).alloc = s.alloc := rfl
@[simp] theorem State.setCycle_burst (x : CycleTimer) : (s.setCycle x).burst = s.burst := rfl
@[simp] theorem State.setCycle_lines (x : CycleTimer) : (s.setCycle x).lines = s.lines := rfl
@[simp] theorem State.setCycle_ports (x : CycleTimer) : (s.setCycle x).ports = s.ports := rfl
@[simp] theorem State.setCycle_alerts (x : CycleTimer) : (s.setCycle x).alerts = s.alerts := rfl
@[simp] theorem State.setCycle_store (x : CycleTimer) : (s.setCycle x).store = s.store := rfl

@[simp] theorem State.setAlloc_pending (x : Allocator) : (s.setAlloc x).pending = s.pending := rfl
@[simp] theorem State.setAlloc_now (x : Allocator) : (s.setAlloc x).now = s.now := rfl
@[simp] theorem State.setAlloc_inReset (x : Allocator) : (s.setAlloc x).inReset = s.inReset := rfl
@[simp] theorem State.setAlloc_shelfResetArmed (x : Allocator) : (s.setAlloc x).shelfResetArmed = s.shelfResetArmed := rfl
@[simp] theorem State.setAlloc_capture (x : Allocator) : (s.setAlloc x).capture = s.capture := rfl
@[simp] theorem State.setAlloc_sensors (x : Allocator) : (s.setAlloc x).sensors = s.sensors := rfl
@[simp] theorem State.setAlloc_params (x : Allocator) : (s.setAlloc x).params = s.params := rfl
@[simp] theorem State.setAlloc_cycle (x : Allocator) : (s.setAlloc x).cycle = s.cycle := rfl
@[simp] theorem State.setAlloc_alloc (x : Allocator) : (s.setAlloc x).alloc = x := rfl
@[simp] theorem State.setAlloc_burst (x : Allocator) : (s.setAlloc x).burst = s.burst := rfl
@[simp] theorem State.setAlloc_lines (x : Allocator) : (s.setAlloc x).lines = s.lines := rfl
@[simp] theorem State.setAlloc_ports (x : Allocator) : (s.setAlloc x).ports = s.ports := rfl
@[simp] theorem State.setAlloc_alerts (x : Allocator) : (s.setAlloc x).alerts = s.alerts := rfl
@[simp] theorem State.setAlloc_store (x : Allocator) : (s.setAlloc x).store = s.store := rfl

@[simp] theorem State.setBurst_pending (x : BurstUnit) : (s.setBurst x).pending = s.pending := rfl
@[simp] theorem State.setBurst_now (x : BurstUnit) : (s.setBurst x).now = s.now := rfl
@[simp] theorem State.setBurst_inReset (x : BurstUnit) : (s.setBurst x).inReset = s.inReset := rfl
@[simp] theorem State.setBurst_shelfResetArmed (x : BurstUnit) : (s.setBurst x).shelfResetArmed = s.shelfResetArmed := rfl
@[simp] theorem State.setBurst_capture (x : BurstUnit) : (s.setBurst x).capture = s.capture := rfl
@[simp] theorem State.setBurst_sensors (x : BurstUnit) : (s.setBurst x).sensors = s.sensors := rfl
@[simp] theorem State.setBurst_params (x : BurstUnit) : (s.setBurst x).params = s.params := rfl
@[simp] theorem State.setBurst_cycle (x : BurstUnit) : (s.setBurst x).cycle = s.cycle := rfl
@[simp] theorem State.setBurst_alloc (x : BurstUnit) : (s.setBurst x).alloc = s.alloc := rfl
@[simp] theorem State.setBurst_burst (x : BurstUnit) : (s.setBurst x).burst = x := rfl
@[simp] theorem State.setBurst_lines (x : BurstUnit) : (s.setBurst x).lines = s.lines := rfl
@[simp] theorem State.setBurst_ports (x : BurstUnit) : (s.setBurst x).ports = s.ports := rfl
@[simp] theorem State.setBurst_alerts (x : BurstUnit) : (s.setBurst x).alerts = s.alerts := rfl
@[simp] theorem State.setBurst_store (x : BurstUnit) : (s.setBurst x).store = s.store := rfl

@[simp] theorem State.setLines_pending (x : Row8 Line) : (s.setLines x).pending = s.pending := rfl
@[simp] theorem State.setLines_now (x : Row8 Line) : (s.setLines x).now = s.now := rfl
@[simp] theorem State.setLines_inReset (x : Row8 Line) : (s.setLines x).inReset = s.inReset := rfl
@[simp] theorem State.setLines_shelfResetArmed (x : Row8 Line) : (s.setLines x).shelfResetArmed = s.shelfResetArmed := rfl
@[simp] theorem State.setLines_capture (x : Row8 Line) : (s.setLines x).capture = s.capture := rfl
@[simp] theorem State.setLines_sensors (x : Row8 Line) : (s.setLines x).sensors = s.sensors := rfl
@[simp] theorem State.setLines_params (x : Row8 Line) : (s.setLines x).params = s.params := rfl
@[simp] theorem State.setLines_cycle (x : Row8 Line) : (s.setLines x).cycle = s.cycle := rfl
@[simp] theorem State.setLines_alloc (x : Row8 Line) : (s.setLines x).alloc = s.alloc := rfl
@[simp] theorem State.setLines_burst (x : Row8 Line) : (s.setLines x).burst = s.burst := rfl
@[simp] theorem State.setLines_lines (x : Row8 Line) : (s.setLines x).lines = x := rfl
@[simp] theorem State.setLines_ports (x : Row8 Line) : (s.setLines x).ports = s.ports := rfl
@[simp] theorem State.setLines_alerts (x : Row8 Line) : (s.setLines x).alerts = s.alerts := rfl
@[simp] theorem State.setLines_store (x : Row8 Line) : (s.setLines x).store = s.store := rfl

@[simp] theorem State.setPorts_pending (x : PerLink Port) : (s.setPorts x).pending = s.pending := rfl
@[simp] theorem State.setPorts_now (x : PerLink Port) : (s.setPorts x).now = s.now := rfl
@[simp] theorem State.setPorts_inReset (x : PerLink Port) : (s.setPorts x).inReset = s.inReset := rfl
@[simp] theorem State.setPorts_shelfResetArmed (x : PerLink Port) : (s.setPorts x).shelfResetArmed = s.shelfResetArmed := rfl
@[simp] theorem State.setPorts_capture (x : PerLink Port) : (s.setPorts x).capture = s.capture := rfl
@[simp] theorem State.setPorts_sensors (x : PerLink Port) : (s.setPorts x).sensors = s.sensors := rfl
@[simp] theorem State.setPorts_params (x : PerLink Port) : (s.setPorts x).params = s.params := rfl
@[simp] theorem State.setPorts_cycle (x : PerLink Port) : (s.setPorts x).cycle = s.cycle := rfl
@[simp] theorem State.setPorts_alloc (x : PerLink Port) : (s.setPorts x).alloc = s.alloc := rfl
@[simp] theorem State.setPorts_burst (x : PerLink Port) : (s.setPorts x).burst = s.burst := rfl
@[simp] theorem State.setPorts_lines (x : PerLink Port) : (s.setPorts x).lines = s.lines := rfl
@[simp] theorem State.setPorts_ports (x : PerLink Port) : (s.setPorts x).ports = x := rfl
@[simp] theorem State.setPorts_alerts (x : PerLink Port) : (s.setPorts x).alerts = s.alerts := rfl
@[simp] theorem State.setPorts_store (x : PerLink Port) : (s.setPorts x).store = s.store := rfl

@[simp] theorem State.setAlerts_pending (x : PerLink AlertState) : (s.setAlerts x).pending = s.pending := rfl
@[simp] theorem State.setAlerts_now (x : PerLink AlertState) : (s.setAlerts x).now = s.now := rfl
@[simp] theorem State.setAlerts_inReset (x : PerLink AlertState) : (s.setAlerts x).inReset = s.inReset := rfl
@[simp] theorem State.setAlerts_shelfResetArmed (x : PerLink AlertState) : (s.setAlerts x).shelfResetArmed = s.shelfResetArmed := rfl
@[simp] theorem State.setAlerts_capture (x : PerLink AlertState) : (s.setAlerts x).capture = s.capture := rfl
@[simp] theorem State.setAlerts_sensors (x : PerLink AlertState) : (s.setAlerts x).sensors = s.sensors := rfl
@[simp] theorem State.setAlerts_params (x : PerLink AlertState) : (s.setAlerts x).params = s.params := rfl
@[simp] theorem State.setAlerts_cycle (x : PerLink AlertState) : (s.setAlerts x).cycle = s.cycle := rfl
@[simp] theorem State.setAlerts_alloc (x : PerLink AlertState) : (s.setAlerts x).alloc = s.alloc := rfl
@[simp] theorem State.setAlerts_burst (x : PerLink AlertState) : (s.setAlerts x).burst = s.burst := rfl
@[simp] theorem State.setAlerts_lines (x : PerLink AlertState) : (s.setAlerts x).lines = s.lines := rfl
@[simp] theorem State.setAlerts_ports (x : PerLink AlertState) : (s.setAlerts x).ports = s.ports := rfl
@[simp] theorem State.setAlerts_alerts (x : PerLink AlertState) : (s.setAlerts x).alerts = x := rfl
@[simp] theorem State.setAlerts_store (x : PerLink AlertState) : (s.setAlerts x).store = s.store := rfl

@[simp] theorem State.setStore_pending (x : ProfileStore) : (s.setStore x).pending = s.pending := rfl
@[simp] theorem State.setStore_now (x : ProfileStore) : (s.setStore x).now = s.now := rfl
@[simp] theorem State.setStore_inReset (x : ProfileStore) : (s.setStore x).inReset = s.inReset := rfl
@[simp] theorem State.setStore_shelfResetArmed (x : ProfileStore) : (s.setStore x).shelfResetArmed = s.shelfResetArmed := rfl
@[simp] theorem State.setStore_capture (x : ProfileStore) : (s.setStore x).capture = s.capture := rfl
@[simp] theorem State.setStore_sensors (x : ProfileStore) : (s.setStore x).sensors = s.sensors := rfl
@[simp] theorem State.setStore_params (x : ProfileStore) : (s.setStore x).params = s.params := rfl
@[simp] theorem State.setStore_cycle (x : ProfileStore) : (s.setStore x).cycle = s.cycle := rfl
@[simp] theorem State.setStore_alloc (x : ProfileStore) : (s.setStore x).alloc = s.alloc := rfl
@[simp] theorem State.setStore_burst (x : ProfileStore) : (s.setStore x).burst = s.burst := rfl
@[simp] theorem State.setStore_lines (x : ProfileStore) : (s.setStore x).lines = s.lines := rfl
@[simp] theorem State.setStore_ports (x : ProfileStore) : (s.setStore x).ports = s.ports := rfl
@[simp] theorem State.setStore_alerts (x : ProfileStore) : (s.setStore x).alerts = s.alerts := rfl
@[simp] theorem State.setStore_store (x : ProfileStore) : (s.setStore x).store = x := rfl

/-! ### The setters of one member -/

@[simp] theorem State.advance_pending (t : Nat) : (s.advance t).pending = s.pending := rfl
@[simp] theorem State.advance_now (t : Nat) : (s.advance t).now = max s.now t := rfl
@[simp] theorem State.advance_inReset (t : Nat) : (s.advance t).inReset = s.inReset := rfl
@[simp] theorem State.advance_shelfResetArmed (t : Nat) : (s.advance t).shelfResetArmed = s.shelfResetArmed := rfl
@[simp] theorem State.advance_capture (t : Nat) : (s.advance t).capture = s.capture := rfl
@[simp] theorem State.advance_sensors (t : Nat) : (s.advance t).sensors = s.sensors := rfl
@[simp] theorem State.advance_params (t : Nat) : (s.advance t).params = s.params := rfl
@[simp] theorem State.advance_cycle (t : Nat) : (s.advance t).cycle = s.cycle := rfl
@[simp] theorem State.advance_alloc (t : Nat) : (s.advance t).alloc = s.alloc := rfl
@[simp] theorem State.advance_burst (t : Nat) : (s.advance t).burst = s.burst := rfl
@[simp] theorem State.advance_lines (t : Nat) : (s.advance t).lines = s.lines := rfl
@[simp] theorem State.advance_ports (t : Nat) : (s.advance t).ports = s.ports := rfl
@[simp] theorem State.advance_alerts (t : Nat) : (s.advance t).alerts = s.alerts := rfl
@[simp] theorem State.advance_store (t : Nat) : (s.advance t).store = s.store := rfl

@[simp] theorem State.setPort_pending (k : LinkId) (p : Port) : (s.setPort k p).pending = s.pending := rfl
@[simp] theorem State.setPort_now (k : LinkId) (p : Port) : (s.setPort k p).now = s.now := rfl
@[simp] theorem State.setPort_inReset (k : LinkId) (p : Port) : (s.setPort k p).inReset = s.inReset := rfl
@[simp] theorem State.setPort_shelfResetArmed (k : LinkId) (p : Port) : (s.setPort k p).shelfResetArmed = s.shelfResetArmed := rfl
@[simp] theorem State.setPort_capture (k : LinkId) (p : Port) : (s.setPort k p).capture = s.capture := rfl
@[simp] theorem State.setPort_sensors (k : LinkId) (p : Port) : (s.setPort k p).sensors = s.sensors := rfl
@[simp] theorem State.setPort_params (k : LinkId) (p : Port) : (s.setPort k p).params = s.params := rfl
@[simp] theorem State.setPort_cycle (k : LinkId) (p : Port) : (s.setPort k p).cycle = s.cycle := rfl
@[simp] theorem State.setPort_alloc (k : LinkId) (p : Port) : (s.setPort k p).alloc = s.alloc := rfl
@[simp] theorem State.setPort_burst (k : LinkId) (p : Port) : (s.setPort k p).burst = s.burst := rfl
@[simp] theorem State.setPort_lines (k : LinkId) (p : Port) : (s.setPort k p).lines = s.lines := rfl
@[simp] theorem State.setPort_ports (k : LinkId) (p : Port) : (s.setPort k p).ports = s.ports.set k p := rfl
@[simp] theorem State.setPort_alerts (k : LinkId) (p : Port) : (s.setPort k p).alerts = s.alerts := rfl
@[simp] theorem State.setPort_store (k : LinkId) (p : Port) : (s.setPort k p).store = s.store := rfl

@[simp] theorem State.setAlert_pending (k : LinkId) (a : AlertState) : (s.setAlert k a).pending = s.pending := rfl
@[simp] theorem State.setAlert_now (k : LinkId) (a : AlertState) : (s.setAlert k a).now = s.now := rfl
@[simp] theorem State.setAlert_inReset (k : LinkId) (a : AlertState) : (s.setAlert k a).inReset = s.inReset := rfl
@[simp] theorem State.setAlert_shelfResetArmed (k : LinkId) (a : AlertState) : (s.setAlert k a).shelfResetArmed = s.shelfResetArmed := rfl
@[simp] theorem State.setAlert_capture (k : LinkId) (a : AlertState) : (s.setAlert k a).capture = s.capture := rfl
@[simp] theorem State.setAlert_sensors (k : LinkId) (a : AlertState) : (s.setAlert k a).sensors = s.sensors := rfl
@[simp] theorem State.setAlert_params (k : LinkId) (a : AlertState) : (s.setAlert k a).params = s.params := rfl
@[simp] theorem State.setAlert_cycle (k : LinkId) (a : AlertState) : (s.setAlert k a).cycle = s.cycle := rfl
@[simp] theorem State.setAlert_alloc (k : LinkId) (a : AlertState) : (s.setAlert k a).alloc = s.alloc := rfl
@[simp] theorem State.setAlert_burst (k : LinkId) (a : AlertState) : (s.setAlert k a).burst = s.burst := rfl
@[simp] theorem State.setAlert_lines (k : LinkId) (a : AlertState) : (s.setAlert k a).lines = s.lines := rfl
@[simp] theorem State.setAlert_ports (k : LinkId) (a : AlertState) : (s.setAlert k a).ports = s.ports := rfl
@[simp] theorem State.setAlert_alerts (k : LinkId) (a : AlertState) : (s.setAlert k a).alerts = s.alerts.set k a := rfl
@[simp] theorem State.setAlert_store (k : LinkId) (a : AlertState) : (s.setAlert k a).store = s.store := rfl

@[simp] theorem State.setDecoder_pending (n : Bay) (d : Decoder) : (s.setDecoder n d).pending = s.pending := rfl
@[simp] theorem State.setDecoder_now (n : Bay) (d : Decoder) : (s.setDecoder n d).now = s.now := rfl
@[simp] theorem State.setDecoder_inReset (n : Bay) (d : Decoder) : (s.setDecoder n d).inReset = s.inReset := rfl
@[simp] theorem State.setDecoder_shelfResetArmed (n : Bay) (d : Decoder) : (s.setDecoder n d).shelfResetArmed = s.shelfResetArmed := rfl
@[simp] theorem State.setDecoder_capture (n : Bay) (d : Decoder) : (s.setDecoder n d).capture = s.capture.set n d := rfl
@[simp] theorem State.setDecoder_sensors (n : Bay) (d : Decoder) : (s.setDecoder n d).sensors = s.sensors := rfl
@[simp] theorem State.setDecoder_params (n : Bay) (d : Decoder) : (s.setDecoder n d).params = s.params := rfl
@[simp] theorem State.setDecoder_cycle (n : Bay) (d : Decoder) : (s.setDecoder n d).cycle = s.cycle := rfl
@[simp] theorem State.setDecoder_alloc (n : Bay) (d : Decoder) : (s.setDecoder n d).alloc = s.alloc := rfl
@[simp] theorem State.setDecoder_burst (n : Bay) (d : Decoder) : (s.setDecoder n d).burst = s.burst := rfl
@[simp] theorem State.setDecoder_lines (n : Bay) (d : Decoder) : (s.setDecoder n d).lines = s.lines := rfl
@[simp] theorem State.setDecoder_ports (n : Bay) (d : Decoder) : (s.setDecoder n d).ports = s.ports := rfl
@[simp] theorem State.setDecoder_alerts (n : Bay) (d : Decoder) : (s.setDecoder n d).alerts = s.alerts := rfl
@[simp] theorem State.setDecoder_store (n : Bay) (d : Decoder) : (s.setDecoder n d).store = s.store := rfl

@[simp] theorem State.setSensor_pending (n : Bay) (r : SensorRec) : (s.setSensor n r).pending = s.pending := rfl
@[simp] theorem State.setSensor_now (n : Bay) (r : SensorRec) : (s.setSensor n r).now = s.now := rfl
@[simp] theorem State.setSensor_inReset (n : Bay) (r : SensorRec) : (s.setSensor n r).inReset = s.inReset := rfl
@[simp] theorem State.setSensor_shelfResetArmed (n : Bay) (r : SensorRec) : (s.setSensor n r).shelfResetArmed = s.shelfResetArmed := rfl
@[simp] theorem State.setSensor_capture (n : Bay) (r : SensorRec) : (s.setSensor n r).capture = s.capture := rfl
@[simp] theorem State.setSensor_sensors (n : Bay) (r : SensorRec) : (s.setSensor n r).sensors = s.sensors.set n r := rfl
@[simp] theorem State.setSensor_params (n : Bay) (r : SensorRec) : (s.setSensor n r).params = s.params := rfl
@[simp] theorem State.setSensor_cycle (n : Bay) (r : SensorRec) : (s.setSensor n r).cycle = s.cycle := rfl
@[simp] theorem State.setSensor_alloc (n : Bay) (r : SensorRec) : (s.setSensor n r).alloc = s.alloc := rfl
@[simp] theorem State.setSensor_burst (n : Bay) (r : SensorRec) : (s.setSensor n r).burst = s.burst := rfl
@[simp] theorem State.setSensor_lines (n : Bay) (r : SensorRec) : (s.setSensor n r).lines = s.lines := rfl
@[simp] theorem State.setSensor_ports (n : Bay) (r : SensorRec) : (s.setSensor n r).ports = s.ports := rfl
@[simp] theorem State.setSensor_alerts (n : Bay) (r : SensorRec) : (s.setSensor n r).alerts = s.alerts := rfl
@[simp] theorem State.setSensor_store (n : Bay) (r : SensorRec) : (s.setSensor n r).store = s.store := rfl

@[simp] theorem State.setLine_pending (n : Bay) (l : Line) : (s.setLine n l).pending = s.pending := rfl
@[simp] theorem State.setLine_now (n : Bay) (l : Line) : (s.setLine n l).now = s.now := rfl
@[simp] theorem State.setLine_inReset (n : Bay) (l : Line) : (s.setLine n l).inReset = s.inReset := rfl
@[simp] theorem State.setLine_shelfResetArmed (n : Bay) (l : Line) : (s.setLine n l).shelfResetArmed = s.shelfResetArmed := rfl
@[simp] theorem State.setLine_capture (n : Bay) (l : Line) : (s.setLine n l).capture = s.capture := rfl
@[simp] theorem State.setLine_sensors (n : Bay) (l : Line) : (s.setLine n l).sensors = s.sensors := rfl
@[simp] theorem State.setLine_params (n : Bay) (l : Line) : (s.setLine n l).params = s.params := rfl
@[simp] theorem State.setLine_cycle (n : Bay) (l : Line) : (s.setLine n l).cycle = s.cycle := rfl
@[simp] theorem State.setLine_alloc (n : Bay) (l : Line) : (s.setLine n l).alloc = s.alloc := rfl
@[simp] theorem State.setLine_burst (n : Bay) (l : Line) : (s.setLine n l).burst = s.burst := rfl
@[simp] theorem State.setLine_lines (n : Bay) (l : Line) : (s.setLine n l).lines = s.lines.set n l := rfl
@[simp] theorem State.setLine_ports (n : Bay) (l : Line) : (s.setLine n l).ports = s.ports := rfl
@[simp] theorem State.setLine_alerts (n : Bay) (l : Line) : (s.setLine n l).alerts = s.alerts := rfl
@[simp] theorem State.setLine_store (n : Bay) (l : Line) : (s.setLine n l).store = s.store := rfl

@[simp] theorem State.setRx_pending (k : LinkId) (rx : RxState) : (s.setRx k rx).pending = s.pending := rfl
@[simp] theorem State.setRx_now (k : LinkId) (rx : RxState) : (s.setRx k rx).now = s.now := rfl
@[simp] theorem State.setRx_inReset (k : LinkId) (rx : RxState) : (s.setRx k rx).inReset = s.inReset := rfl
@[simp] theorem State.setRx_shelfResetArmed (k : LinkId) (rx : RxState) : (s.setRx k rx).shelfResetArmed = s.shelfResetArmed := rfl
@[simp] theorem State.setRx_capture (k : LinkId) (rx : RxState) : (s.setRx k rx).capture = s.capture := rfl
@[simp] theorem State.setRx_sensors (k : LinkId) (rx : RxState) : (s.setRx k rx).sensors = s.sensors := rfl
@[simp] theorem State.setRx_params (k : LinkId) (rx : RxState) : (s.setRx k rx).params = s.params := rfl
@[simp] theorem State.setRx_cycle (k : LinkId) (rx : RxState) : (s.setRx k rx).cycle = s.cycle := rfl
@[simp] theorem State.setRx_alloc (k : LinkId) (rx : RxState) : (s.setRx k rx).alloc = s.alloc := rfl
@[simp] theorem State.setRx_burst (k : LinkId) (rx : RxState) : (s.setRx k rx).burst = s.burst := rfl
@[simp] theorem State.setRx_lines (k : LinkId) (rx : RxState) : (s.setRx k rx).lines = s.lines := rfl
@[simp] theorem State.setRx_ports (k : LinkId) (rx : RxState) : (s.setRx k rx).ports = s.ports.set k { s.port k with rx := rx } := rfl
@[simp] theorem State.setRx_alerts (k : LinkId) (rx : RxState) : (s.setRx k rx).alerts = s.alerts := rfl
@[simp] theorem State.setRx_store (k : LinkId) (rx : RxState) : (s.setRx k rx).store = s.store := rfl

/-! ### Members of a `PerLink` -/

@[simp] theorem PerLink.get_set {α : Type} (r : PerLink α) (k j : LinkId) (x : α) :
    (r.set k x).get j = if j = k then x else r.get j := by
  cases k <;> cases j <;> simp [PerLink.set, PerLink.get]

@[simp] theorem PerLink.get_map {α : Type} (f : α → α) (r : PerLink α) (k : LinkId) : (r.map f).get k = f (r.get k) := by
  cases k <;> simp [PerLink.map, PerLink.get]

theorem PerLink.ext_get {α : Type} {r q : PerLink α} (h : ∀ k, r.get k = q.get k) : r = q := by
  have hs : r.shelf = q.shelf := h .shelf
  have hb : r.bays = q.bays := Row8.ext_get fun i => h (.bay i)
  cases r; cases q; simp_all

@[simp] theorem PerLink.set_get {α : Type} (r : PerLink α) (k : LinkId) : r.set k (r.get k) = r :=
  PerLink.ext_get fun j => by
    rw [PerLink.get_set]
    split
    · next h => rw [h]
    · rfl

@[simp] theorem PerLink.set_set {α : Type} (r : PerLink α) (k : LinkId) (x y : α) : (r.set k x).set k y = r.set k y :=
  PerLink.ext_get fun j => by simp only [PerLink.get_set]; split <;> rfl

@[simp] theorem Row8.set_get {α : Type} (r : Row8 α) (i : Fin 8) : r.set i (r.get i) = r :=
  Row8.ext_get fun j => by
    rw [Row8.get_set]
    split
    · next h => rw [h]
    · rfl

@[simp] theorem Row8.set_set {α : Type} (r : Row8 α) (i : Fin 8) (x y : α) : (r.set i x).set i y = r.set i y :=
  Row8.ext_get fun j => by simp only [Row8.get_set]; split <;> rfl

/-! ### Ports and alert states under the setters -/

@[simp] theorem State.setNow_port (x : Nat) (k : LinkId) : (s.setNow x).port k = s.port k := rfl
@[simp] theorem State.setNow_alert (x : Nat) (k : LinkId) : (s.setNow x).alert k = s.alert k := rfl
@[simp] theorem State.setInReset_port (x : Bool) (k : LinkId) : (s.setInReset x).port k = s.port k := rfl
@[simp] theorem State.setInReset_alert (x : Bool) (k : LinkId) : (s.setInReset x).alert k = s.alert k := rfl
@[simp] theorem State.setArmed_port (x : Bool) (k : LinkId) : (s.setArmed x).port k = s.port k := rfl
@[simp] theorem State.setArmed_alert (x : Bool) (k : LinkId) : (s.setArmed x).alert k = s.alert k := rfl
@[simp] theorem State.setCapture_port (x : Row8 Decoder) (k : LinkId) : (s.setCapture x).port k = s.port k := rfl
@[simp] theorem State.setCapture_alert (x : Row8 Decoder) (k : LinkId) : (s.setCapture x).alert k = s.alert k := rfl
@[simp] theorem State.setSensors_port (x : Row8 SensorRec) (k : LinkId) : (s.setSensors x).port k = s.port k := rfl
@[simp] theorem State.setSensors_alert (x : Row8 SensorRec) (k : LinkId) : (s.setSensors x).alert k = s.alert k := rfl
@[simp] theorem State.setParams_port (x : SensorParams) (k : LinkId) : (s.setParams x).port k = s.port k := rfl
@[simp] theorem State.setParams_alert (x : SensorParams) (k : LinkId) : (s.setParams x).alert k = s.alert k := rfl
@[simp] theorem State.setCycle_port (x : CycleTimer) (k : LinkId) : (s.setCycle x).port k = s.port k := rfl
@[simp] theorem State.setCycle_alert (x : CycleTimer) (k : LinkId) : (s.setCycle x).alert k = s.alert k := rfl
@[simp] theorem State.setAlloc_port (x : Allocator) (k : LinkId) : (s.setAlloc x).port k = s.port k := rfl
@[simp] theorem State.setAlloc_alert (x : Allocator) (k : LinkId) : (s.setAlloc x).alert k = s.alert k := rfl
@[simp] theorem State.setBurst_port (x : BurstUnit) (k : LinkId) : (s.setBurst x).port k = s.port k := rfl
@[simp] theorem State.setBurst_alert (x : BurstUnit) (k : LinkId) : (s.setBurst x).alert k = s.alert k := rfl
@[simp] theorem State.setLines_port (x : Row8 Line) (k : LinkId) : (s.setLines x).port k = s.port k := rfl
@[simp] theorem State.setLines_alert (x : Row8 Line) (k : LinkId) : (s.setLines x).alert k = s.alert k := rfl
@[simp] theorem State.setPorts_alert (x : PerLink Port) (k : LinkId) : (s.setPorts x).alert k = s.alert k := rfl
@[simp] theorem State.setAlerts_port (x : PerLink AlertState) (k : LinkId) : (s.setAlerts x).port k = s.port k := rfl
@[simp] theorem State.setStore_port (x : ProfileStore) (k : LinkId) : (s.setStore x).port k = s.port k := rfl
@[simp] theorem State.setStore_alert (x : ProfileStore) (k : LinkId) : (s.setStore x).alert k = s.alert k := rfl
@[simp] theorem State.advance_port (t : Nat) (j : LinkId) : (s.advance t).port j = s.port j := rfl
@[simp] theorem State.advance_alert (t : Nat) (j : LinkId) : (s.advance t).alert j = s.alert j := rfl
@[simp] theorem State.setPort_alert (k : LinkId) (p : Port) (j : LinkId) : (s.setPort k p).alert j = s.alert j := rfl
@[simp] theorem State.setAlert_port (k : LinkId) (a : AlertState) (j : LinkId) : (s.setAlert k a).port j = s.port j := rfl
@[simp] theorem State.setDecoder_port (n : Bay) (d : Decoder) (j : LinkId) : (s.setDecoder n d).port j = s.port j := rfl
@[simp] theorem State.setDecoder_alert (n : Bay) (d : Decoder) (j : LinkId) : (s.setDecoder n d).alert j = s.alert j := rfl
@[simp] theorem State.setSensor_port (n : Bay) (r : SensorRec) (j : LinkId) : (s.setSensor n r).port j = s.port j := rfl
@[simp] theorem State.setSensor_alert (n : Bay) (r : SensorRec) (j : LinkId) : (s.setSensor n r).alert j = s.alert j := rfl
@[simp] theorem State.setLine_port (n : Bay) (l : Line) (j : LinkId) : (s.setLine n l).port j = s.port j := rfl
@[simp] theorem State.setLine_alert (n : Bay) (l : Line) (j : LinkId) : (s.setLine n l).alert j = s.alert j := rfl
@[simp] theorem State.setRx_alert (k : LinkId) (rx : RxState) (j : LinkId) : (s.setRx k rx).alert j = s.alert j := rfl

@[simp] theorem State.setPort_port (k j : LinkId) (p : Port) :
    (s.setPort k p).port j = if j = k then p else s.port j := by simp [State.port]

@[simp] theorem State.setRx_port (k j : LinkId) (rx : RxState) :
    (s.setRx k rx).port j = if j = k then { s.port k with rx := rx } else s.port j := by simp [State.port]

@[simp] theorem State.setAlert_alert (k j : LinkId) (a : AlertState) :
    (s.setAlert k a).alert j = if j = k then a else s.alert j := by simp [State.alert]

@[simp] theorem State.setPort_setPort (k : LinkId) (p q : Port) : (s.setPort k p).setPort k q = s.setPort k q := by
  simp [State.setPort, State.setPorts]

@[simp] theorem State.advance_setPort (k : LinkId) (p : Port) (t : Nat) :
    (s.setPort k p).advance t = (s.advance t).setPort k p := by cases s; rfl

@[simp] theorem State.advance_setAlert (k : LinkId) (a : AlertState) (t : Nat) :
    (s.setAlert k a).advance t = (s.advance t).setAlert k a := by cases s; rfl

/-- The clock moves to the later of two instants. -/
@[simp] theorem State.advance_advance (t u : Nat) : (s.advance t).advance u = s.advance (max t u) := by
  simp [State.advance, State.setNow, Nat.max_assoc]

/-- The clock never goes back (log 1). -/
theorem State.advance_past {t : Nat} (h : t ≤ s.now) : s.advance t = s := by
  simp [State.advance, State.setNow, Nat.max_eq_left h]

@[simp] theorem State.setPort_self (k : LinkId) : s.setPort k (s.port k) = s := by
  simp [State.setPort, State.setPorts, State.port]

@[simp] theorem State.setAlert_setAlert (k : LinkId) (a b : AlertState) :
    (s.setAlert k a).setAlert k b = s.setAlert k b := by
  simp [State.setAlert, State.setAlerts]

@[simp] theorem State.setDecoder_setDecoder (n : Bay) (d e : Decoder) :
    (s.setDecoder n d).setDecoder n e = s.setDecoder n e := by
  simp [State.setDecoder, State.setCapture]

/-! ### Lookups that read only the store -/

@[simp] theorem State.setNow_bindings (x : Nat) : (s.setNow x).bindings = s.bindings := rfl
@[simp] theorem State.setNow_bayBlock (x : Nat) (m : Bay) : (s.setNow x).bayBlock m = s.bayBlock m := rfl
@[simp] theorem State.setNow_occupied (x : Nat) (m : Bay) : (s.setNow x).occupied m = s.occupied m := rfl
@[simp] theorem State.setInReset_bindings (x : Bool) : (s.setInReset x).bindings = s.bindings := rfl
@[simp] theorem State.setInReset_bayBlock (x : Bool) (m : Bay) : (s.setInReset x).bayBlock m = s.bayBlock m := rfl
@[simp] theorem State.setInReset_occupied (x : Bool) (m : Bay) : (s.setInReset x).occupied m = s.occupied m := rfl
@[simp] theorem State.setArmed_bindings (x : Bool) : (s.setArmed x).bindings = s.bindings := rfl
@[simp] theorem State.setArmed_bayBlock (x : Bool) (m : Bay) : (s.setArmed x).bayBlock m = s.bayBlock m := rfl
@[simp] theorem State.setArmed_occupied (x : Bool) (m : Bay) : (s.setArmed x).occupied m = s.occupied m := rfl
@[simp] theorem State.setCapture_bindings (x : Row8 Decoder) : (s.setCapture x).bindings = s.bindings := rfl
@[simp] theorem State.setCapture_bayBlock (x : Row8 Decoder) (m : Bay) : (s.setCapture x).bayBlock m = s.bayBlock m := rfl
@[simp] theorem State.setCapture_occupied (x : Row8 Decoder) (m : Bay) : (s.setCapture x).occupied m = s.occupied m := rfl
@[simp] theorem State.setSensors_bindings (x : Row8 SensorRec) : (s.setSensors x).bindings = s.bindings := rfl
@[simp] theorem State.setSensors_bayBlock (x : Row8 SensorRec) (m : Bay) : (s.setSensors x).bayBlock m = s.bayBlock m := rfl
@[simp] theorem State.setSensors_occupied (x : Row8 SensorRec) (m : Bay) : (s.setSensors x).occupied m = s.occupied m := rfl
@[simp] theorem State.setParams_bindings (x : SensorParams) : (s.setParams x).bindings = s.bindings := rfl
@[simp] theorem State.setParams_bayBlock (x : SensorParams) (m : Bay) : (s.setParams x).bayBlock m = s.bayBlock m := rfl
@[simp] theorem State.setParams_occupied (x : SensorParams) (m : Bay) : (s.setParams x).occupied m = s.occupied m := rfl
@[simp] theorem State.setCycle_bindings (x : CycleTimer) : (s.setCycle x).bindings = s.bindings := rfl
@[simp] theorem State.setCycle_bayBlock (x : CycleTimer) (m : Bay) : (s.setCycle x).bayBlock m = s.bayBlock m := rfl
@[simp] theorem State.setCycle_occupied (x : CycleTimer) (m : Bay) : (s.setCycle x).occupied m = s.occupied m := rfl
@[simp] theorem State.setAlloc_bindings (x : Allocator) : (s.setAlloc x).bindings = s.bindings := rfl
@[simp] theorem State.setAlloc_bayBlock (x : Allocator) (m : Bay) : (s.setAlloc x).bayBlock m = s.bayBlock m := rfl
@[simp] theorem State.setAlloc_occupied (x : Allocator) (m : Bay) : (s.setAlloc x).occupied m = s.occupied m := rfl
@[simp] theorem State.setBurst_bindings (x : BurstUnit) : (s.setBurst x).bindings = s.bindings := rfl
@[simp] theorem State.setBurst_bayBlock (x : BurstUnit) (m : Bay) : (s.setBurst x).bayBlock m = s.bayBlock m := rfl
@[simp] theorem State.setBurst_occupied (x : BurstUnit) (m : Bay) : (s.setBurst x).occupied m = s.occupied m := rfl
@[simp] theorem State.setLines_bindings (x : Row8 Line) : (s.setLines x).bindings = s.bindings := rfl
@[simp] theorem State.setLines_bayBlock (x : Row8 Line) (m : Bay) : (s.setLines x).bayBlock m = s.bayBlock m := rfl
@[simp] theorem State.setLines_occupied (x : Row8 Line) (m : Bay) : (s.setLines x).occupied m = s.occupied m := rfl
@[simp] theorem State.setPorts_bindings (x : PerLink Port) : (s.setPorts x).bindings = s.bindings := rfl
@[simp] theorem State.setPorts_bayBlock (x : PerLink Port) (m : Bay) : (s.setPorts x).bayBlock m = s.bayBlock m := rfl
@[simp] theorem State.setPorts_occupied (x : PerLink Port) (m : Bay) : (s.setPorts x).occupied m = s.occupied m := rfl
@[simp] theorem State.setAlerts_bindings (x : PerLink AlertState) : (s.setAlerts x).bindings = s.bindings := rfl
@[simp] theorem State.setAlerts_bayBlock (x : PerLink AlertState) (m : Bay) : (s.setAlerts x).bayBlock m = s.bayBlock m := rfl
@[simp] theorem State.setAlerts_occupied (x : PerLink AlertState) (m : Bay) : (s.setAlerts x).occupied m = s.occupied m := rfl
@[simp] theorem State.advance_bindings (t : Nat) : (s.advance t).bindings = s.bindings := rfl
@[simp] theorem State.advance_bayBlock (t : Nat) (m : Bay) : (s.advance t).bayBlock m = s.bayBlock m := rfl
@[simp] theorem State.advance_occupied (t : Nat) (m : Bay) : (s.advance t).occupied m = s.occupied m := rfl
@[simp] theorem State.setPort_bindings (k : LinkId) (p : Port) : (s.setPort k p).bindings = s.bindings := rfl
@[simp] theorem State.setPort_bayBlock (k : LinkId) (p : Port) (m : Bay) : (s.setPort k p).bayBlock m = s.bayBlock m := rfl
@[simp] theorem State.setPort_occupied (k : LinkId) (p : Port) (m : Bay) : (s.setPort k p).occupied m = s.occupied m := rfl
@[simp] theorem State.setAlert_bindings (k : LinkId) (a : AlertState) : (s.setAlert k a).bindings = s.bindings := rfl
@[simp] theorem State.setAlert_bayBlock (k : LinkId) (a : AlertState) (m : Bay) : (s.setAlert k a).bayBlock m = s.bayBlock m := rfl
@[simp] theorem State.setAlert_occupied (k : LinkId) (a : AlertState) (m : Bay) : (s.setAlert k a).occupied m = s.occupied m := rfl
@[simp] theorem State.setDecoder_bindings (n : Bay) (d : Decoder) : (s.setDecoder n d).bindings = s.bindings := rfl
@[simp] theorem State.setDecoder_bayBlock (n : Bay) (d : Decoder) (m : Bay) : (s.setDecoder n d).bayBlock m = s.bayBlock m := rfl
@[simp] theorem State.setDecoder_occupied (n : Bay) (d : Decoder) (m : Bay) : (s.setDecoder n d).occupied m = s.occupied m := rfl
@[simp] theorem State.setSensor_bindings (n : Bay) (r : SensorRec) : (s.setSensor n r).bindings = s.bindings := rfl
@[simp] theorem State.setSensor_bayBlock (n : Bay) (r : SensorRec) (m : Bay) : (s.setSensor n r).bayBlock m = s.bayBlock m := rfl
@[simp] theorem State.setSensor_occupied (n : Bay) (r : SensorRec) (m : Bay) : (s.setSensor n r).occupied m = s.occupied m := rfl
@[simp] theorem State.setLine_bindings (n : Bay) (l : Line) : (s.setLine n l).bindings = s.bindings := rfl
@[simp] theorem State.setLine_bayBlock (n : Bay) (l : Line) (m : Bay) : (s.setLine n l).bayBlock m = s.bayBlock m := rfl
@[simp] theorem State.setLine_occupied (n : Bay) (l : Line) (m : Bay) : (s.setLine n l).occupied m = s.occupied m := rfl
@[simp] theorem State.setRx_bindings (k : LinkId) (rx : RxState) : (s.setRx k rx).bindings = s.bindings := rfl
@[simp] theorem State.setRx_bayBlock (k : LinkId) (rx : RxState) (m : Bay) : (s.setRx k rx).bayBlock m = s.bayBlock m := rfl
@[simp] theorem State.setRx_occupied (k : LinkId) (rx : RxState) (m : Bay) : (s.setRx k rx).occupied m = s.occupied m := rfl

end Sys2Proof.Machine
end

