-- ==== Sys2Proof/Laws/Alerts.lean ====
section
/-! SUPPORT. The raising of causes: what it does to the alert states, and that it touches nothing else. -/

namespace Sys2Proof.Machine

variable (s : State)

/-! ### Raising touches the alert states alone -/

@[simp] theorem State.raiseShelf_pending (c : ShelfCause) (v : Flags8) : (s.raiseShelf c v).pending = s.pending := rfl
@[simp] theorem State.raiseShelf_now (c : ShelfCause) (v : Flags8) : (s.raiseShelf c v).now = s.now := rfl
@[simp] theorem State.raiseShelf_inReset (c : ShelfCause) (v : Flags8) : (s.raiseShelf c v).inReset = s.inReset := rfl
@[simp] theorem State.raiseShelf_shelfResetArmed (c : ShelfCause) (v : Flags8) : (s.raiseShelf c v).shelfResetArmed = s.shelfResetArmed := rfl
@[simp] theorem State.raiseShelf_capture (c : ShelfCause) (v : Flags8) : (s.raiseShelf c v).capture = s.capture := rfl
@[simp] theorem State.raiseShelf_sensors (c : ShelfCause) (v : Flags8) : (s.raiseShelf c v).sensors = s.sensors := rfl
@[simp] theorem State.raiseShelf_params (c : ShelfCause) (v : Flags8) : (s.raiseShelf c v).params = s.params := rfl
@[simp] theorem State.raiseShelf_cycle (c : ShelfCause) (v : Flags8) : (s.raiseShelf c v).cycle = s.cycle := rfl
@[simp] theorem State.raiseShelf_alloc (c : ShelfCause) (v : Flags8) : (s.raiseShelf c v).alloc = s.alloc := rfl
@[simp] theorem State.raiseShelf_burst (c : ShelfCause) (v : Flags8) : (s.raiseShelf c v).burst = s.burst := rfl
@[simp] theorem State.raiseShelf_lines (c : ShelfCause) (v : Flags8) : (s.raiseShelf c v).lines = s.lines := rfl
@[simp] theorem State.raiseShelf_ports (c : ShelfCause) (v : Flags8) : (s.raiseShelf c v).ports = s.ports := rfl
@[simp] theorem State.raiseShelf_store (c : ShelfCause) (v : Flags8) : (s.raiseShelf c v).store = s.store := rfl
@[simp] theorem State.raiseShelf_port (c : ShelfCause) (v : Flags8) (k : LinkId) : (s.raiseShelf c v).port k = s.port k := by simp [State.port]
@[simp] theorem State.raiseShelf_bindings (c : ShelfCause) (v : Flags8) : (s.raiseShelf c v).bindings = s.bindings := by simp [State.bindings]
@[simp] theorem State.raiseShelf_bayBlock (c : ShelfCause) (v : Flags8) (m : Bay) : (s.raiseShelf c v).bayBlock m = s.bayBlock m := by simp [State.bayBlock]
@[simp] theorem State.raiseShelf_occupied (c : ShelfCause) (v : Flags8) (m : Bay) : (s.raiseShelf c v).occupied m = s.occupied m := by simp [State.occupied]

@[simp] theorem State.raiseServing_pending (b : Row8 (List Bay)) (n : Bay) (c : BayCause) (r : BitVec 2) : (s.raiseServing b n c r).pending = s.pending := by
  unfold State.raiseServing; split <;> rfl
@[simp] theorem State.raiseServing_now (b : Row8 (List Bay)) (n : Bay) (c : BayCause) (r : BitVec 2) : (s.raiseServing b n c r).now = s.now := by
  unfold State.raiseServing; split <;> rfl
@[simp] theorem State.raiseServing_inReset (b : Row8 (List Bay)) (n : Bay) (c : BayCause) (r : BitVec 2) : (s.raiseServing b n c r).inReset = s.inReset := by
  unfold State.raiseServing; split <;> rfl
@[simp] theorem State.raiseServing_shelfResetArmed (b : Row8 (List Bay)) (n : Bay) (c : BayCause) (r : BitVec 2) : (s.raiseServing b n c r).shelfResetArmed = s.shelfResetArmed := by
  unfold State.raiseServing; split <;> rfl
@[simp] theorem State.raiseServing_capture (b : Row8 (List Bay)) (n : Bay) (c : BayCause) (r : BitVec 2) : (s.raiseServing b n c r).capture = s.capture := by
  unfold State.raiseServing; split <;> rfl
@[simp] theorem State.raiseServing_sensors (b : Row8 (List Bay)) (n : Bay) (c : BayCause) (r : BitVec 2) : (s.raiseServing b n c r).sensors = s.sensors := by
  unfold State.raiseServing; split <;> rfl
@[simp] theorem State.raiseServing_params (b : Row8 (List Bay)) (n : Bay) (c : BayCause) (r : BitVec 2) : (s.raiseServing b n c r).params = s.params := by
  unfold State.raiseServing; split <;> rfl
@[simp] theorem State.raiseServing_cycle (b : Row8 (List Bay)) (n : Bay) (c : BayCause) (r : BitVec 2) : (s.raiseServing b n c r).cycle = s.cycle := by
  unfold State.raiseServing; split <;> rfl
@[simp] theorem State.raiseServing_alloc (b : Row8 (List Bay)) (n : Bay) (c : BayCause) (r : BitVec 2) : (s.raiseServing b n c r).alloc = s.alloc := by
  unfold State.raiseServing; split <;> rfl
@[simp] theorem State.raiseServing_burst (b : Row8 (List Bay)) (n : Bay) (c : BayCause) (r : BitVec 2) : (s.raiseServing b n c r).burst = s.burst := by
  unfold State.raiseServing; split <;> rfl
@[simp] theorem State.raiseServing_lines (b : Row8 (List Bay)) (n : Bay) (c : BayCause) (r : BitVec 2) : (s.raiseServing b n c r).lines = s.lines := by
  unfold State.raiseServing; split <;> rfl
@[simp] theorem State.raiseServing_ports (b : Row8 (List Bay)) (n : Bay) (c : BayCause) (r : BitVec 2) : (s.raiseServing b n c r).ports = s.ports := by
  unfold State.raiseServing; split <;> rfl
@[simp] theorem State.raiseServing_store (b : Row8 (List Bay)) (n : Bay) (c : BayCause) (r : BitVec 2) : (s.raiseServing b n c r).store = s.store := by
  unfold State.raiseServing; split <;> rfl
@[simp] theorem State.raiseServing_port (b : Row8 (List Bay)) (n : Bay) (c : BayCause) (r : BitVec 2) (k : LinkId) : (s.raiseServing b n c r).port k = s.port k := by simp [State.port]
@[simp] theorem State.raiseServing_bindings (b : Row8 (List Bay)) (n : Bay) (c : BayCause) (r : BitVec 2) : (s.raiseServing b n c r).bindings = s.bindings := by simp [State.bindings]
@[simp] theorem State.raiseServing_bayBlock (b : Row8 (List Bay)) (n : Bay) (c : BayCause) (r : BitVec 2) (m : Bay) : (s.raiseServing b n c r).bayBlock m = s.bayBlock m := by simp [State.bayBlock]
@[simp] theorem State.raiseServing_occupied (b : Row8 (List Bay)) (n : Bay) (c : BayCause) (r : BitVec 2) (m : Bay) : (s.raiseServing b n c r).occupied m = s.occupied m := by simp [State.occupied]

theorem State.raiseEach_nil (b : Row8 (List Bay)) (c : BayCause) (r : BitVec 2) : s.raiseEach b [] c r = s := rfl

theorem State.raiseEach_cons (b : Row8 (List Bay)) (n : Bay) (l : List Bay) (c : BayCause) (r : BitVec 2) :
    s.raiseEach b (n :: l) c r = (s.raiseServing b n c r).raiseEach b l c r := rfl

@[simp] theorem State.raiseEach_pending (b : Row8 (List Bay)) (l : List Bay) (c : BayCause) (r : BitVec 2) : (s.raiseEach b l c r).pending = s.pending := by
  induction l generalizing s with
  | nil => rfl
  | cons n l ih => rw [State.raiseEach_cons, ih, State.raiseServing_pending]
@[simp] theorem State.raiseEach_now (b : Row8 (List Bay)) (l : List Bay) (c : BayCause) (r : BitVec 2) : (s.raiseEach b l c r).now = s.now := by
  induction l generalizing s with
  | nil => rfl
  | cons n l ih => rw [State.raiseEach_cons, ih, State.raiseServing_now]
@[simp] theorem State.raiseEach_inReset (b : Row8 (List Bay)) (l : List Bay) (c : BayCause) (r : BitVec 2) : (s.raiseEach b l c r).inReset = s.inReset := by
  induction l generalizing s with
  | nil => rfl
  | cons n l ih => rw [State.raiseEach_cons, ih, State.raiseServing_inReset]
@[simp] theorem State.raiseEach_shelfResetArmed (b : Row8 (List Bay)) (l : List Bay) (c : BayCause) (r : BitVec 2) : (s.raiseEach b l c r).shelfResetArmed = s.shelfResetArmed := by
  induction l generalizing s with
  | nil => rfl
  | cons n l ih => rw [State.raiseEach_cons, ih, State.raiseServing_shelfResetArmed]
@[simp] theorem State.raiseEach_capture (b : Row8 (List Bay)) (l : List Bay) (c : BayCause) (r : BitVec 2) : (s.raiseEach b l c r).capture = s.capture := by
  induction l generalizing s with
  | nil => rfl
  | cons n l ih => rw [State.raiseEach_cons, ih, State.raiseServing_capture]
@[simp] theorem State.raiseEach_sensors (b : Row8 (List Bay)) (l : List Bay) (c : BayCause) (r : BitVec 2) : (s.raiseEach b l c r).sensors = s.sensors := by
  induction l generalizing s with
  | nil => rfl
  | cons n l ih => rw [State.raiseEach_cons, ih, State.raiseServing_sensors]
@[simp] theorem State.raiseEach_params (b : Row8 (List Bay)) (l : List Bay) (c : BayCause) (r : BitVec 2) : (s.raiseEach b l c r).params = s.params := by
  induction l generalizing s with
  | nil => rfl
  | cons n l ih => rw [State.raiseEach_cons, ih, State.raiseServing_params]
@[simp] theorem State.raiseEach_cycle (b : Row8 (List Bay)) (l : List Bay) (c : BayCause) (r : BitVec 2) : (s.raiseEach b l c r).cycle = s.cycle := by
  induction l generalizing s with
  | nil => rfl
  | cons n l ih => rw [State.raiseEach_cons, ih, State.raiseServing_cycle]
@[simp] theorem State.raiseEach_alloc (b : Row8 (List Bay)) (l : List Bay) (c : BayCause) (r : BitVec 2) : (s.raiseEach b l c r).alloc = s.alloc := by
  induction l generalizing s with
  | nil => rfl
  | cons n l ih => rw [State.raiseEach_cons, ih, State.raiseServing_alloc]
@[simp] theorem State.raiseEach_burst (b : Row8 (List Bay)) (l : List Bay) (c : BayCause) (r : BitVec 2) : (s.raiseEach b l c r).burst = s.burst := by
  induction l generalizing s with
  | nil => rfl
  | cons n l ih => rw [State.raiseEach_cons, ih, State.raiseServing_burst]
@[simp] theorem State.raiseEach_lines (b : Row8 (List Bay)) (l : List Bay) (c : BayCause) (r : BitVec 2) : (s.raiseEach b l c r).lines = s.lines := by
  induction l generalizing s with
  | nil => rfl
  | cons n l ih => rw [State.raiseEach_cons, ih, State.raiseServing_lines]
@[simp] theorem State.raiseEach_ports (b : Row8 (List Bay)) (l : List Bay) (c : BayCause) (r : BitVec 2) : (s.raiseEach b l c r).ports = s.ports := by
  induction l generalizing s with
  | nil => rfl
  | cons n l ih => rw [State.raiseEach_cons, ih, State.raiseServing_ports]
@[simp] theorem State.raiseEach_store (b : Row8 (List Bay)) (l : List Bay) (c : BayCause) (r : BitVec 2) : (s.raiseEach b l c r).store = s.store := by
  induction l generalizing s with
  | nil => rfl
  | cons n l ih => rw [State.raiseEach_cons, ih, State.raiseServing_store]
@[simp] theorem State.raiseEach_port (b : Row8 (List Bay)) (l : List Bay) (c : BayCause) (r : BitVec 2) (k : LinkId) : (s.raiseEach b l c r).port k = s.port k := by simp [State.port]
@[simp] theorem State.raiseEach_bindings (b : Row8 (List Bay)) (l : List Bay) (c : BayCause) (r : BitVec 2) : (s.raiseEach b l c r).bindings = s.bindings := by simp [State.bindings]
@[simp] theorem State.raiseEach_bayBlock (b : Row8 (List Bay)) (l : List Bay) (c : BayCause) (r : BitVec 2) (m : Bay) : (s.raiseEach b l c r).bayBlock m = s.bayBlock m := by simp [State.bayBlock]
@[simp] theorem State.raiseEach_occupied (b : Row8 (List Bay)) (l : List Bay) (c : BayCause) (r : BitVec 2) (m : Bay) : (s.raiseEach b l c r).occupied m = s.occupied m := by simp [State.occupied]

/-! ### What a raising leaves held (R172) -/

/-- A raising leaves masks and groups as they were, and holds something for the raised cause alone beside what was held. -/
theorem AlertState.raise_spec (a : AlertState) (c : Fin 8) (v : Flags8) (r : BitVec 2) :
    (a.raise c v r).mask = a.mask ∧ (a.raise c v r).groups = a.groups ∧
      (a.raise c v r).pendingCauses.get c = some (Raised.merge (a.pendingCauses.get c) v r) ∧
      ∀ d, d ≠ c → (a.raise c v r).pendingCauses.get d = a.pendingCauses.get d := by
  refine ⟨rfl, rfl, by simp [AlertState.raise], fun d hd => by simp [AlertState.raise, hd]⟩

@[simp] theorem AlertState.raise_mask (a : AlertState) (c : Fin 8) (v : Flags8) (r : BitVec 2) :
    (a.raise c v r).mask = a.mask := rfl

@[simp] theorem AlertState.raise_groups (a : AlertState) (c : Fin 8) (v : Flags8) (r : BitVec 2) :
    (a.raise c v r).groups = a.groups := rfl

@[simp] theorem AlertState.raise_pending (a : AlertState) (c d : Fin 8) (v : Flags8) (r : BitVec 2) :
    (a.raise c v r).pendingCauses.get d =
      if d = c then some (Raised.merge (a.pendingCauses.get c) v r) else a.pendingCauses.get d := by
  simp [AlertState.raise]

@[simp] theorem State.raiseShelf_alert (c : ShelfCause) (v : Flags8) (k : LinkId) :
    (s.raiseShelf c v).alert k = if k = .shelf then (s.alert .shelf).raise c.number v 0 else s.alert k := by
  simp [State.raiseShelf]

/-- Where a raising for a bay goes: the link that serves the bay under the given bindings, or nowhere. -/
theorem State.raiseServing_alert (b : Row8 (List Bay)) (n : Bay) (c : BayCause) (r : BitVec 2) (k : LinkId) :
    (s.raiseServing b n c r).alert k =
      match servingLink b n with
      | some (i, sel) => if k = .bay i then (s.alert (.bay i)).raise c.number (1#8 <<< sel.val) r else s.alert k
      | none => s.alert k := by
  unfold State.raiseServing
  cases servingLink b n with
  | none => rfl
  | some p => simp

end Sys2Proof.Machine
end

