-- ==== Sys2Proof/Laws/Sensing.lean ====
section
/-! SUPPORT. What the operations of the sensing path leave untouched (Chapters 1 and 2). -/

namespace Sys2Proof.Machine

variable (s : State)

/-! ### Sensor Monitor -/

@[simp] theorem State.raiseSensor_pending (n : Bay) : (s.raiseSensor n).pending = s.pending := by simp [State.raiseSensor]
@[simp] theorem State.raiseSensor_now (n : Bay) : (s.raiseSensor n).now = s.now := by simp [State.raiseSensor]
@[simp] theorem State.raiseSensor_inReset (n : Bay) : (s.raiseSensor n).inReset = s.inReset := by simp [State.raiseSensor]
@[simp] theorem State.raiseSensor_shelfResetArmed (n : Bay) : (s.raiseSensor n).shelfResetArmed = s.shelfResetArmed := by simp [State.raiseSensor]
@[simp] theorem State.raiseSensor_capture (n : Bay) : (s.raiseSensor n).capture = s.capture := by simp [State.raiseSensor]
@[simp] theorem State.raiseSensor_sensors (n : Bay) : (s.raiseSensor n).sensors = s.sensors := by simp [State.raiseSensor]
@[simp] theorem State.raiseSensor_params (n : Bay) : (s.raiseSensor n).params = s.params := by simp [State.raiseSensor]
@[simp] theorem State.raiseSensor_cycle (n : Bay) : (s.raiseSensor n).cycle = s.cycle := by simp [State.raiseSensor]
@[simp] theorem State.raiseSensor_alloc (n : Bay) : (s.raiseSensor n).alloc = s.alloc := by simp [State.raiseSensor]
@[simp] theorem State.raiseSensor_burst (n : Bay) : (s.raiseSensor n).burst = s.burst := by simp [State.raiseSensor]
@[simp] theorem State.raiseSensor_lines (n : Bay) : (s.raiseSensor n).lines = s.lines := by simp [State.raiseSensor]
@[simp] theorem State.raiseSensor_ports (n : Bay) : (s.raiseSensor n).ports = s.ports := by simp [State.raiseSensor]
@[simp] theorem State.raiseSensor_store (n : Bay) : (s.raiseSensor n).store = s.store := by simp [State.raiseSensor]
@[simp] theorem State.raiseSensor_port (n : Bay) (q : LinkId) : (s.raiseSensor n).port q = s.port q := by simp [State.port]
@[simp] theorem State.raiseSensor_bindings (n : Bay) : (s.raiseSensor n).bindings = s.bindings := by simp [State.bindings]
@[simp] theorem State.raiseSensor_bayBlock (n : Bay) (m : Bay) : (s.raiseSensor n).bayBlock m = s.bayBlock m := by simp [State.bayBlock]
@[simp] theorem State.raiseSensor_occupied (n : Bay) (m : Bay) : (s.raiseSensor n).occupied m = s.occupied m := by simp [State.occupied]

@[simp] theorem State.updateSensor_pending (n : Bay) (r : SensorRec) (j : Bool) : (s.updateSensor n r j).pending = s.pending := by unfold State.updateSensor; split <;> simp
@[simp] theorem State.updateSensor_now (n : Bay) (r : SensorRec) (j : Bool) : (s.updateSensor n r j).now = s.now := by unfold State.updateSensor; split <;> simp
@[simp] theorem State.updateSensor_inReset (n : Bay) (r : SensorRec) (j : Bool) : (s.updateSensor n r j).inReset = s.inReset := by unfold State.updateSensor; split <;> simp
@[simp] theorem State.updateSensor_shelfResetArmed (n : Bay) (r : SensorRec) (j : Bool) : (s.updateSensor n r j).shelfResetArmed = s.shelfResetArmed := by unfold State.updateSensor; split <;> simp
@[simp] theorem State.updateSensor_capture (n : Bay) (r : SensorRec) (j : Bool) : (s.updateSensor n r j).capture = s.capture := by unfold State.updateSensor; split <;> simp
@[simp] theorem State.updateSensor_params (n : Bay) (r : SensorRec) (j : Bool) : (s.updateSensor n r j).params = s.params := by unfold State.updateSensor; split <;> simp
@[simp] theorem State.updateSensor_cycle (n : Bay) (r : SensorRec) (j : Bool) : (s.updateSensor n r j).cycle = s.cycle := by unfold State.updateSensor; split <;> simp
@[simp] theorem State.updateSensor_alloc (n : Bay) (r : SensorRec) (j : Bool) : (s.updateSensor n r j).alloc = s.alloc := by unfold State.updateSensor; split <;> simp
@[simp] theorem State.updateSensor_burst (n : Bay) (r : SensorRec) (j : Bool) : (s.updateSensor n r j).burst = s.burst := by unfold State.updateSensor; split <;> simp
@[simp] theorem State.updateSensor_lines (n : Bay) (r : SensorRec) (j : Bool) : (s.updateSensor n r j).lines = s.lines := by unfold State.updateSensor; split <;> simp
@[simp] theorem State.updateSensor_ports (n : Bay) (r : SensorRec) (j : Bool) : (s.updateSensor n r j).ports = s.ports := by unfold State.updateSensor; split <;> simp
@[simp] theorem State.updateSensor_store (n : Bay) (r : SensorRec) (j : Bool) : (s.updateSensor n r j).store = s.store := by unfold State.updateSensor; split <;> simp
@[simp] theorem State.updateSensor_port (n : Bay) (r : SensorRec) (j : Bool) (q : LinkId) : (s.updateSensor n r j).port q = s.port q := by simp [State.port]
@[simp] theorem State.updateSensor_bindings (n : Bay) (r : SensorRec) (j : Bool) : (s.updateSensor n r j).bindings = s.bindings := by simp [State.bindings]
@[simp] theorem State.updateSensor_bayBlock (n : Bay) (r : SensorRec) (j : Bool) (m : Bay) : (s.updateSensor n r j).bayBlock m = s.bayBlock m := by simp [State.bayBlock]
@[simp] theorem State.updateSensor_occupied (n : Bay) (r : SensorRec) (j : Bool) (m : Bay) : (s.updateSensor n r j).occupied m = s.occupied m := by simp [State.occupied]

@[simp] theorem State.overtemp_pending (n : Bay) : (s.overtemp n).pending = s.pending := by simp [State.overtemp]
@[simp] theorem State.overtemp_now (n : Bay) : (s.overtemp n).now = s.now := by simp [State.overtemp]
@[simp] theorem State.overtemp_inReset (n : Bay) : (s.overtemp n).inReset = s.inReset := by simp [State.overtemp]
@[simp] theorem State.overtemp_shelfResetArmed (n : Bay) : (s.overtemp n).shelfResetArmed = s.shelfResetArmed := by simp [State.overtemp]
@[simp] theorem State.overtemp_capture (n : Bay) : (s.overtemp n).capture = s.capture := by simp [State.overtemp]
@[simp] theorem State.overtemp_sensors (n : Bay) : (s.overtemp n).sensors = s.sensors := by simp [State.overtemp]
@[simp] theorem State.overtemp_params (n : Bay) : (s.overtemp n).params = s.params := by simp [State.overtemp]
@[simp] theorem State.overtemp_cycle (n : Bay) : (s.overtemp n).cycle = s.cycle := by simp [State.overtemp]
@[simp] theorem State.overtemp_alloc (n : Bay) : (s.overtemp n).alloc = s.alloc := by simp [State.overtemp]
@[simp] theorem State.overtemp_burst (n : Bay) : (s.overtemp n).burst = s.burst := by simp [State.overtemp]
@[simp] theorem State.overtemp_ports (n : Bay) : (s.overtemp n).ports = s.ports := by simp [State.overtemp]
@[simp] theorem State.overtemp_store (n : Bay) : (s.overtemp n).store = s.store := by simp [State.overtemp]
@[simp] theorem State.overtemp_port (n : Bay) (q : LinkId) : (s.overtemp n).port q = s.port q := by simp [State.port]
@[simp] theorem State.overtemp_bindings (n : Bay) : (s.overtemp n).bindings = s.bindings := by simp [State.bindings]
@[simp] theorem State.overtemp_bayBlock (n : Bay) (m : Bay) : (s.overtemp n).bayBlock m = s.bayBlock m := by simp [State.bayBlock]
@[simp] theorem State.overtemp_occupied (n : Bay) (m : Bay) : (s.overtemp n).occupied m = s.occupied m := by simp [State.occupied]

@[simp] theorem State.overtempTest_pending (n : Bay) (x : Nat) : (s.overtempTest n x).pending = s.pending := by unfold State.overtempTest; split <;> (try split) <;> simp
@[simp] theorem State.overtempTest_now (n : Bay) (x : Nat) : (s.overtempTest n x).now = s.now := by unfold State.overtempTest; split <;> (try split) <;> simp
@[simp] theorem State.overtempTest_inReset (n : Bay) (x : Nat) : (s.overtempTest n x).inReset = s.inReset := by unfold State.overtempTest; split <;> (try split) <;> simp
@[simp] theorem State.overtempTest_shelfResetArmed (n : Bay) (x : Nat) : (s.overtempTest n x).shelfResetArmed = s.shelfResetArmed := by unfold State.overtempTest; split <;> (try split) <;> simp
@[simp] theorem State.overtempTest_capture (n : Bay) (x : Nat) : (s.overtempTest n x).capture = s.capture := by unfold State.overtempTest; split <;> (try split) <;> simp
@[simp] theorem State.overtempTest_sensors (n : Bay) (x : Nat) : (s.overtempTest n x).sensors = s.sensors := by unfold State.overtempTest; split <;> (try split) <;> simp
@[simp] theorem State.overtempTest_params (n : Bay) (x : Nat) : (s.overtempTest n x).params = s.params := by unfold State.overtempTest; split <;> (try split) <;> simp
@[simp] theorem State.overtempTest_cycle (n : Bay) (x : Nat) : (s.overtempTest n x).cycle = s.cycle := by unfold State.overtempTest; split <;> (try split) <;> simp
@[simp] theorem State.overtempTest_alloc (n : Bay) (x : Nat) : (s.overtempTest n x).alloc = s.alloc := by unfold State.overtempTest; split <;> (try split) <;> simp
@[simp] theorem State.overtempTest_burst (n : Bay) (x : Nat) : (s.overtempTest n x).burst = s.burst := by unfold State.overtempTest; split <;> (try split) <;> simp
@[simp] theorem State.overtempTest_ports (n : Bay) (x : Nat) : (s.overtempTest n x).ports = s.ports := by unfold State.overtempTest; split <;> (try split) <;> simp
@[simp] theorem State.overtempTest_store (n : Bay) (x : Nat) : (s.overtempTest n x).store = s.store := by unfold State.overtempTest; split <;> (try split) <;> simp
@[simp] theorem State.overtempTest_port (n : Bay) (x : Nat) (q : LinkId) : (s.overtempTest n x).port q = s.port q := by simp [State.port]
@[simp] theorem State.overtempTest_bindings (n : Bay) (x : Nat) : (s.overtempTest n x).bindings = s.bindings := by simp [State.bindings]
@[simp] theorem State.overtempTest_bayBlock (n : Bay) (x : Nat) (m : Bay) : (s.overtempTest n x).bayBlock m = s.bayBlock m := by simp [State.bayBlock]
@[simp] theorem State.overtempTest_occupied (n : Bay) (x : Nat) (m : Bay) : (s.overtempTest n x).occupied m = s.occupied m := by simp [State.occupied]

@[simp] theorem State.deliverSample_pending (n : Bay) (x : Sample) : (s.deliverSample n x).pending = s.pending := by unfold State.deliverSample; dsimp only; split <;> simp
@[simp] theorem State.deliverSample_now (n : Bay) (x : Sample) : (s.deliverSample n x).now = s.now := by unfold State.deliverSample; dsimp only; split <;> simp
@[simp] theorem State.deliverSample_inReset (n : Bay) (x : Sample) : (s.deliverSample n x).inReset = s.inReset := by unfold State.deliverSample; dsimp only; split <;> simp
@[simp] theorem State.deliverSample_shelfResetArmed (n : Bay) (x : Sample) : (s.deliverSample n x).shelfResetArmed = s.shelfResetArmed := by unfold State.deliverSample; dsimp only; split <;> simp
@[simp] theorem State.deliverSample_capture (n : Bay) (x : Sample) : (s.deliverSample n x).capture = s.capture := by unfold State.deliverSample; dsimp only; split <;> simp
@[simp] theorem State.deliverSample_params (n : Bay) (x : Sample) : (s.deliverSample n x).params = s.params := by unfold State.deliverSample; dsimp only; split <;> simp
@[simp] theorem State.deliverSample_cycle (n : Bay) (x : Sample) : (s.deliverSample n x).cycle = s.cycle := by unfold State.deliverSample; dsimp only; split <;> simp
@[simp] theorem State.deliverSample_alloc (n : Bay) (x : Sample) : (s.deliverSample n x).alloc = s.alloc := by unfold State.deliverSample; dsimp only; split <;> simp
@[simp] theorem State.deliverSample_burst (n : Bay) (x : Sample) : (s.deliverSample n x).burst = s.burst := by unfold State.deliverSample; dsimp only; split <;> simp
@[simp] theorem State.deliverSample_ports (n : Bay) (x : Sample) : (s.deliverSample n x).ports = s.ports := by unfold State.deliverSample; dsimp only; split <;> simp
@[simp] theorem State.deliverSample_store (n : Bay) (x : Sample) : (s.deliverSample n x).store = s.store := by unfold State.deliverSample; dsimp only; split <;> simp
@[simp] theorem State.deliverSample_port (n : Bay) (x : Sample) (q : LinkId) : (s.deliverSample n x).port q = s.port q := by simp [State.port]
@[simp] theorem State.deliverSample_bindings (n : Bay) (x : Sample) : (s.deliverSample n x).bindings = s.bindings := by simp [State.bindings]
@[simp] theorem State.deliverSample_bayBlock (n : Bay) (x : Sample) (m : Bay) : (s.deliverSample n x).bayBlock m = s.bayBlock m := by simp [State.bayBlock]
@[simp] theorem State.deliverSample_occupied (n : Bay) (x : Sample) (m : Bay) : (s.deliverSample n x).occupied m = s.occupied m := by simp [State.occupied]

@[simp] theorem State.deliverNotice_pending (n : Bay) : (s.deliverNotice n).pending = s.pending := by simp [State.deliverNotice]
@[simp] theorem State.deliverNotice_now (n : Bay) : (s.deliverNotice n).now = s.now := by simp [State.deliverNotice]
@[simp] theorem State.deliverNotice_inReset (n : Bay) : (s.deliverNotice n).inReset = s.inReset := by simp [State.deliverNotice]
@[simp] theorem State.deliverNotice_shelfResetArmed (n : Bay) : (s.deliverNotice n).shelfResetArmed = s.shelfResetArmed := by simp [State.deliverNotice]
@[simp] theorem State.deliverNotice_capture (n : Bay) : (s.deliverNotice n).capture = s.capture := by simp [State.deliverNotice]
@[simp] theorem State.deliverNotice_params (n : Bay) : (s.deliverNotice n).params = s.params := by simp [State.deliverNotice]
@[simp] theorem State.deliverNotice_cycle (n : Bay) : (s.deliverNotice n).cycle = s.cycle := by simp [State.deliverNotice]
@[simp] theorem State.deliverNotice_alloc (n : Bay) : (s.deliverNotice n).alloc = s.alloc := by simp [State.deliverNotice]
@[simp] theorem State.deliverNotice_burst (n : Bay) : (s.deliverNotice n).burst = s.burst := by simp [State.deliverNotice]
@[simp] theorem State.deliverNotice_lines (n : Bay) : (s.deliverNotice n).lines = s.lines := by simp [State.deliverNotice]
@[simp] theorem State.deliverNotice_ports (n : Bay) : (s.deliverNotice n).ports = s.ports := by simp [State.deliverNotice]
@[simp] theorem State.deliverNotice_store (n : Bay) : (s.deliverNotice n).store = s.store := by simp [State.deliverNotice]
@[simp] theorem State.deliverNotice_port (n : Bay) (q : LinkId) : (s.deliverNotice n).port q = s.port q := by simp [State.port]
@[simp] theorem State.deliverNotice_bindings (n : Bay) : (s.deliverNotice n).bindings = s.bindings := by simp [State.bindings]
@[simp] theorem State.deliverNotice_bayBlock (n : Bay) (m : Bay) : (s.deliverNotice n).bayBlock m = s.bayBlock m := by simp [State.bayBlock]
@[simp] theorem State.deliverNotice_occupied (n : Bay) (m : Bay) : (s.deliverNotice n).occupied m = s.occupied m := by simp [State.occupied]

/-- The one record an update replaces. -/
@[simp] theorem State.updateSensor_sensors (n : Bay) (r : SensorRec) (j : Bool) :
    (s.updateSensor n r j).sensors = s.sensors.set n r := by unfold State.updateSensor; split <;> simp [State.raiseSensor]

/-- An over-temperature event changes its own bay's line alone (R139). -/
@[simp] theorem State.overtemp_lines (n : Bay) :
    (s.overtemp n).lines = s.lines.set n ((s.lines.get n).overtemp (s.bayBlock n).countMin) := by simp [State.overtemp]

/-- Everything a delivered sample does to the sensor records: its own bay's, by `takeSample` (R20). -/
@[simp] theorem State.deliverSample_sensors (n : Bay) (x : Sample) :
    (s.deliverSample n x).sensors = s.sensors.set n ((s.sensors.get n).takeSample s.params s.now x).record := by
  unfold State.deliverSample; dsimp only; split <;> simp

@[simp] theorem State.deliverNotice_sensors (n : Bay) :
    (s.deliverNotice n).sensors = s.sensors.set n (s.sensors.get n).notice := by simp [State.deliverNotice]

/-! ### Sense Capture Unit -/

@[simp] theorem State.captureError_pending (n : Bay) (d : Decoder) (c : CaptureCause) (t : Nat) : (s.captureError n d c t).pending = s.pending := by simp [State.captureError]
@[simp] theorem State.captureError_now (n : Bay) (d : Decoder) (c : CaptureCause) (t : Nat) : (s.captureError n d c t).now = s.now := by simp [State.captureError]
@[simp] theorem State.captureError_inReset (n : Bay) (d : Decoder) (c : CaptureCause) (t : Nat) : (s.captureError n d c t).inReset = s.inReset := by simp [State.captureError]
@[simp] theorem State.captureError_shelfResetArmed (n : Bay) (d : Decoder) (c : CaptureCause) (t : Nat) : (s.captureError n d c t).shelfResetArmed = s.shelfResetArmed := by simp [State.captureError]
@[simp] theorem State.captureError_params (n : Bay) (d : Decoder) (c : CaptureCause) (t : Nat) : (s.captureError n d c t).params = s.params := by simp [State.captureError]
@[simp] theorem State.captureError_cycle (n : Bay) (d : Decoder) (c : CaptureCause) (t : Nat) : (s.captureError n d c t).cycle = s.cycle := by simp [State.captureError]
@[simp] theorem State.captureError_alloc (n : Bay) (d : Decoder) (c : CaptureCause) (t : Nat) : (s.captureError n d c t).alloc = s.alloc := by simp [State.captureError]
@[simp] theorem State.captureError_burst (n : Bay) (d : Decoder) (c : CaptureCause) (t : Nat) : (s.captureError n d c t).burst = s.burst := by simp [State.captureError]
@[simp] theorem State.captureError_lines (n : Bay) (d : Decoder) (c : CaptureCause) (t : Nat) : (s.captureError n d c t).lines = s.lines := by simp [State.captureError]
@[simp] theorem State.captureError_ports (n : Bay) (d : Decoder) (c : CaptureCause) (t : Nat) : (s.captureError n d c t).ports = s.ports := by simp [State.captureError]
@[simp] theorem State.captureError_store (n : Bay) (d : Decoder) (c : CaptureCause) (t : Nat) : (s.captureError n d c t).store = s.store := by simp [State.captureError]
@[simp] theorem State.captureError_port (n : Bay) (d : Decoder) (c : CaptureCause) (t : Nat) (q : LinkId) : (s.captureError n d c t).port q = s.port q := by simp [State.port]
@[simp] theorem State.captureError_bindings (n : Bay) (d : Decoder) (c : CaptureCause) (t : Nat) : (s.captureError n d c t).bindings = s.bindings := by simp [State.bindings]
@[simp] theorem State.captureError_bayBlock (n : Bay) (d : Decoder) (c : CaptureCause) (t : Nat) (m : Bay) : (s.captureError n d c t).bayBlock m = s.bayBlock m := by simp [State.bayBlock]
@[simp] theorem State.captureError_occupied (n : Bay) (d : Decoder) (c : CaptureCause) (t : Nat) (m : Bay) : (s.captureError n d c t).occupied m = s.occupied m := by simp [State.occupied]

/-- The two records a capture error replaces (R14). -/
@[simp] theorem State.captureError_capture (n : Bay) (d : Decoder) (c : CaptureCause) (t : Nat) :
    (s.captureError n d c t).capture = s.capture.set n ((d.abandon t).count c) := by simp [State.captureError]

@[simp] theorem State.captureError_sensors (n : Bay) (d : Decoder) (c : CaptureCause) (t : Nat) :
    (s.captureError n d c t).sensors = s.sensors.set n (s.sensors.get n).notice := by simp [State.captureError]

@[simp] theorem State.takeQuiet_pending (n : Bay) (t : Nat) : (s.takeQuiet n t).pending = s.pending := by unfold State.takeQuiet; split <;> simp
@[simp] theorem State.takeQuiet_now (n : Bay) (t : Nat) : (s.takeQuiet n t).now = s.now := by unfold State.takeQuiet; split <;> simp
@[simp] theorem State.takeQuiet_inReset (n : Bay) (t : Nat) : (s.takeQuiet n t).inReset = s.inReset := by unfold State.takeQuiet; split <;> simp
@[simp] theorem State.takeQuiet_shelfResetArmed (n : Bay) (t : Nat) : (s.takeQuiet n t).shelfResetArmed = s.shelfResetArmed := by unfold State.takeQuiet; split <;> simp
@[simp] theorem State.takeQuiet_sensors (n : Bay) (t : Nat) : (s.takeQuiet n t).sensors = s.sensors := by unfold State.takeQuiet; split <;> simp
@[simp] theorem State.takeQuiet_params (n : Bay) (t : Nat) : (s.takeQuiet n t).params = s.params := by unfold State.takeQuiet; split <;> simp
@[simp] theorem State.takeQuiet_cycle (n : Bay) (t : Nat) : (s.takeQuiet n t).cycle = s.cycle := by unfold State.takeQuiet; split <;> simp
@[simp] theorem State.takeQuiet_alloc (n : Bay) (t : Nat) : (s.takeQuiet n t).alloc = s.alloc := by unfold State.takeQuiet; split <;> simp
@[simp] theorem State.takeQuiet_burst (n : Bay) (t : Nat) : (s.takeQuiet n t).burst = s.burst := by unfold State.takeQuiet; split <;> simp
@[simp] theorem State.takeQuiet_lines (n : Bay) (t : Nat) : (s.takeQuiet n t).lines = s.lines := by unfold State.takeQuiet; split <;> simp
@[simp] theorem State.takeQuiet_ports (n : Bay) (t : Nat) : (s.takeQuiet n t).ports = s.ports := by unfold State.takeQuiet; split <;> simp
@[simp] theorem State.takeQuiet_alerts (n : Bay) (t : Nat) : (s.takeQuiet n t).alerts = s.alerts := by unfold State.takeQuiet; split <;> simp
@[simp] theorem State.takeQuiet_store (n : Bay) (t : Nat) : (s.takeQuiet n t).store = s.store := by unfold State.takeQuiet; split <;> simp
@[simp] theorem State.takeQuiet_port (n : Bay) (t : Nat) (q : LinkId) : (s.takeQuiet n t).port q = s.port q := by simp [State.port]
@[simp] theorem State.takeQuiet_alert (n : Bay) (t : Nat) (q : LinkId) : (s.takeQuiet n t).alert q = s.alert q := by simp [State.alert]
@[simp] theorem State.takeQuiet_bindings (n : Bay) (t : Nat) : (s.takeQuiet n t).bindings = s.bindings := by simp [State.bindings]
@[simp] theorem State.takeQuiet_bayBlock (n : Bay) (t : Nat) (m : Bay) : (s.takeQuiet n t).bayBlock m = s.bayBlock m := by simp [State.bayBlock]
@[simp] theorem State.takeQuiet_occupied (n : Bay) (t : Nat) (m : Bay) : (s.takeQuiet n t).occupied m = s.occupied m := by simp [State.occupied]

@[simp] theorem State.takeGap_pending (n : Bay) (t : Nat) : (s.takeGap n t).pending = s.pending := by unfold State.takeGap; split <;> simp
@[simp] theorem State.takeGap_now (n : Bay) (t : Nat) : (s.takeGap n t).now = s.now := by unfold State.takeGap; split <;> simp
@[simp] theorem State.takeGap_inReset (n : Bay) (t : Nat) : (s.takeGap n t).inReset = s.inReset := by unfold State.takeGap; split <;> simp
@[simp] theorem State.takeGap_shelfResetArmed (n : Bay) (t : Nat) : (s.takeGap n t).shelfResetArmed = s.shelfResetArmed := by unfold State.takeGap; split <;> simp
@[simp] theorem State.takeGap_params (n : Bay) (t : Nat) : (s.takeGap n t).params = s.params := by unfold State.takeGap; split <;> simp
@[simp] theorem State.takeGap_cycle (n : Bay) (t : Nat) : (s.takeGap n t).cycle = s.cycle := by unfold State.takeGap; split <;> simp
@[simp] theorem State.takeGap_alloc (n : Bay) (t : Nat) : (s.takeGap n t).alloc = s.alloc := by unfold State.takeGap; split <;> simp
@[simp] theorem State.takeGap_burst (n : Bay) (t : Nat) : (s.takeGap n t).burst = s.burst := by unfold State.takeGap; split <;> simp
@[simp] theorem State.takeGap_lines (n : Bay) (t : Nat) : (s.takeGap n t).lines = s.lines := by unfold State.takeGap; split <;> simp
@[simp] theorem State.takeGap_ports (n : Bay) (t : Nat) : (s.takeGap n t).ports = s.ports := by unfold State.takeGap; split <;> simp
@[simp] theorem State.takeGap_store (n : Bay) (t : Nat) : (s.takeGap n t).store = s.store := by unfold State.takeGap; split <;> simp
@[simp] theorem State.takeGap_port (n : Bay) (t : Nat) (q : LinkId) : (s.takeGap n t).port q = s.port q := by simp [State.port]
@[simp] theorem State.takeGap_bindings (n : Bay) (t : Nat) : (s.takeGap n t).bindings = s.bindings := by simp [State.bindings]
@[simp] theorem State.takeGap_bayBlock (n : Bay) (t : Nat) (m : Bay) : (s.takeGap n t).bayBlock m = s.bayBlock m := by simp [State.bayBlock]
@[simp] theorem State.takeGap_occupied (n : Bay) (t : Nat) (m : Bay) : (s.takeGap n t).occupied m = s.occupied m := by simp [State.occupied]

@[simp] theorem State.takePulse_pending (n : Bay) (t : Nat) : (s.takePulse n t).pending = s.pending := by unfold State.takePulse; split <;> simp
@[simp] theorem State.takePulse_now (n : Bay) (t : Nat) : (s.takePulse n t).now = s.now := by unfold State.takePulse; split <;> simp
@[simp] theorem State.takePulse_inReset (n : Bay) (t : Nat) : (s.takePulse n t).inReset = s.inReset := by unfold State.takePulse; split <;> simp
@[simp] theorem State.takePulse_shelfResetArmed (n : Bay) (t : Nat) : (s.takePulse n t).shelfResetArmed = s.shelfResetArmed := by unfold State.takePulse; split <;> simp
@[simp] theorem State.takePulse_params (n : Bay) (t : Nat) : (s.takePulse n t).params = s.params := by unfold State.takePulse; split <;> simp
@[simp] theorem State.takePulse_cycle (n : Bay) (t : Nat) : (s.takePulse n t).cycle = s.cycle := by unfold State.takePulse; split <;> simp
@[simp] theorem State.takePulse_alloc (n : Bay) (t : Nat) : (s.takePulse n t).alloc = s.alloc := by unfold State.takePulse; split <;> simp
@[simp] theorem State.takePulse_burst (n : Bay) (t : Nat) : (s.takePulse n t).burst = s.burst := by unfold State.takePulse; split <;> simp
@[simp] theorem State.takePulse_lines (n : Bay) (t : Nat) : (s.takePulse n t).lines = s.lines := by unfold State.takePulse; split <;> simp
@[simp] theorem State.takePulse_ports (n : Bay) (t : Nat) : (s.takePulse n t).ports = s.ports := by unfold State.takePulse; split <;> simp
@[simp] theorem State.takePulse_store (n : Bay) (t : Nat) : (s.takePulse n t).store = s.store := by unfold State.takePulse; split <;> simp
@[simp] theorem State.takePulse_port (n : Bay) (t : Nat) (q : LinkId) : (s.takePulse n t).port q = s.port q := by simp [State.port]
@[simp] theorem State.takePulse_bindings (n : Bay) (t : Nat) : (s.takePulse n t).bindings = s.bindings := by simp [State.bindings]
@[simp] theorem State.takePulse_bayBlock (n : Bay) (t : Nat) (m : Bay) : (s.takePulse n t).bayBlock m = s.bayBlock m := by simp [State.bayBlock]
@[simp] theorem State.takePulse_occupied (n : Bay) (t : Nat) (m : Bay) : (s.takePulse n t).occupied m = s.occupied m := by simp [State.occupied]

@[simp] theorem State.takeStuck_pending (n : Bay) (t : Nat) : (s.takeStuck n t).pending = s.pending := by unfold State.takeStuck; split <;> simp
@[simp] theorem State.takeStuck_now (n : Bay) (t : Nat) : (s.takeStuck n t).now = s.now := by unfold State.takeStuck; split <;> simp
@[simp] theorem State.takeStuck_inReset (n : Bay) (t : Nat) : (s.takeStuck n t).inReset = s.inReset := by unfold State.takeStuck; split <;> simp
@[simp] theorem State.takeStuck_shelfResetArmed (n : Bay) (t : Nat) : (s.takeStuck n t).shelfResetArmed = s.shelfResetArmed := by unfold State.takeStuck; split <;> simp
@[simp] theorem State.takeStuck_params (n : Bay) (t : Nat) : (s.takeStuck n t).params = s.params := by unfold State.takeStuck; split <;> simp
@[simp] theorem State.takeStuck_cycle (n : Bay) (t : Nat) : (s.takeStuck n t).cycle = s.cycle := by unfold State.takeStuck; split <;> simp
@[simp] theorem State.takeStuck_alloc (n : Bay) (t : Nat) : (s.takeStuck n t).alloc = s.alloc := by unfold State.takeStuck; split <;> simp
@[simp] theorem State.takeStuck_burst (n : Bay) (t : Nat) : (s.takeStuck n t).burst = s.burst := by unfold State.takeStuck; split <;> simp
@[simp] theorem State.takeStuck_lines (n : Bay) (t : Nat) : (s.takeStuck n t).lines = s.lines := by unfold State.takeStuck; split <;> simp
@[simp] theorem State.takeStuck_ports (n : Bay) (t : Nat) : (s.takeStuck n t).ports = s.ports := by unfold State.takeStuck; split <;> simp
@[simp] theorem State.takeStuck_store (n : Bay) (t : Nat) : (s.takeStuck n t).store = s.store := by unfold State.takeStuck; split <;> simp
@[simp] theorem State.takeStuck_port (n : Bay) (t : Nat) (q : LinkId) : (s.takeStuck n t).port q = s.port q := by simp [State.port]
@[simp] theorem State.takeStuck_bindings (n : Bay) (t : Nat) : (s.takeStuck n t).bindings = s.bindings := by simp [State.bindings]
@[simp] theorem State.takeStuck_bayBlock (n : Bay) (t : Nat) (m : Bay) : (s.takeStuck n t).bayBlock m = s.bayBlock m := by simp [State.bayBlock]
@[simp] theorem State.takeStuck_occupied (n : Bay) (t : Nat) (m : Bay) : (s.takeStuck n t).occupied m = s.occupied m := by simp [State.occupied]

@[simp] theorem State.takeTail_pending (n : Bay) (t : Nat) : (s.takeTail n t).pending = s.pending := by unfold State.takeTail; split <;> simp
@[simp] theorem State.takeTail_now (n : Bay) (t : Nat) : (s.takeTail n t).now = s.now := by unfold State.takeTail; split <;> simp
@[simp] theorem State.takeTail_inReset (n : Bay) (t : Nat) : (s.takeTail n t).inReset = s.inReset := by unfold State.takeTail; split <;> simp
@[simp] theorem State.takeTail_shelfResetArmed (n : Bay) (t : Nat) : (s.takeTail n t).shelfResetArmed = s.shelfResetArmed := by unfold State.takeTail; split <;> simp
@[simp] theorem State.takeTail_params (n : Bay) (t : Nat) : (s.takeTail n t).params = s.params := by unfold State.takeTail; split <;> simp
@[simp] theorem State.takeTail_cycle (n : Bay) (t : Nat) : (s.takeTail n t).cycle = s.cycle := by unfold State.takeTail; split <;> simp
@[simp] theorem State.takeTail_alloc (n : Bay) (t : Nat) : (s.takeTail n t).alloc = s.alloc := by unfold State.takeTail; split <;> simp
@[simp] theorem State.takeTail_burst (n : Bay) (t : Nat) : (s.takeTail n t).burst = s.burst := by unfold State.takeTail; split <;> simp
@[simp] theorem State.takeTail_ports (n : Bay) (t : Nat) : (s.takeTail n t).ports = s.ports := by unfold State.takeTail; split <;> simp
@[simp] theorem State.takeTail_store (n : Bay) (t : Nat) : (s.takeTail n t).store = s.store := by unfold State.takeTail; split <;> simp
@[simp] theorem State.takeTail_port (n : Bay) (t : Nat) (q : LinkId) : (s.takeTail n t).port q = s.port q := by simp [State.port]
@[simp] theorem State.takeTail_bindings (n : Bay) (t : Nat) : (s.takeTail n t).bindings = s.bindings := by simp [State.bindings]
@[simp] theorem State.takeTail_bayBlock (n : Bay) (t : Nat) (m : Bay) : (s.takeTail n t).bayBlock m = s.bayBlock m := by simp [State.bayBlock]
@[simp] theorem State.takeTail_occupied (n : Bay) (t : Nat) (m : Bay) : (s.takeTail n t).occupied m = s.occupied m := by simp [State.occupied]

@[simp] theorem State.settleLine_pending (n : Bay) (t : Nat) : (s.settleLine n t).pending = s.pending := by simp [State.settleLine]
@[simp] theorem State.settleLine_now (n : Bay) (t : Nat) : (s.settleLine n t).now = s.now := by simp [State.settleLine]
@[simp] theorem State.settleLine_inReset (n : Bay) (t : Nat) : (s.settleLine n t).inReset = s.inReset := by simp [State.settleLine]
@[simp] theorem State.settleLine_shelfResetArmed (n : Bay) (t : Nat) : (s.settleLine n t).shelfResetArmed = s.shelfResetArmed := by simp [State.settleLine]
@[simp] theorem State.settleLine_params (n : Bay) (t : Nat) : (s.settleLine n t).params = s.params := by simp [State.settleLine]
@[simp] theorem State.settleLine_cycle (n : Bay) (t : Nat) : (s.settleLine n t).cycle = s.cycle := by simp [State.settleLine]
@[simp] theorem State.settleLine_alloc (n : Bay) (t : Nat) : (s.settleLine n t).alloc = s.alloc := by simp [State.settleLine]
@[simp] theorem State.settleLine_burst (n : Bay) (t : Nat) : (s.settleLine n t).burst = s.burst := by simp [State.settleLine]
@[simp] theorem State.settleLine_ports (n : Bay) (t : Nat) : (s.settleLine n t).ports = s.ports := by simp [State.settleLine]
@[simp] theorem State.settleLine_store (n : Bay) (t : Nat) : (s.settleLine n t).store = s.store := by simp [State.settleLine]
@[simp] theorem State.settleLine_port (n : Bay) (t : Nat) (q : LinkId) : (s.settleLine n t).port q = s.port q := by simp [State.port]
@[simp] theorem State.settleLine_bindings (n : Bay) (t : Nat) : (s.settleLine n t).bindings = s.bindings := by simp [State.bindings]
@[simp] theorem State.settleLine_bayBlock (n : Bay) (t : Nat) (m : Bay) : (s.settleLine n t).bayBlock m = s.bayBlock m := by simp [State.bayBlock]
@[simp] theorem State.settleLine_occupied (n : Bay) (t : Nat) (m : Bay) : (s.settleLine n t).occupied m = s.occupied m := by simp [State.occupied]

@[simp] theorem State.takeEdge_pending (n : Bay) (t : Nat) : (s.takeEdge n t).pending = s.pending := by unfold State.takeEdge; split <;> simp
@[simp] theorem State.takeEdge_now (n : Bay) (t : Nat) : (s.takeEdge n t).now = s.now := by unfold State.takeEdge; split <;> simp
@[simp] theorem State.takeEdge_inReset (n : Bay) (t : Nat) : (s.takeEdge n t).inReset = s.inReset := by unfold State.takeEdge; split <;> simp
@[simp] theorem State.takeEdge_shelfResetArmed (n : Bay) (t : Nat) : (s.takeEdge n t).shelfResetArmed = s.shelfResetArmed := by unfold State.takeEdge; split <;> simp
@[simp] theorem State.takeEdge_params (n : Bay) (t : Nat) : (s.takeEdge n t).params = s.params := by unfold State.takeEdge; split <;> simp
@[simp] theorem State.takeEdge_cycle (n : Bay) (t : Nat) : (s.takeEdge n t).cycle = s.cycle := by unfold State.takeEdge; split <;> simp
@[simp] theorem State.takeEdge_alloc (n : Bay) (t : Nat) : (s.takeEdge n t).alloc = s.alloc := by unfold State.takeEdge; split <;> simp
@[simp] theorem State.takeEdge_burst (n : Bay) (t : Nat) : (s.takeEdge n t).burst = s.burst := by unfold State.takeEdge; split <;> simp
@[simp] theorem State.takeEdge_lines (n : Bay) (t : Nat) : (s.takeEdge n t).lines = s.lines := by unfold State.takeEdge; split <;> simp
@[simp] theorem State.takeEdge_ports (n : Bay) (t : Nat) : (s.takeEdge n t).ports = s.ports := by unfold State.takeEdge; split <;> simp
@[simp] theorem State.takeEdge_store (n : Bay) (t : Nat) : (s.takeEdge n t).store = s.store := by unfold State.takeEdge; split <;> simp
@[simp] theorem State.takeEdge_port (n : Bay) (t : Nat) (q : LinkId) : (s.takeEdge n t).port q = s.port q := by simp [State.port]
@[simp] theorem State.takeEdge_bindings (n : Bay) (t : Nat) : (s.takeEdge n t).bindings = s.bindings := by simp [State.bindings]
@[simp] theorem State.takeEdge_bayBlock (n : Bay) (t : Nat) (m : Bay) : (s.takeEdge n t).bayBlock m = s.bayBlock m := by simp [State.bayBlock]
@[simp] theorem State.takeEdge_occupied (n : Bay) (t : Nat) (m : Bay) : (s.takeEdge n t).occupied m = s.occupied m := by simp [State.occupied]

@[simp] theorem State.lineEdge_pending (n : Bay) (t : Nat) : (s.lineEdge n t).pending = s.pending := by simp [State.lineEdge]
@[simp] theorem State.lineEdge_now (n : Bay) (t : Nat) : (s.lineEdge n t).now = s.now := by simp [State.lineEdge]
@[simp] theorem State.lineEdge_inReset (n : Bay) (t : Nat) : (s.lineEdge n t).inReset = s.inReset := by simp [State.lineEdge]
@[simp] theorem State.lineEdge_shelfResetArmed (n : Bay) (t : Nat) : (s.lineEdge n t).shelfResetArmed = s.shelfResetArmed := by simp [State.lineEdge]
@[simp] theorem State.lineEdge_params (n : Bay) (t : Nat) : (s.lineEdge n t).params = s.params := by simp [State.lineEdge]
@[simp] theorem State.lineEdge_cycle (n : Bay) (t : Nat) : (s.lineEdge n t).cycle = s.cycle := by simp [State.lineEdge]
@[simp] theorem State.lineEdge_alloc (n : Bay) (t : Nat) : (s.lineEdge n t).alloc = s.alloc := by simp [State.lineEdge]
@[simp] theorem State.lineEdge_burst (n : Bay) (t : Nat) : (s.lineEdge n t).burst = s.burst := by simp [State.lineEdge]
@[simp] theorem State.lineEdge_ports (n : Bay) (t : Nat) : (s.lineEdge n t).ports = s.ports := by simp [State.lineEdge]
@[simp] theorem State.lineEdge_store (n : Bay) (t : Nat) : (s.lineEdge n t).store = s.store := by simp [State.lineEdge]
@[simp] theorem State.lineEdge_port (n : Bay) (t : Nat) (q : LinkId) : (s.lineEdge n t).port q = s.port q := by simp [State.port]
@[simp] theorem State.lineEdge_bindings (n : Bay) (t : Nat) : (s.lineEdge n t).bindings = s.bindings := by simp [State.bindings]
@[simp] theorem State.lineEdge_bayBlock (n : Bay) (t : Nat) (m : Bay) : (s.lineEdge n t).bayBlock m = s.bayBlock m := by simp [State.bayBlock]
@[simp] theorem State.lineEdge_occupied (n : Bay) (t : Nat) (m : Bay) : (s.lineEdge n t).occupied m = s.occupied m := by simp [State.occupied]

@[simp] theorem State.acceptEdge_pending (n : Bay) : (s.acceptEdge n).pending = s.pending := by unfold State.acceptEdge; split <;> simp
@[simp] theorem State.acceptEdge_now (n : Bay) : (s.acceptEdge n).now = s.now := by unfold State.acceptEdge; split <;> simp
@[simp] theorem State.acceptEdge_inReset (n : Bay) : (s.acceptEdge n).inReset = s.inReset := by unfold State.acceptEdge; split <;> simp
@[simp] theorem State.acceptEdge_shelfResetArmed (n : Bay) : (s.acceptEdge n).shelfResetArmed = s.shelfResetArmed := by unfold State.acceptEdge; split <;> simp
@[simp] theorem State.acceptEdge_params (n : Bay) : (s.acceptEdge n).params = s.params := by unfold State.acceptEdge; split <;> simp
@[simp] theorem State.acceptEdge_cycle (n : Bay) : (s.acceptEdge n).cycle = s.cycle := by unfold State.acceptEdge; split <;> simp
@[simp] theorem State.acceptEdge_alloc (n : Bay) : (s.acceptEdge n).alloc = s.alloc := by unfold State.acceptEdge; split <;> simp
@[simp] theorem State.acceptEdge_burst (n : Bay) : (s.acceptEdge n).burst = s.burst := by unfold State.acceptEdge; split <;> simp
@[simp] theorem State.acceptEdge_ports (n : Bay) : (s.acceptEdge n).ports = s.ports := by unfold State.acceptEdge; split <;> simp
@[simp] theorem State.acceptEdge_store (n : Bay) : (s.acceptEdge n).store = s.store := by unfold State.acceptEdge; split <;> simp
@[simp] theorem State.acceptEdge_port (n : Bay) (q : LinkId) : (s.acceptEdge n).port q = s.port q := by simp [State.port]
@[simp] theorem State.acceptEdge_bindings (n : Bay) : (s.acceptEdge n).bindings = s.bindings := by simp [State.bindings]
@[simp] theorem State.acceptEdge_bayBlock (n : Bay) (m : Bay) : (s.acceptEdge n).bayBlock m = s.bayBlock m := by simp [State.bayBlock]
@[simp] theorem State.acceptEdge_occupied (n : Bay) (m : Bay) : (s.acceptEdge n).occupied m = s.occupied m := by simp [State.occupied]

@[simp] theorem State.rawChange_pending (n : Bay) (t : Nat) : (State.rawChange n s t).pending = s.pending := by simp [State.rawChange]
@[simp] theorem State.rawChange_inReset (n : Bay) (t : Nat) : (State.rawChange n s t).inReset = s.inReset := by simp [State.rawChange]
@[simp] theorem State.rawChange_shelfResetArmed (n : Bay) (t : Nat) : (State.rawChange n s t).shelfResetArmed = s.shelfResetArmed := by simp [State.rawChange]
@[simp] theorem State.rawChange_params (n : Bay) (t : Nat) : (State.rawChange n s t).params = s.params := by simp [State.rawChange]
@[simp] theorem State.rawChange_cycle (n : Bay) (t : Nat) : (State.rawChange n s t).cycle = s.cycle := by simp [State.rawChange]
@[simp] theorem State.rawChange_alloc (n : Bay) (t : Nat) : (State.rawChange n s t).alloc = s.alloc := by simp [State.rawChange]
@[simp] theorem State.rawChange_burst (n : Bay) (t : Nat) : (State.rawChange n s t).burst = s.burst := by simp [State.rawChange]
@[simp] theorem State.rawChange_ports (n : Bay) (t : Nat) : (State.rawChange n s t).ports = s.ports := by simp [State.rawChange]
@[simp] theorem State.rawChange_store (n : Bay) (t : Nat) : (State.rawChange n s t).store = s.store := by simp [State.rawChange]
@[simp] theorem State.rawChange_port (n : Bay) (t : Nat) (q : LinkId) : (State.rawChange n s t).port q = s.port q := by simp [State.port]
@[simp] theorem State.rawChange_bindings (n : Bay) (t : Nat) : (State.rawChange n s t).bindings = s.bindings := by simp [State.bindings]
@[simp] theorem State.rawChange_bayBlock (n : Bay) (t : Nat) (m : Bay) : (State.rawChange n s t).bayBlock m = s.bayBlock m := by simp [State.bayBlock]
@[simp] theorem State.rawChange_occupied (n : Bay) (t : Nat) (m : Bay) : (State.rawChange n s t).occupied m = s.occupied m := by simp [State.occupied]

@[simp] theorem State.takeBadEdge_pending (n : Bay) (c : CaptureCause) : (s.takeBadEdge n c).pending = s.pending := by unfold State.takeBadEdge; split <;> simp
@[simp] theorem State.takeBadEdge_now (n : Bay) (c : CaptureCause) : (s.takeBadEdge n c).now = s.now := by unfold State.takeBadEdge; split <;> simp
@[simp] theorem State.takeBadEdge_inReset (n : Bay) (c : CaptureCause) : (s.takeBadEdge n c).inReset = s.inReset := by unfold State.takeBadEdge; split <;> simp
@[simp] theorem State.takeBadEdge_shelfResetArmed (n : Bay) (c : CaptureCause) : (s.takeBadEdge n c).shelfResetArmed = s.shelfResetArmed := by unfold State.takeBadEdge; split <;> simp
@[simp] theorem State.takeBadEdge_params (n : Bay) (c : CaptureCause) : (s.takeBadEdge n c).params = s.params := by unfold State.takeBadEdge; split <;> simp
@[simp] theorem State.takeBadEdge_cycle (n : Bay) (c : CaptureCause) : (s.takeBadEdge n c).cycle = s.cycle := by unfold State.takeBadEdge; split <;> simp
@[simp] theorem State.takeBadEdge_alloc (n : Bay) (c : CaptureCause) : (s.takeBadEdge n c).alloc = s.alloc := by unfold State.takeBadEdge; split <;> simp
@[simp] theorem State.takeBadEdge_burst (n : Bay) (c : CaptureCause) : (s.takeBadEdge n c).burst = s.burst := by unfold State.takeBadEdge; split <;> simp
@[simp] theorem State.takeBadEdge_ports (n : Bay) (c : CaptureCause) : (s.takeBadEdge n c).ports = s.ports := by unfold State.takeBadEdge; split <;> simp
@[simp] theorem State.takeBadEdge_store (n : Bay) (c : CaptureCause) : (s.takeBadEdge n c).store = s.store := by unfold State.takeBadEdge; split <;> simp
@[simp] theorem State.takeBadEdge_port (n : Bay) (c : CaptureCause) (q : LinkId) : (s.takeBadEdge n c).port q = s.port q := by simp [State.port]
@[simp] theorem State.takeBadEdge_bindings (n : Bay) (c : CaptureCause) : (s.takeBadEdge n c).bindings = s.bindings := by simp [State.bindings]
@[simp] theorem State.takeBadEdge_bayBlock (n : Bay) (c : CaptureCause) (m : Bay) : (s.takeBadEdge n c).bayBlock m = s.bayBlock m := by simp [State.bayBlock]
@[simp] theorem State.takeBadEdge_occupied (n : Bay) (c : CaptureCause) (m : Bay) : (s.takeBadEdge n c).occupied m = s.occupied m := by simp [State.occupied]
/-- The clock after a raw change. -/
@[simp] theorem State.rawChange_now (n : Bay) (t : Nat) : (State.rawChange n s t).now = max s.now t := by simp [State.rawChange]

/-- A block that one raw change leaves as it is, a whole trace leaves as it is. -/
theorem State.foldl_rawChange_same {α : Type} (f : State → α) (n : Bay) (h : ∀ s t, f (State.rawChange n s t) = f s)
    (l : List Nat) : f (l.foldl (State.rawChange n) s) = f s := by
  induction l generalizing s with
  | nil => rfl
  | cons x rest ih => rw [List.foldl_cons, ih, h]

@[simp] theorem State.followRaw_pending (n : Bay) (raw : RawTrace) : (s.followRaw n raw).pending = s.pending := by
  simp [State.followRaw, State.foldl_rawChange_same s State.pending n fun s t => State.rawChange_pending s n t]
@[simp] theorem State.followRaw_inReset (n : Bay) (raw : RawTrace) : (s.followRaw n raw).inReset = s.inReset := by
  simp [State.followRaw, State.foldl_rawChange_same s State.inReset n fun s t => State.rawChange_inReset s n t]
@[simp] theorem State.followRaw_shelfResetArmed (n : Bay) (raw : RawTrace) : (s.followRaw n raw).shelfResetArmed = s.shelfResetArmed := by
  simp [State.followRaw, State.foldl_rawChange_same s State.shelfResetArmed n fun s t => State.rawChange_shelfResetArmed s n t]
@[simp] theorem State.followRaw_params (n : Bay) (raw : RawTrace) : (s.followRaw n raw).params = s.params := by
  simp [State.followRaw, State.foldl_rawChange_same s State.params n fun s t => State.rawChange_params s n t]
@[simp] theorem State.followRaw_cycle (n : Bay) (raw : RawTrace) : (s.followRaw n raw).cycle = s.cycle := by
  simp [State.followRaw, State.foldl_rawChange_same s State.cycle n fun s t => State.rawChange_cycle s n t]
@[simp] theorem State.followRaw_alloc (n : Bay) (raw : RawTrace) : (s.followRaw n raw).alloc = s.alloc := by
  simp [State.followRaw, State.foldl_rawChange_same s State.alloc n fun s t => State.rawChange_alloc s n t]
@[simp] theorem State.followRaw_burst (n : Bay) (raw : RawTrace) : (s.followRaw n raw).burst = s.burst := by
  simp [State.followRaw, State.foldl_rawChange_same s State.burst n fun s t => State.rawChange_burst s n t]
@[simp] theorem State.followRaw_ports (n : Bay) (raw : RawTrace) : (s.followRaw n raw).ports = s.ports := by
  simp [State.followRaw, State.foldl_rawChange_same s State.ports n fun s t => State.rawChange_ports s n t]
@[simp] theorem State.followRaw_store (n : Bay) (raw : RawTrace) : (s.followRaw n raw).store = s.store := by
  simp [State.followRaw, State.foldl_rawChange_same s State.store n fun s t => State.rawChange_store s n t]
@[simp] theorem State.followRaw_port (n : Bay) (raw : RawTrace) (q : LinkId) : (s.followRaw n raw).port q = s.port q := by simp [State.port]
@[simp] theorem State.followRaw_bindings (n : Bay) (raw : RawTrace) : (s.followRaw n raw).bindings = s.bindings := by simp [State.bindings]
@[simp] theorem State.followRaw_bayBlock (n : Bay) (raw : RawTrace) (m : Bay) : (s.followRaw n raw).bayBlock m = s.bayBlock m := by simp [State.bayBlock]
@[simp] theorem State.followRaw_occupied (n : Bay) (raw : RawTrace) (m : Bay) : (s.followRaw n raw).occupied m = s.occupied m := by simp [State.occupied]

/-! ### The glitch filter -/

@[simp] theorem Decoder.settledTo_none (d : Decoder) (t : Nat) (h : d.candidate = none) : d.settledTo t = t := by
  simp [Decoder.settledTo, h]

@[simp] theorem Decoder.settledTo_some (d : Decoder) (t c : Nat) (h : d.candidate = some c) : d.settledTo t = min t c := by
  simp [Decoder.settledTo, h]

/-- An expiry that waits for a candidate is no later than now (R3). -/
theorem Decoder.settledTo_le (d : Decoder) (t : Nat) : d.settledTo t ≤ t := by
  unfold Decoder.settledTo; split <;> omega

/-- A candidate is accepted exactly when it has lasted 4 µs (R2). -/
theorem Decoder.accepted_eq_some (d : Decoder) (t c : Nat) :
    d.accepted t = some c ↔ d.candidate = some c ∧ c + filterTime ≤ t := by
  simp [Decoder.accepted, Option.filter_eq_some_iff]

/-- A candidate that has not lasted 4 µs stays open. -/
theorem State.acceptEdge_eq_self (n : Bay) (h : (s.capture.get n).accepted s.now = none) : s.acceptEdge n = s := by
  simp [State.acceptEdge, h]

/-- An accepted candidate is an edge at its own time stamp. -/
theorem State.acceptEdge_eq_lineEdge (n : Bay) (c : Nat) (h : (s.capture.get n).accepted s.now = some c) :
    s.acceptEdge n = s.lineEdge n c := by simp [State.acceptEdge, h]

/-- With no interval at its length nothing expires (R3). -/
theorem State.settleLine_eq_self (n : Bay) (t : Nat) (h : (s.capture.get n).nothingDue t) : s.settleLine n t = s := by
  obtain ⟨hq, hg, hp, ht, hs⟩ := h
  have hle := (s.capture.get n).settledTo_le t
  have h1 : (s.capture.get n).tailDue ((s.capture.get n).settledTo t) = false := by
    rw [Bool.eq_false_iff]; simp only [ne_eq, Decoder.tailDue, Bool.and_eq_true, beq_iff_eq, decide_eq_true_eq, not_and]
    intro h; have := ht h; simp only [tailTime]; omega
  have h2 : (s.capture.get n).gapDue ((s.capture.get n).settledTo t) = false := by
    rw [Bool.eq_false_iff]
    simp only [ne_eq, Decoder.gapDue, Bool.and_eq_true, Bool.or_eq_true, beq_iff_eq, decide_eq_true_eq, not_and]
    intro h; have := hg h; simp only [gapTime]; omega
  have h3 : (s.capture.get n).pulseDue ((s.capture.get n).settledTo t) = false := by
    rw [Bool.eq_false_iff]
    simp only [ne_eq, Decoder.pulseDue, Bool.and_eq_true, Bool.or_eq_true, beq_iff_eq, decide_eq_true_eq, not_and]
    intro h; have := hp h; simp only [pulseTime]; omega
  have h4 : (s.capture.get n).quietDue ((s.capture.get n).settledTo t) = false := by
    rw [Bool.eq_false_iff]
    simp only [ne_eq, Decoder.quietDue, Bool.and_eq_true, Bool.not_eq_true', beq_iff_eq, decide_eq_true_eq, not_and]
    rintro ⟨h, h'⟩; have := hq h h'; simp only [Decoder.quietFrom, quietTime]; omega
  have h5 : (s.capture.get n).stuckDue ((s.capture.get n).settledTo t) = false := by
    rw [Bool.eq_false_iff]
    simp only [ne_eq, Decoder.stuckDue, Bool.and_eq_true, Bool.not_eq_true', decide_eq_true_eq, not_and]
    rintro ⟨h, h'⟩; have := hs h h'; simp only [stuckTime]; omega
  simp [State.settleLine, State.takeTail, State.takeGap, State.takePulse, State.takeQuiet, State.takeStuck, h1, h2, h3, h4, h5]

theorem SensorRec.ageReached_eq (r : SensorRec) (t limit : Nat) :
    r.ageReached t limit = r.acceptedAt.any fun a => decide (a + ms limit ≤ t) := by
  unfold SensorRec.ageReached
  split <;> rename_i h <;> rw [h]
  · rw [Option.any_some]
  · rw [Option.any_none]

/-- What an install's measuring of the timers can do to a record (R34). -/
theorem SensorRec.remeasure_eq_agedUnder (r : SensorRec) (p : SensorParams) (t : Nat) :
    r.remeasure p t = r.agedUnder p.stale p.lost t := by
  obtain ⟨state, held, acceptedAt, implRun, implCount, loss, maxTemp⟩ := r
  rcases state with _ | run | _ | _ | _
  · rfl
  · simp only [remeasure, staleExpiry, lostExpiry, silenceExpiry, agedUnder]
    by_cases h : t < run.lastAt + ms p.stale
    · have hs : run.silent t p.stale = false := decide_eq_false (Nat.not_le.mpr h)
      rw [if_pos h, hs]; rfl
    · have hs : run.silent t p.stale = true := decide_eq_true (Nat.not_lt.mp h)
      rw [if_neg h, hs]
      rcases run with ⟨_ | _, _, _, _⟩ <;> rfl
  · simp only [remeasure, staleExpiry, agedUnder, ageReached_eq]
    generalize (acceptedAt.any fun a => decide (a + ms p.stale ≤ t)) = b
    cases b
    · rfl
    · simp only [lostExpiry, ageReached_eq, if_true]
      generalize (acceptedAt.any fun a => decide (a + ms p.lost ≤ t)) = b
      cases b <;> rfl
  · simp only [remeasure, staleExpiry, lostExpiry, agedUnder, ageReached_eq]
    generalize (acceptedAt.any fun a => decide (a + ms p.lost ≤ t)) = b
    cases b <;> rfl
  · rfl

end Sys2Proof.Machine
end

