-- ==== Sys2Proof/Laws/Cycle.lean ====
section
/-! SUPPORT. What the operations of the allocation cycle leave untouched, and step 2 of the round (Chapters 3, 6 and 7). -/

namespace Sys2Proof.Machine

variable (s : State)

@[simp] theorem State.fastClamp_pending : (s.fastClamp).pending = s.pending := by simp [State.fastClamp]
@[simp] theorem State.fastClamp_now : (s.fastClamp).now = s.now := by simp [State.fastClamp]
@[simp] theorem State.fastClamp_inReset : (s.fastClamp).inReset = s.inReset := by simp [State.fastClamp]
@[simp] theorem State.fastClamp_shelfResetArmed : (s.fastClamp).shelfResetArmed = s.shelfResetArmed := by simp [State.fastClamp]
@[simp] theorem State.fastClamp_capture : (s.fastClamp).capture = s.capture := by simp [State.fastClamp]
@[simp] theorem State.fastClamp_sensors : (s.fastClamp).sensors = s.sensors := by simp [State.fastClamp]
@[simp] theorem State.fastClamp_params : (s.fastClamp).params = s.params := by simp [State.fastClamp]
@[simp] theorem State.fastClamp_cycle : (s.fastClamp).cycle = s.cycle := by simp [State.fastClamp]
@[simp] theorem State.fastClamp_alloc : (s.fastClamp).alloc = s.alloc := by simp [State.fastClamp]
@[simp] theorem State.fastClamp_burst : (s.fastClamp).burst = s.burst := by simp [State.fastClamp]
@[simp] theorem State.fastClamp_ports : (s.fastClamp).ports = s.ports := by simp [State.fastClamp]
@[simp] theorem State.fastClamp_alerts : (s.fastClamp).alerts = s.alerts := by simp [State.fastClamp]
@[simp] theorem State.fastClamp_store : (s.fastClamp).store = s.store := by simp [State.fastClamp]
@[simp] theorem State.fastClamp_port  (q : LinkId) : (s.fastClamp).port q = s.port q := by simp [State.port]
@[simp] theorem State.fastClamp_alert  (q : LinkId) : (s.fastClamp).alert q = s.alert q := by simp [State.alert]
@[simp] theorem State.fastClamp_bindings  : (s.fastClamp).bindings = s.bindings := by simp [State.bindings]
@[simp] theorem State.fastClamp_bayBlock  (m : Bay) : (s.fastClamp).bayBlock m = s.bayBlock m := by simp [State.bayBlock]
@[simp] theorem State.fastClamp_occupied  (m : Bay) : (s.fastClamp).occupied m = s.occupied m := by simp [State.occupied]

@[simp] theorem State.assertDerate_pending : (s.assertDerate).pending = s.pending := by unfold State.assertDerate; dsimp only; split <;> simp
@[simp] theorem State.assertDerate_now : (s.assertDerate).now = s.now := by unfold State.assertDerate; dsimp only; split <;> simp
@[simp] theorem State.assertDerate_inReset : (s.assertDerate).inReset = s.inReset := by unfold State.assertDerate; dsimp only; split <;> simp
@[simp] theorem State.assertDerate_shelfResetArmed : (s.assertDerate).shelfResetArmed = s.shelfResetArmed := by unfold State.assertDerate; dsimp only; split <;> simp
@[simp] theorem State.assertDerate_capture : (s.assertDerate).capture = s.capture := by unfold State.assertDerate; dsimp only; split <;> simp
@[simp] theorem State.assertDerate_sensors : (s.assertDerate).sensors = s.sensors := by unfold State.assertDerate; dsimp only; split <;> simp
@[simp] theorem State.assertDerate_params : (s.assertDerate).params = s.params := by unfold State.assertDerate; dsimp only; split <;> simp
@[simp] theorem State.assertDerate_alloc : (s.assertDerate).alloc = s.alloc := by unfold State.assertDerate; dsimp only; split <;> simp
@[simp] theorem State.assertDerate_burst : (s.assertDerate).burst = s.burst := by unfold State.assertDerate; dsimp only; split <;> simp
@[simp] theorem State.assertDerate_ports : (s.assertDerate).ports = s.ports := by unfold State.assertDerate; dsimp only; split <;> simp
@[simp] theorem State.assertDerate_store : (s.assertDerate).store = s.store := by unfold State.assertDerate; dsimp only; split <;> simp
@[simp] theorem State.assertDerate_port  (q : LinkId) : (s.assertDerate).port q = s.port q := by simp [State.port]
@[simp] theorem State.assertDerate_bindings  : (s.assertDerate).bindings = s.bindings := by simp [State.bindings]
@[simp] theorem State.assertDerate_bayBlock  (m : Bay) : (s.assertDerate).bayBlock m = s.bayBlock m := by simp [State.bayBlock]
@[simp] theorem State.assertDerate_occupied  (m : Bay) : (s.assertDerate).occupied m = s.occupied m := by simp [State.occupied]

@[simp] theorem State.deassertDerate_pending : (s.deassertDerate).pending = s.pending := by unfold State.deassertDerate; split <;> simp
@[simp] theorem State.deassertDerate_now : (s.deassertDerate).now = s.now := by unfold State.deassertDerate; split <;> simp
@[simp] theorem State.deassertDerate_inReset : (s.deassertDerate).inReset = s.inReset := by unfold State.deassertDerate; split <;> simp
@[simp] theorem State.deassertDerate_shelfResetArmed : (s.deassertDerate).shelfResetArmed = s.shelfResetArmed := by unfold State.deassertDerate; split <;> simp
@[simp] theorem State.deassertDerate_capture : (s.deassertDerate).capture = s.capture := by unfold State.deassertDerate; split <;> simp
@[simp] theorem State.deassertDerate_sensors : (s.deassertDerate).sensors = s.sensors := by unfold State.deassertDerate; split <;> simp
@[simp] theorem State.deassertDerate_params : (s.deassertDerate).params = s.params := by unfold State.deassertDerate; split <;> simp
@[simp] theorem State.deassertDerate_alloc : (s.deassertDerate).alloc = s.alloc := by unfold State.deassertDerate; split <;> simp
@[simp] theorem State.deassertDerate_burst : (s.deassertDerate).burst = s.burst := by unfold State.deassertDerate; split <;> simp
@[simp] theorem State.deassertDerate_lines : (s.deassertDerate).lines = s.lines := by unfold State.deassertDerate; split <;> simp
@[simp] theorem State.deassertDerate_ports : (s.deassertDerate).ports = s.ports := by unfold State.deassertDerate; split <;> simp
@[simp] theorem State.deassertDerate_alerts : (s.deassertDerate).alerts = s.alerts := by unfold State.deassertDerate; split <;> simp
@[simp] theorem State.deassertDerate_store : (s.deassertDerate).store = s.store := by unfold State.deassertDerate; split <;> simp
@[simp] theorem State.deassertDerate_port  (q : LinkId) : (s.deassertDerate).port q = s.port q := by simp [State.port]
@[simp] theorem State.deassertDerate_alert  (q : LinkId) : (s.deassertDerate).alert q = s.alert q := by simp [State.alert]
@[simp] theorem State.deassertDerate_bindings  : (s.deassertDerate).bindings = s.bindings := by simp [State.bindings]
@[simp] theorem State.deassertDerate_bayBlock  (m : Bay) : (s.deassertDerate).bayBlock m = s.bayBlock m := by simp [State.bayBlock]
@[simp] theorem State.deassertDerate_occupied  (m : Bay) : (s.deassertDerate).occupied m = s.occupied m := by simp [State.occupied]

@[simp] theorem State.settleDrt_pending (t : Nat) : (s.settleDrt t).pending = s.pending := by unfold State.settleDrt; split <;> (try split) <;> simp
@[simp] theorem State.settleDrt_now (t : Nat) : (s.settleDrt t).now = s.now := by unfold State.settleDrt; split <;> (try split) <;> simp
@[simp] theorem State.settleDrt_inReset (t : Nat) : (s.settleDrt t).inReset = s.inReset := by unfold State.settleDrt; split <;> (try split) <;> simp
@[simp] theorem State.settleDrt_shelfResetArmed (t : Nat) : (s.settleDrt t).shelfResetArmed = s.shelfResetArmed := by unfold State.settleDrt; split <;> (try split) <;> simp
@[simp] theorem State.settleDrt_capture (t : Nat) : (s.settleDrt t).capture = s.capture := by unfold State.settleDrt; split <;> (try split) <;> simp
@[simp] theorem State.settleDrt_sensors (t : Nat) : (s.settleDrt t).sensors = s.sensors := by unfold State.settleDrt; split <;> (try split) <;> simp
@[simp] theorem State.settleDrt_params (t : Nat) : (s.settleDrt t).params = s.params := by unfold State.settleDrt; split <;> (try split) <;> simp
@[simp] theorem State.settleDrt_alloc (t : Nat) : (s.settleDrt t).alloc = s.alloc := by unfold State.settleDrt; split <;> (try split) <;> simp
@[simp] theorem State.settleDrt_burst (t : Nat) : (s.settleDrt t).burst = s.burst := by unfold State.settleDrt; split <;> (try split) <;> simp
@[simp] theorem State.settleDrt_ports (t : Nat) : (s.settleDrt t).ports = s.ports := by unfold State.settleDrt; split <;> (try split) <;> simp
@[simp] theorem State.settleDrt_store (t : Nat) : (s.settleDrt t).store = s.store := by unfold State.settleDrt; split <;> (try split) <;> simp
@[simp] theorem State.settleDrt_port (t : Nat) (q : LinkId) : (s.settleDrt t).port q = s.port q := by simp [State.port]
@[simp] theorem State.settleDrt_bindings (t : Nat) : (s.settleDrt t).bindings = s.bindings := by simp [State.bindings]
@[simp] theorem State.settleDrt_bayBlock (t : Nat) (m : Bay) : (s.settleDrt t).bayBlock m = s.bayBlock m := by simp [State.bayBlock]
@[simp] theorem State.settleDrt_occupied (t : Nat) (m : Bay) : (s.settleDrt t).occupied m = s.occupied m := by simp [State.occupied]

theorem State.installSensors_cons (l : List Bay) (p : SensorParams) (n : Bay) :
    (n :: l).foldl (fun s n => s.updateSensor n ((s.sensors.get n).remeasure p s.now) false) s =
      l.foldl (fun s n => s.updateSensor n ((s.sensors.get n).remeasure p s.now) false)
        (s.updateSensor n ((s.sensors.get n).remeasure p s.now) false) := rfl

@[simp] theorem State.installSensors_pending (p : Profile) : (s.installSensors p).pending = s.pending := by
  simp [State.installSensors, numbers8]
@[simp] theorem State.installSensors_now (p : Profile) : (s.installSensors p).now = s.now := by
  simp [State.installSensors, numbers8]
@[simp] theorem State.installSensors_inReset (p : Profile) : (s.installSensors p).inReset = s.inReset := by
  simp [State.installSensors, numbers8]
@[simp] theorem State.installSensors_shelfResetArmed (p : Profile) : (s.installSensors p).shelfResetArmed = s.shelfResetArmed := by
  simp [State.installSensors, numbers8]
@[simp] theorem State.installSensors_capture (p : Profile) : (s.installSensors p).capture = s.capture := by
  simp [State.installSensors, numbers8]
@[simp] theorem State.installSensors_cycle (p : Profile) : (s.installSensors p).cycle = s.cycle := by
  simp [State.installSensors, numbers8]
@[simp] theorem State.installSensors_alloc (p : Profile) : (s.installSensors p).alloc = s.alloc := by
  simp [State.installSensors, numbers8]
@[simp] theorem State.installSensors_burst (p : Profile) : (s.installSensors p).burst = s.burst := by
  simp [State.installSensors, numbers8]
@[simp] theorem State.installSensors_lines (p : Profile) : (s.installSensors p).lines = s.lines := by
  simp [State.installSensors, numbers8]
@[simp] theorem State.installSensors_ports (p : Profile) : (s.installSensors p).ports = s.ports := by
  simp [State.installSensors, numbers8]
@[simp] theorem State.installSensors_store (p : Profile) : (s.installSensors p).store = s.store := by
  simp [State.installSensors, numbers8]
@[simp] theorem State.installSensors_port (p : Profile) (q : LinkId) : (s.installSensors p).port q = s.port q := by simp [State.port]
@[simp] theorem State.installSensors_bindings (p : Profile) : (s.installSensors p).bindings = s.bindings := by simp [State.bindings]
@[simp] theorem State.installSensors_bayBlock (p : Profile) (m : Bay) : (s.installSensors p).bayBlock m = s.bayBlock m := by simp [State.bayBlock]
@[simp] theorem State.installSensors_occupied (p : Profile) (m : Bay) : (s.installSensors p).occupied m = s.occupied m := by simp [State.occupied]

@[simp] theorem State.installBurst_pending (b : Row8 (List Bay)) (p : Profile) : (s.installBurst b p).pending = s.pending := by simp [State.installBurst]
@[simp] theorem State.installBurst_now (b : Row8 (List Bay)) (p : Profile) : (s.installBurst b p).now = s.now := by simp [State.installBurst]
@[simp] theorem State.installBurst_inReset (b : Row8 (List Bay)) (p : Profile) : (s.installBurst b p).inReset = s.inReset := by simp [State.installBurst]
@[simp] theorem State.installBurst_shelfResetArmed (b : Row8 (List Bay)) (p : Profile) : (s.installBurst b p).shelfResetArmed = s.shelfResetArmed := by simp [State.installBurst]
@[simp] theorem State.installBurst_capture (b : Row8 (List Bay)) (p : Profile) : (s.installBurst b p).capture = s.capture := by simp [State.installBurst]
@[simp] theorem State.installBurst_sensors (b : Row8 (List Bay)) (p : Profile) : (s.installBurst b p).sensors = s.sensors := by simp [State.installBurst]
@[simp] theorem State.installBurst_params (b : Row8 (List Bay)) (p : Profile) : (s.installBurst b p).params = s.params := by simp [State.installBurst]
@[simp] theorem State.installBurst_cycle (b : Row8 (List Bay)) (p : Profile) : (s.installBurst b p).cycle = s.cycle := by simp [State.installBurst]
@[simp] theorem State.installBurst_alloc (b : Row8 (List Bay)) (p : Profile) : (s.installBurst b p).alloc = s.alloc := by simp [State.installBurst]
@[simp] theorem State.installBurst_lines (b : Row8 (List Bay)) (p : Profile) : (s.installBurst b p).lines = s.lines := by simp [State.installBurst]
@[simp] theorem State.installBurst_ports (b : Row8 (List Bay)) (p : Profile) : (s.installBurst b p).ports = s.ports := by simp [State.installBurst]
@[simp] theorem State.installBurst_store (b : Row8 (List Bay)) (p : Profile) : (s.installBurst b p).store = s.store := by simp [State.installBurst]
@[simp] theorem State.installBurst_port (b : Row8 (List Bay)) (p : Profile) (q : LinkId) : (s.installBurst b p).port q = s.port q := by simp [State.port]
@[simp] theorem State.installBurst_bindings (b : Row8 (List Bay)) (p : Profile) : (s.installBurst b p).bindings = s.bindings := by simp [State.bindings]
@[simp] theorem State.installBurst_bayBlock (b : Row8 (List Bay)) (p : Profile) (m : Bay) : (s.installBurst b p).bayBlock m = s.bayBlock m := by simp [State.bayBlock]
@[simp] theorem State.installBurst_occupied (b : Row8 (List Bay)) (p : Profile) (m : Bay) : (s.installBurst b p).occupied m = s.occupied m := by simp [State.occupied]

@[simp] theorem State.install_pending (p : Profile) (t : Nat) : (s.install p t).pending = s.pending := by simp [State.install]
@[simp] theorem State.install_now (p : Profile) (t : Nat) : (s.install p t).now = s.now := by simp [State.install]
@[simp] theorem State.install_inReset (p : Profile) (t : Nat) : (s.install p t).inReset = s.inReset := by simp [State.install]
@[simp] theorem State.install_shelfResetArmed (p : Profile) (t : Nat) : (s.install p t).shelfResetArmed = s.shelfResetArmed := by simp [State.install]
@[simp] theorem State.install_capture (p : Profile) (t : Nat) : (s.install p t).capture = s.capture := by simp [State.install]
@[simp] theorem State.install_cycle (p : Profile) (t : Nat) : (s.install p t).cycle = s.cycle := by simp [State.install]
@[simp] theorem State.install_ports (p : Profile) (t : Nat) : (s.install p t).ports = s.ports := by simp [State.install]
@[simp] theorem State.install_port (p : Profile) (t : Nat) (q : LinkId) : (s.install p t).port q = s.port q := by simp [State.port]

@[simp] theorem State.installWaiting_pending (t : Nat) : (s.installWaiting t).pending = s.pending := by unfold State.installWaiting; split <;> simp
@[simp] theorem State.installWaiting_now (t : Nat) : (s.installWaiting t).now = s.now := by unfold State.installWaiting; split <;> simp
@[simp] theorem State.installWaiting_inReset (t : Nat) : (s.installWaiting t).inReset = s.inReset := by unfold State.installWaiting; split <;> simp
@[simp] theorem State.installWaiting_shelfResetArmed (t : Nat) : (s.installWaiting t).shelfResetArmed = s.shelfResetArmed := by unfold State.installWaiting; split <;> simp
@[simp] theorem State.installWaiting_capture (t : Nat) : (s.installWaiting t).capture = s.capture := by unfold State.installWaiting; split <;> simp
@[simp] theorem State.installWaiting_cycle (t : Nat) : (s.installWaiting t).cycle = s.cycle := by unfold State.installWaiting; split <;> simp
@[simp] theorem State.installWaiting_ports (t : Nat) : (s.installWaiting t).ports = s.ports := by unfold State.installWaiting; split <;> simp
@[simp] theorem State.installWaiting_port (t : Nat) (q : LinkId) : (s.installWaiting t).port q = s.port q := by simp [State.port]

@[simp] theorem State.transfer_pending (t : Nat) : (s.transfer t).pending = s.pending := by simp [State.transfer]
@[simp] theorem State.transfer_now (t : Nat) : (s.transfer t).now = s.now := by simp [State.transfer]
@[simp] theorem State.transfer_inReset (t : Nat) : (s.transfer t).inReset = s.inReset := by simp [State.transfer]
@[simp] theorem State.transfer_shelfResetArmed (t : Nat) : (s.transfer t).shelfResetArmed = s.shelfResetArmed := by simp [State.transfer]
@[simp] theorem State.transfer_capture (t : Nat) : (s.transfer t).capture = s.capture := by simp [State.transfer]
@[simp] theorem State.transfer_sensors (t : Nat) : (s.transfer t).sensors = s.sensors := by simp [State.transfer]
@[simp] theorem State.transfer_params (t : Nat) : (s.transfer t).params = s.params := by simp [State.transfer]
@[simp] theorem State.transfer_cycle (t : Nat) : (s.transfer t).cycle = s.cycle := by simp [State.transfer]
@[simp] theorem State.transfer_alloc (t : Nat) : (s.transfer t).alloc = s.alloc := by simp [State.transfer]
@[simp] theorem State.transfer_burst (t : Nat) : (s.transfer t).burst = s.burst := by simp [State.transfer]
@[simp] theorem State.transfer_ports (t : Nat) : (s.transfer t).ports = s.ports := by simp [State.transfer]
@[simp] theorem State.transfer_alerts (t : Nat) : (s.transfer t).alerts = s.alerts := by simp [State.transfer]
@[simp] theorem State.transfer_store (t : Nat) : (s.transfer t).store = s.store := by simp [State.transfer]
@[simp] theorem State.transfer_port (t : Nat) (q : LinkId) : (s.transfer t).port q = s.port q := by simp [State.port]
@[simp] theorem State.transfer_alert (t : Nat) (q : LinkId) : (s.transfer t).alert q = s.alert q := by simp [State.alert]
@[simp] theorem State.transfer_bindings (t : Nat) : (s.transfer t).bindings = s.bindings := by simp [State.bindings]
@[simp] theorem State.transfer_bayBlock (t : Nat) (m : Bay) : (s.transfer t).bayBlock m = s.bayBlock m := by simp [State.bayBlock]
@[simp] theorem State.transfer_occupied (t : Nat) (m : Bay) : (s.transfer t).occupied m = s.occupied m := by simp [State.occupied]

@[simp] theorem State.nextEpoch_pending : (s.nextEpoch).pending = s.pending := by simp [State.nextEpoch]
@[simp] theorem State.nextEpoch_now : (s.nextEpoch).now = s.now := by simp [State.nextEpoch]
@[simp] theorem State.nextEpoch_inReset : (s.nextEpoch).inReset = s.inReset := by simp [State.nextEpoch]
@[simp] theorem State.nextEpoch_shelfResetArmed : (s.nextEpoch).shelfResetArmed = s.shelfResetArmed := by simp [State.nextEpoch]
@[simp] theorem State.nextEpoch_capture : (s.nextEpoch).capture = s.capture := by simp [State.nextEpoch]
@[simp] theorem State.nextEpoch_sensors : (s.nextEpoch).sensors = s.sensors := by simp [State.nextEpoch]
@[simp] theorem State.nextEpoch_params : (s.nextEpoch).params = s.params := by simp [State.nextEpoch]
@[simp] theorem State.nextEpoch_cycle : (s.nextEpoch).cycle = s.cycle := by simp [State.nextEpoch]
@[simp] theorem State.nextEpoch_burst : (s.nextEpoch).burst = s.burst := by simp [State.nextEpoch]
@[simp] theorem State.nextEpoch_lines : (s.nextEpoch).lines = s.lines := by simp [State.nextEpoch]
@[simp] theorem State.nextEpoch_ports : (s.nextEpoch).ports = s.ports := by simp [State.nextEpoch]
@[simp] theorem State.nextEpoch_alerts : (s.nextEpoch).alerts = s.alerts := by simp [State.nextEpoch]
@[simp] theorem State.nextEpoch_store : (s.nextEpoch).store = s.store := by simp [State.nextEpoch]
@[simp] theorem State.nextEpoch_port  (q : LinkId) : (s.nextEpoch).port q = s.port q := by simp [State.port]
@[simp] theorem State.nextEpoch_alert  (q : LinkId) : (s.nextEpoch).alert q = s.alert q := by simp [State.alert]
@[simp] theorem State.nextEpoch_bindings  : (s.nextEpoch).bindings = s.bindings := by simp [State.bindings]
@[simp] theorem State.nextEpoch_bayBlock  (m : Bay) : (s.nextEpoch).bayBlock m = s.bayBlock m := by simp [State.bayBlock]
@[simp] theorem State.nextEpoch_occupied  (m : Bay) : (s.nextEpoch).occupied m = s.occupied m := by simp [State.occupied]

@[simp] theorem State.derateCheck_pending (b : Bool) : (s.derateCheck b).pending = s.pending := by unfold State.derateCheck; split <;> (try split) <;> simp
@[simp] theorem State.derateCheck_now (b : Bool) : (s.derateCheck b).now = s.now := by unfold State.derateCheck; split <;> (try split) <;> simp
@[simp] theorem State.derateCheck_inReset (b : Bool) : (s.derateCheck b).inReset = s.inReset := by unfold State.derateCheck; split <;> (try split) <;> simp
@[simp] theorem State.derateCheck_shelfResetArmed (b : Bool) : (s.derateCheck b).shelfResetArmed = s.shelfResetArmed := by unfold State.derateCheck; split <;> (try split) <;> simp
@[simp] theorem State.derateCheck_capture (b : Bool) : (s.derateCheck b).capture = s.capture := by unfold State.derateCheck; split <;> (try split) <;> simp
@[simp] theorem State.derateCheck_sensors (b : Bool) : (s.derateCheck b).sensors = s.sensors := by unfold State.derateCheck; split <;> (try split) <;> simp
@[simp] theorem State.derateCheck_params (b : Bool) : (s.derateCheck b).params = s.params := by unfold State.derateCheck; split <;> (try split) <;> simp
@[simp] theorem State.derateCheck_alloc (b : Bool) : (s.derateCheck b).alloc = s.alloc := by unfold State.derateCheck; split <;> (try split) <;> simp
@[simp] theorem State.derateCheck_burst (b : Bool) : (s.derateCheck b).burst = s.burst := by unfold State.derateCheck; split <;> (try split) <;> simp
@[simp] theorem State.derateCheck_lines (b : Bool) : (s.derateCheck b).lines = s.lines := by unfold State.derateCheck; split <;> (try split) <;> simp
@[simp] theorem State.derateCheck_ports (b : Bool) : (s.derateCheck b).ports = s.ports := by unfold State.derateCheck; split <;> (try split) <;> simp
@[simp] theorem State.derateCheck_store (b : Bool) : (s.derateCheck b).store = s.store := by unfold State.derateCheck; split <;> (try split) <;> simp
@[simp] theorem State.derateCheck_port (b : Bool) (q : LinkId) : (s.derateCheck b).port q = s.port q := by simp [State.port]
@[simp] theorem State.derateCheck_bindings (b : Bool) : (s.derateCheck b).bindings = s.bindings := by simp [State.bindings]
@[simp] theorem State.derateCheck_bayBlock (b : Bool) (m : Bay) : (s.derateCheck b).bayBlock m = s.bayBlock m := by simp [State.bayBlock]
@[simp] theorem State.derateCheck_occupied (b : Bool) (m : Bay) : (s.derateCheck b).occupied m = s.occupied m := by simp [State.occupied]

@[simp] theorem State.restartEpochTimer_pending (t : Nat) : (s.restartEpochTimer t).pending = s.pending := by unfold State.restartEpochTimer; split <;> simp
@[simp] theorem State.restartEpochTimer_now (t : Nat) : (s.restartEpochTimer t).now = s.now := by unfold State.restartEpochTimer; split <;> simp
@[simp] theorem State.restartEpochTimer_inReset (t : Nat) : (s.restartEpochTimer t).inReset = s.inReset := by unfold State.restartEpochTimer; split <;> simp
@[simp] theorem State.restartEpochTimer_shelfResetArmed (t : Nat) : (s.restartEpochTimer t).shelfResetArmed = s.shelfResetArmed := by unfold State.restartEpochTimer; split <;> simp
@[simp] theorem State.restartEpochTimer_capture (t : Nat) : (s.restartEpochTimer t).capture = s.capture := by unfold State.restartEpochTimer; split <;> simp
@[simp] theorem State.restartEpochTimer_sensors (t : Nat) : (s.restartEpochTimer t).sensors = s.sensors := by unfold State.restartEpochTimer; split <;> simp
@[simp] theorem State.restartEpochTimer_params (t : Nat) : (s.restartEpochTimer t).params = s.params := by unfold State.restartEpochTimer; split <;> simp
@[simp] theorem State.restartEpochTimer_alloc (t : Nat) : (s.restartEpochTimer t).alloc = s.alloc := by unfold State.restartEpochTimer; split <;> simp
@[simp] theorem State.restartEpochTimer_burst (t : Nat) : (s.restartEpochTimer t).burst = s.burst := by unfold State.restartEpochTimer; split <;> simp
@[simp] theorem State.restartEpochTimer_lines (t : Nat) : (s.restartEpochTimer t).lines = s.lines := by unfold State.restartEpochTimer; split <;> simp
@[simp] theorem State.restartEpochTimer_ports (t : Nat) : (s.restartEpochTimer t).ports = s.ports := by unfold State.restartEpochTimer; split <;> simp
@[simp] theorem State.restartEpochTimer_alerts (t : Nat) : (s.restartEpochTimer t).alerts = s.alerts := by unfold State.restartEpochTimer; split <;> simp
@[simp] theorem State.restartEpochTimer_store (t : Nat) : (s.restartEpochTimer t).store = s.store := by unfold State.restartEpochTimer; split <;> simp
@[simp] theorem State.restartEpochTimer_port (t : Nat) (q : LinkId) : (s.restartEpochTimer t).port q = s.port q := by simp [State.port]
@[simp] theorem State.restartEpochTimer_alert (t : Nat) (q : LinkId) : (s.restartEpochTimer t).alert q = s.alert q := by simp [State.alert]
@[simp] theorem State.restartEpochTimer_bindings (t : Nat) : (s.restartEpochTimer t).bindings = s.bindings := by simp [State.bindings]
@[simp] theorem State.restartEpochTimer_bayBlock (t : Nat) (m : Bay) : (s.restartEpochTimer t).bayBlock m = s.bayBlock m := by simp [State.bayBlock]
@[simp] theorem State.restartEpochTimer_occupied (t : Nat) (m : Bay) : (s.restartEpochTimer t).occupied m = s.occupied m := by simp [State.occupied]

@[simp] theorem State.holdsAtSnapshot_pending : (s.holdsAtSnapshot).pending = s.pending := by simp [State.holdsAtSnapshot]
@[simp] theorem State.holdsAtSnapshot_now : (s.holdsAtSnapshot).now = s.now := by simp [State.holdsAtSnapshot]
@[simp] theorem State.holdsAtSnapshot_inReset : (s.holdsAtSnapshot).inReset = s.inReset := by simp [State.holdsAtSnapshot]
@[simp] theorem State.holdsAtSnapshot_shelfResetArmed : (s.holdsAtSnapshot).shelfResetArmed = s.shelfResetArmed := by simp [State.holdsAtSnapshot]
@[simp] theorem State.holdsAtSnapshot_capture : (s.holdsAtSnapshot).capture = s.capture := by simp [State.holdsAtSnapshot]
@[simp] theorem State.holdsAtSnapshot_sensors : (s.holdsAtSnapshot).sensors = s.sensors := by simp [State.holdsAtSnapshot]
@[simp] theorem State.holdsAtSnapshot_params : (s.holdsAtSnapshot).params = s.params := by simp [State.holdsAtSnapshot]
@[simp] theorem State.holdsAtSnapshot_cycle : (s.holdsAtSnapshot).cycle = s.cycle := by simp [State.holdsAtSnapshot]
@[simp] theorem State.holdsAtSnapshot_alloc : (s.holdsAtSnapshot).alloc = s.alloc := by simp [State.holdsAtSnapshot]
@[simp] theorem State.holdsAtSnapshot_burst : (s.holdsAtSnapshot).burst = s.burst := by simp [State.holdsAtSnapshot]
@[simp] theorem State.holdsAtSnapshot_ports : (s.holdsAtSnapshot).ports = s.ports := by simp [State.holdsAtSnapshot]
@[simp] theorem State.holdsAtSnapshot_alerts : (s.holdsAtSnapshot).alerts = s.alerts := by simp [State.holdsAtSnapshot]
@[simp] theorem State.holdsAtSnapshot_store : (s.holdsAtSnapshot).store = s.store := by simp [State.holdsAtSnapshot]
@[simp] theorem State.holdsAtSnapshot_port  (q : LinkId) : (s.holdsAtSnapshot).port q = s.port q := by simp [State.port]
@[simp] theorem State.holdsAtSnapshot_alert  (q : LinkId) : (s.holdsAtSnapshot).alert q = s.alert q := by simp [State.alert]
@[simp] theorem State.holdsAtSnapshot_bindings  : (s.holdsAtSnapshot).bindings = s.bindings := by simp [State.bindings]
@[simp] theorem State.holdsAtSnapshot_bayBlock  (m : Bay) : (s.holdsAtSnapshot).bayBlock m = s.bayBlock m := by simp [State.bayBlock]
@[simp] theorem State.holdsAtSnapshot_occupied  (m : Bay) : (s.holdsAtSnapshot).occupied m = s.occupied m := by simp [State.occupied]

@[simp] theorem State.raiseRound_pending (r : RoundResult) : (s.raiseRound r).pending = s.pending := by unfold State.raiseRound; dsimp only; split <;> simp
@[simp] theorem State.raiseRound_now (r : RoundResult) : (s.raiseRound r).now = s.now := by unfold State.raiseRound; dsimp only; split <;> simp
@[simp] theorem State.raiseRound_inReset (r : RoundResult) : (s.raiseRound r).inReset = s.inReset := by unfold State.raiseRound; dsimp only; split <;> simp
@[simp] theorem State.raiseRound_shelfResetArmed (r : RoundResult) : (s.raiseRound r).shelfResetArmed = s.shelfResetArmed := by unfold State.raiseRound; dsimp only; split <;> simp
@[simp] theorem State.raiseRound_capture (r : RoundResult) : (s.raiseRound r).capture = s.capture := by unfold State.raiseRound; dsimp only; split <;> simp
@[simp] theorem State.raiseRound_sensors (r : RoundResult) : (s.raiseRound r).sensors = s.sensors := by unfold State.raiseRound; dsimp only; split <;> simp
@[simp] theorem State.raiseRound_params (r : RoundResult) : (s.raiseRound r).params = s.params := by unfold State.raiseRound; dsimp only; split <;> simp
@[simp] theorem State.raiseRound_cycle (r : RoundResult) : (s.raiseRound r).cycle = s.cycle := by unfold State.raiseRound; dsimp only; split <;> simp
@[simp] theorem State.raiseRound_alloc (r : RoundResult) : (s.raiseRound r).alloc = s.alloc := by unfold State.raiseRound; dsimp only; split <;> simp
@[simp] theorem State.raiseRound_burst (r : RoundResult) : (s.raiseRound r).burst = s.burst := by unfold State.raiseRound; dsimp only; split <;> simp
@[simp] theorem State.raiseRound_lines (r : RoundResult) : (s.raiseRound r).lines = s.lines := by unfold State.raiseRound; dsimp only; split <;> simp
@[simp] theorem State.raiseRound_ports (r : RoundResult) : (s.raiseRound r).ports = s.ports := by unfold State.raiseRound; dsimp only; split <;> simp
@[simp] theorem State.raiseRound_store (r : RoundResult) : (s.raiseRound r).store = s.store := by unfold State.raiseRound; dsimp only; split <;> simp
@[simp] theorem State.raiseRound_port (r : RoundResult) (q : LinkId) : (s.raiseRound r).port q = s.port q := by simp [State.port]
@[simp] theorem State.raiseRound_bindings (r : RoundResult) : (s.raiseRound r).bindings = s.bindings := by simp [State.bindings]
@[simp] theorem State.raiseRound_bayBlock (r : RoundResult) (m : Bay) : (s.raiseRound r).bayBlock m = s.bayBlock m := by simp [State.bayBlock]
@[simp] theorem State.raiseRound_occupied (r : RoundResult) (m : Bay) : (s.raiseRound r).occupied m = s.occupied m := by simp [State.occupied]

@[simp] theorem State.beginOperation_pending (c : Bool) : (s.beginOperation c).pending = s.pending := by unfold State.beginOperation; split <;> simp
@[simp] theorem State.beginOperation_now (c : Bool) : (s.beginOperation c).now = s.now := by unfold State.beginOperation; split <;> simp
@[simp] theorem State.beginOperation_inReset (c : Bool) : (s.beginOperation c).inReset = s.inReset := by unfold State.beginOperation; split <;> simp
@[simp] theorem State.beginOperation_shelfResetArmed (c : Bool) : (s.beginOperation c).shelfResetArmed = s.shelfResetArmed := by unfold State.beginOperation; split <;> simp
@[simp] theorem State.beginOperation_capture (c : Bool) : (s.beginOperation c).capture = s.capture := by unfold State.beginOperation; split <;> simp
@[simp] theorem State.beginOperation_sensors (c : Bool) : (s.beginOperation c).sensors = s.sensors := by unfold State.beginOperation; split <;> simp
@[simp] theorem State.beginOperation_params (c : Bool) : (s.beginOperation c).params = s.params := by unfold State.beginOperation; split <;> simp
@[simp] theorem State.beginOperation_cycle (c : Bool) : (s.beginOperation c).cycle = s.cycle := by unfold State.beginOperation; split <;> simp
@[simp] theorem State.beginOperation_lines (c : Bool) : (s.beginOperation c).lines = s.lines := by unfold State.beginOperation; split <;> simp
@[simp] theorem State.beginOperation_ports (c : Bool) : (s.beginOperation c).ports = s.ports := by unfold State.beginOperation; split <;> simp
@[simp] theorem State.beginOperation_store (c : Bool) : (s.beginOperation c).store = s.store := by unfold State.beginOperation; split <;> simp
@[simp] theorem State.beginOperation_port (c : Bool) (q : LinkId) : (s.beginOperation c).port q = s.port q := by simp [State.port]
@[simp] theorem State.beginOperation_bindings (c : Bool) : (s.beginOperation c).bindings = s.bindings := by simp [State.bindings]
@[simp] theorem State.beginOperation_bayBlock (c : Bool) (m : Bay) : (s.beginOperation c).bayBlock m = s.bayBlock m := by simp [State.bayBlock]
@[simp] theorem State.beginOperation_occupied (c : Bool) (m : Bay) : (s.beginOperation c).occupied m = s.occupied m := by simp [State.occupied]

@[simp] theorem State.takeBoundary_pending (t : Nat) : (s.takeBoundary t).pending = s.pending := by simp [State.takeBoundary]
@[simp] theorem State.takeBoundary_now (t : Nat) : (s.takeBoundary t).now = s.now := by simp [State.takeBoundary]
@[simp] theorem State.takeBoundary_inReset (t : Nat) : (s.takeBoundary t).inReset = s.inReset := by simp [State.takeBoundary]
@[simp] theorem State.takeBoundary_shelfResetArmed (t : Nat) : (s.takeBoundary t).shelfResetArmed = s.shelfResetArmed := by simp [State.takeBoundary]
@[simp] theorem State.takeBoundary_capture (t : Nat) : (s.takeBoundary t).capture = s.capture := by simp [State.takeBoundary]
@[simp] theorem State.takeBoundary_ports (t : Nat) : (s.takeBoundary t).ports = s.ports := by simp [State.takeBoundary]
@[simp] theorem State.takeBoundary_port (t : Nat) (q : LinkId) : (s.takeBoundary t).port q = s.port q := by simp [State.port]

@[simp] theorem State.raiseCompletion_pending (x : Snapshot) (b : Row8 (Option EpochRecord)) : (s.raiseCompletion x b).pending = s.pending := by unfold State.raiseCompletion; dsimp only; split <;> simp
@[simp] theorem State.raiseCompletion_now (x : Snapshot) (b : Row8 (Option EpochRecord)) : (s.raiseCompletion x b).now = s.now := by unfold State.raiseCompletion; dsimp only; split <;> simp
@[simp] theorem State.raiseCompletion_inReset (x : Snapshot) (b : Row8 (Option EpochRecord)) : (s.raiseCompletion x b).inReset = s.inReset := by unfold State.raiseCompletion; dsimp only; split <;> simp
@[simp] theorem State.raiseCompletion_shelfResetArmed (x : Snapshot) (b : Row8 (Option EpochRecord)) : (s.raiseCompletion x b).shelfResetArmed = s.shelfResetArmed := by unfold State.raiseCompletion; dsimp only; split <;> simp
@[simp] theorem State.raiseCompletion_capture (x : Snapshot) (b : Row8 (Option EpochRecord)) : (s.raiseCompletion x b).capture = s.capture := by unfold State.raiseCompletion; dsimp only; split <;> simp
@[simp] theorem State.raiseCompletion_sensors (x : Snapshot) (b : Row8 (Option EpochRecord)) : (s.raiseCompletion x b).sensors = s.sensors := by unfold State.raiseCompletion; dsimp only; split <;> simp
@[simp] theorem State.raiseCompletion_params (x : Snapshot) (b : Row8 (Option EpochRecord)) : (s.raiseCompletion x b).params = s.params := by unfold State.raiseCompletion; dsimp only; split <;> simp
@[simp] theorem State.raiseCompletion_cycle (x : Snapshot) (b : Row8 (Option EpochRecord)) : (s.raiseCompletion x b).cycle = s.cycle := by unfold State.raiseCompletion; dsimp only; split <;> simp
@[simp] theorem State.raiseCompletion_alloc (x : Snapshot) (b : Row8 (Option EpochRecord)) : (s.raiseCompletion x b).alloc = s.alloc := by unfold State.raiseCompletion; dsimp only; split <;> simp
@[simp] theorem State.raiseCompletion_burst (x : Snapshot) (b : Row8 (Option EpochRecord)) : (s.raiseCompletion x b).burst = s.burst := by unfold State.raiseCompletion; dsimp only; split <;> simp
@[simp] theorem State.raiseCompletion_lines (x : Snapshot) (b : Row8 (Option EpochRecord)) : (s.raiseCompletion x b).lines = s.lines := by unfold State.raiseCompletion; dsimp only; split <;> simp
@[simp] theorem State.raiseCompletion_ports (x : Snapshot) (b : Row8 (Option EpochRecord)) : (s.raiseCompletion x b).ports = s.ports := by unfold State.raiseCompletion; dsimp only; split <;> simp
@[simp] theorem State.raiseCompletion_store (x : Snapshot) (b : Row8 (Option EpochRecord)) : (s.raiseCompletion x b).store = s.store := by unfold State.raiseCompletion; dsimp only; split <;> simp
@[simp] theorem State.raiseCompletion_port (x : Snapshot) (b : Row8 (Option EpochRecord)) (q : LinkId) : (s.raiseCompletion x b).port q = s.port q := by simp [State.port]
@[simp] theorem State.raiseCompletion_bindings (x : Snapshot) (b : Row8 (Option EpochRecord)) : (s.raiseCompletion x b).bindings = s.bindings := by simp [State.bindings]
@[simp] theorem State.raiseCompletion_bayBlock (x : Snapshot) (b : Row8 (Option EpochRecord)) (m : Bay) : (s.raiseCompletion x b).bayBlock m = s.bayBlock m := by simp [State.bayBlock]
@[simp] theorem State.raiseCompletion_occupied (x : Snapshot) (b : Row8 (Option EpochRecord)) (m : Bay) : (s.raiseCompletion x b).occupied m = s.occupied m := by simp [State.occupied]

@[simp] theorem State.stageCounts_pending (x : Snapshot) : (s.stageCounts x).pending = s.pending := by simp [State.stageCounts]
@[simp] theorem State.stageCounts_now (x : Snapshot) : (s.stageCounts x).now = s.now := by simp [State.stageCounts]
@[simp] theorem State.stageCounts_inReset (x : Snapshot) : (s.stageCounts x).inReset = s.inReset := by simp [State.stageCounts]
@[simp] theorem State.stageCounts_shelfResetArmed (x : Snapshot) : (s.stageCounts x).shelfResetArmed = s.shelfResetArmed := by simp [State.stageCounts]
@[simp] theorem State.stageCounts_capture (x : Snapshot) : (s.stageCounts x).capture = s.capture := by simp [State.stageCounts]
@[simp] theorem State.stageCounts_sensors (x : Snapshot) : (s.stageCounts x).sensors = s.sensors := by simp [State.stageCounts]
@[simp] theorem State.stageCounts_params (x : Snapshot) : (s.stageCounts x).params = s.params := by simp [State.stageCounts]
@[simp] theorem State.stageCounts_cycle (x : Snapshot) : (s.stageCounts x).cycle = s.cycle := by simp [State.stageCounts]
@[simp] theorem State.stageCounts_alloc (x : Snapshot) : (s.stageCounts x).alloc = s.alloc := by simp [State.stageCounts]
@[simp] theorem State.stageCounts_burst (x : Snapshot) : (s.stageCounts x).burst = s.burst := by simp [State.stageCounts]
@[simp] theorem State.stageCounts_ports (x : Snapshot) : (s.stageCounts x).ports = s.ports := by simp [State.stageCounts]
@[simp] theorem State.stageCounts_alerts (x : Snapshot) : (s.stageCounts x).alerts = s.alerts := by simp [State.stageCounts]
@[simp] theorem State.stageCounts_store (x : Snapshot) : (s.stageCounts x).store = s.store := by simp [State.stageCounts]
@[simp] theorem State.stageCounts_port (x : Snapshot) (q : LinkId) : (s.stageCounts x).port q = s.port q := by simp [State.port]
@[simp] theorem State.stageCounts_alert (x : Snapshot) (q : LinkId) : (s.stageCounts x).alert q = s.alert q := by simp [State.alert]
@[simp] theorem State.stageCounts_bindings (x : Snapshot) : (s.stageCounts x).bindings = s.bindings := by simp [State.bindings]
@[simp] theorem State.stageCounts_bayBlock (x : Snapshot) (m : Bay) : (s.stageCounts x).bayBlock m = s.bayBlock m := by simp [State.bayBlock]
@[simp] theorem State.stageCounts_occupied (x : Snapshot) (m : Bay) : (s.stageCounts x).occupied m = s.occupied m := by simp [State.occupied]

@[simp] theorem State.complete_pending (x : Snapshot) : (s.complete x).pending = s.pending := by simp [State.complete]
@[simp] theorem State.complete_now (x : Snapshot) : (s.complete x).now = s.now := by simp [State.complete]
@[simp] theorem State.complete_inReset (x : Snapshot) : (s.complete x).inReset = s.inReset := by simp [State.complete]
@[simp] theorem State.complete_shelfResetArmed (x : Snapshot) : (s.complete x).shelfResetArmed = s.shelfResetArmed := by simp [State.complete]
@[simp] theorem State.complete_capture (x : Snapshot) : (s.complete x).capture = s.capture := by simp [State.complete]
@[simp] theorem State.complete_sensors (x : Snapshot) : (s.complete x).sensors = s.sensors := by simp [State.complete]
@[simp] theorem State.complete_params (x : Snapshot) : (s.complete x).params = s.params := by simp [State.complete]
@[simp] theorem State.complete_cycle (x : Snapshot) : (s.complete x).cycle = s.cycle := by simp [State.complete]
@[simp] theorem State.complete_burst (x : Snapshot) : (s.complete x).burst = s.burst := by simp [State.complete]
@[simp] theorem State.complete_ports (x : Snapshot) : (s.complete x).ports = s.ports := by simp [State.complete]
@[simp] theorem State.complete_store (x : Snapshot) : (s.complete x).store = s.store := by simp [State.complete]
@[simp] theorem State.complete_port (x : Snapshot) (q : LinkId) : (s.complete x).port q = s.port q := by simp [State.port]
@[simp] theorem State.complete_bindings (x : Snapshot) : (s.complete x).bindings = s.bindings := by simp [State.bindings]
@[simp] theorem State.complete_bayBlock (x : Snapshot) (m : Bay) : (s.complete x).bayBlock m = s.bayBlock m := by simp [State.bayBlock]
@[simp] theorem State.complete_occupied (x : Snapshot) (m : Bay) : (s.complete x).occupied m = s.occupied m := by simp [State.occupied]

@[simp] theorem State.completeFlight_pending : (s.completeFlight).pending = s.pending := by unfold State.completeFlight; split <;> simp
@[simp] theorem State.completeFlight_now : (s.completeFlight).now = s.now := by unfold State.completeFlight; split <;> simp
@[simp] theorem State.completeFlight_inReset : (s.completeFlight).inReset = s.inReset := by unfold State.completeFlight; split <;> simp
@[simp] theorem State.completeFlight_shelfResetArmed : (s.completeFlight).shelfResetArmed = s.shelfResetArmed := by unfold State.completeFlight; split <;> simp
@[simp] theorem State.completeFlight_capture : (s.completeFlight).capture = s.capture := by unfold State.completeFlight; split <;> simp
@[simp] theorem State.completeFlight_sensors : (s.completeFlight).sensors = s.sensors := by unfold State.completeFlight; split <;> simp
@[simp] theorem State.completeFlight_params : (s.completeFlight).params = s.params := by unfold State.completeFlight; split <;> simp
@[simp] theorem State.completeFlight_cycle : (s.completeFlight).cycle = s.cycle := by unfold State.completeFlight; split <;> simp
@[simp] theorem State.completeFlight_burst : (s.completeFlight).burst = s.burst := by unfold State.completeFlight; split <;> simp
@[simp] theorem State.completeFlight_ports : (s.completeFlight).ports = s.ports := by unfold State.completeFlight; split <;> simp
@[simp] theorem State.completeFlight_store : (s.completeFlight).store = s.store := by unfold State.completeFlight; split <;> simp
@[simp] theorem State.completeFlight_port  (q : LinkId) : (s.completeFlight).port q = s.port q := by simp [State.port]
@[simp] theorem State.completeFlight_bindings  : (s.completeFlight).bindings = s.bindings := by simp [State.bindings]
@[simp] theorem State.completeFlight_bayBlock  (m : Bay) : (s.completeFlight).bayBlock m = s.bayBlock m := by simp [State.bayBlock]
@[simp] theorem State.completeFlight_occupied  (m : Bay) : (s.completeFlight).occupied m = s.occupied m := by simp [State.occupied]

/-- What the hand-out can do over any list of bays without repeats: bay `n` receives 1 hw exactly if it is visited while
eligible and fewer eligible bays than there are hw to hand out stand before it (R93). -/
theorem handOut_get (pooled : Bay → Nat) (n : Bay) (l : List Bay) (hl : l.Nodup) (v : Nat) (r : Row8 Nat) :
    (l.foldl (handOutVisit pooled) (v, r)).2.get n = r.get n +
      if n ∈ l ∧ r.get n < pooled n ∧ (l.takeWhile (· != n)).countP (fun m => decide (r.get m < pooled m)) < v then 1
      else 0 := by
  induction l generalizing v r with
  | nil => simp
  | cons m l ih =>
    obtain ⟨hm, hl⟩ := List.nodup_cons.mp hl
    rw [List.foldl_cons]
    by_cases h : 0 < v ∧ r.get m < pooled m
    · rw [handOutVisit, if_pos h, ih hl]
      have hc : (l.takeWhile (· != n)).countP (fun k => decide ((r.set m (r.get m + 1)).get k < pooled k)) =
          (l.takeWhile (· != n)).countP fun k => decide (r.get k < pooled k) := by
        refine List.countP_congr fun k hk => ?_
        have hk : k ≠ m := fun e => hm (e ▸ (List.takeWhile_prefix _).subset hk)
        simp [hk]
      rw [hc]
      by_cases hn : n = m
      · subst hn; simp [hm, h]
      · have hn' : m ≠ n := fun e => hn e.symm
        have hb : (m != n) = true := bne_iff_ne.mpr hn'
        simp only [Row8.get_set, hn, if_false, List.mem_cons, false_or, List.takeWhile_cons, hb, if_true,
          List.countP_cons, decide_eq_true_eq, h.2]
        refine congrArg _ (if_congr (and_congr_right fun _ => and_congr_right fun _ => ?_) rfl rfl)
        omega
    · rw [handOutVisit, if_neg h, ih hl]
      by_cases hn : n = m
      · subst hn; simp [hm]; omega
      · have hn' : m ≠ n := fun e => hn e.symm
        by_cases he : r.get m < pooled m
        · have : v = 0 := by omega
          subst this; simp
        · simp [hn, hn', he]

/-! ### Step 2 of the round (R112, R117) -/

/-- While K stands above S the shelf blocks every head, and none is admitted (R117). -/
theorem RoundWork.run_above {cap : Nat} {w : RoundWork} (h : cap < w.total) (e : QueueEntry) (rest : List QueueEntry) :
    w.run cap (e :: rest) = (w, e :: rest, .blockedByShelf) := by
  simp [RoundWork.run, RoundWork.blocks, h]

/-- Step 2 never raises K above S (R117). -/
theorem RoundWork.run_total_le (cap : Nat) (w : RoundWork) (q : List QueueEntry) :
    (w.run cap q).1.total ≤ max cap w.total := by
  induction q generalizing w with
  | nil => exact Nat.le_max_right ..
  | cons e rest ih =>
    simp only [RoundWork.run]
    split
    · exact Nat.le_max_right ..
    · rename_i h
      refine Nat.le_trans (ih _) (Nat.max_le.2 ⟨Nat.le_max_left .., ?_⟩)
      have : w.total + e.amount ≤ cap := by
        unfold RoundWork.blocks at h
        split_ifs at h
        omega
      exact Nat.le_trans this (Nat.le_max_left ..)

end Sys2Proof.Machine
end

