-- ==== Sys2Proof/Laws/Links.lean ====
section
/-! SUPPORT. What the operations of the Link Ports leave untouched (Chapter 8). -/

namespace Sys2Proof.Machine

variable (s : State)

/-! ### A release of reset -/

/-- A release of reset sets each port by itself: to its reset values, but for the level of its receive line (R159). -/
@[simp] theorem State.port_atRelease (t : Nat) (k : LinkId) : (s.atRelease t).port k = (s.port k).atRelease t :=
  PerLink.get_map _ _ k

@[simp] theorem Port.atRelease_rx (p : Port) (t : Nat) : (p.atRelease t).rx = .hunt := rfl
@[simp] theorem Port.atRelease_lowSince (p : Port) (t : Nat) : (p.atRelease t).lowSince = p.lowSince.map fun _ => t := rfl
@[simp] theorem Port.atRelease_char (p : Port) (t : Nat) : (p.atRelease t).char = none := rfl
@[simp] theorem Port.atRelease_seenTo (p : Port) (t : Nat) : (p.atRelease t).seenTo = t := rfl
@[simp] theorem Port.atRelease_inBreak (p : Port) (t : Nat) : (p.atRelease t).inBreak = false := rfl
@[simp] theorem Port.atRelease_inbox (p : Port) (t : Nat) : (p.atRelease t).inbox = [] := rfl
@[simp] theorem Port.atRelease_reply (p : Port) (t : Nat) : (p.atRelease t).reply = none := rfl
@[simp] theorem Port.atRelease_counters (p : Port) (t : Nat) : (p.atRelease t).counters = LinkCounters.zero := rfl

@[simp] theorem Port.atRelease_tx (p : Port) (t : Nat) : (p.atRelease t).tx = ⟨0, []⟩ := rfl
@[simp] theorem Port.atRelease_started (p : Port) (t : Nat) : (p.atRelease t).started = p.started := rfl

/-- The reset of a served SHELF RESET is a release at the instant it is taken: what a reset leaves, from that instant on
(R159, R171). -/
theorem State.takeShelfReset_eq :
    s.takeShelfReset =
      (s.advance (s.port .shelf).tx.ends).atRelease (max s.now (s.port .shelf).tx.ends) := rfl

@[simp] theorem State.takeShelfReset_pending : s.takeShelfReset.pending = s.pending := rfl
@[simp] theorem State.takeShelfReset_now : s.takeShelfReset.now = max s.now (s.port .shelf).tx.ends := rfl
@[simp] theorem State.takeShelfReset_inReset : s.takeShelfReset.inReset = false := rfl
@[simp] theorem State.takeShelfReset_shelfResetArmed : s.takeShelfReset.shelfResetArmed = false := rfl
@[simp] theorem State.takeShelfReset_port (k : LinkId) :
    s.takeShelfReset.port k = (s.port k).atRelease (max s.now (s.port .shelf).tx.ends) :=
  s.advance (s.port .shelf).tx.ends |>.port_atRelease _ k

/-! ### Transmissions -/

/-- A cut-off lets a transmission through up to the end of a character, at the earliest at its own instant. -/
theorem Transmission.cutAt_start (x : Transmission) (t : Nat) : (x.cutAt t).start = min x.start t := rfl

/-- A transmission that is still to start is not begun. -/
theorem Transmission.cutAt_before {x : Transmission} {t : Nat} (h : t ≤ x.start) : x.cutAt t = ⟨t, []⟩ := by
  have hz : t - x.start = 0 := by omega
  simp [Transmission.cutAt, hz, Nat.min_eq_right h, charTime, us, Config.nsPerUs]

/-- A reply handed to a transmitter starts within 50 µs (R153). -/
theorem State.replyStart_bounds (k : LinkId) : s.now ≤ s.replyStart k ∧ s.replyStart k ≤ s.now + us 50 :=
  ⟨Nat.le_add_right _ _, Nat.add_le_add_left (Nat.min_le_right _ _) _⟩

@[simp] theorem State.send_pending (k : LinkId) (x : Reply) : (s.send k x).pending = s.pending := rfl
@[simp] theorem State.send_now (k : LinkId) (x : Reply) : (s.send k x).now = s.now := rfl
@[simp] theorem State.send_inReset (k : LinkId) (x : Reply) : (s.send k x).inReset = s.inReset := rfl
@[simp] theorem State.send_shelfResetArmed (k : LinkId) (x : Reply) : (s.send k x).shelfResetArmed = s.shelfResetArmed := rfl
@[simp] theorem State.send_alert (k : LinkId) (x : Reply) (j : LinkId) : (s.send k x).alert j = s.alert j := rfl
@[simp] theorem State.send_port (k : LinkId) (x : Reply) (j : LinkId) :
    (s.send k x).port j =
      if j = k then
        { s.port k with reply := some x, tx := ⟨s.replyStart k, x.frame⟩, started := (s.port k).started + 1 }
      else s.port j := by
  simp [State.send]

/-! ### The links' operations, field by field -/

@[simp] theorem State.seen_pending (k : LinkId) (t : Nat) : (s.seen k t).pending = s.pending := rfl
@[simp] theorem State.seen_now (k : LinkId) (t : Nat) : (s.seen k t).now = s.now := rfl
@[simp] theorem State.seen_inReset (k : LinkId) (t : Nat) : (s.seen k t).inReset = s.inReset := rfl
@[simp] theorem State.seen_shelfResetArmed (k : LinkId) (t : Nat) : (s.seen k t).shelfResetArmed = s.shelfResetArmed := rfl
@[simp] theorem State.seen_alert (k : LinkId) (t : Nat) (j : LinkId) : (s.seen k t).alert j = s.alert j := rfl
@[simp] theorem State.seen_port (k : LinkId) (t : Nat) (j : LinkId) :
    (s.seen k t).port j = if j = k then { s.port k with seenTo := max (s.port k).seenTo t } else s.port j := by
  simp [State.seen]

@[simp] theorem State.linkError_pending (k : LinkId) (c : LinkCause) (rx : RxState) : (s.linkError k c rx).pending = s.pending := by simp [State.linkError]
@[simp] theorem State.linkError_now (k : LinkId) (c : LinkCause) (rx : RxState) : (s.linkError k c rx).now = s.now := by simp [State.linkError]
@[simp] theorem State.linkError_inReset (k : LinkId) (c : LinkCause) (rx : RxState) : (s.linkError k c rx).inReset = s.inReset := by simp [State.linkError]
@[simp] theorem State.linkError_shelfResetArmed (k : LinkId) (c : LinkCause) (rx : RxState) : (s.linkError k c rx).shelfResetArmed = s.shelfResetArmed := by simp [State.linkError]
@[simp] theorem State.linkError_capture (k : LinkId) (c : LinkCause) (rx : RxState) : (s.linkError k c rx).capture = s.capture := by simp [State.linkError]
@[simp] theorem State.linkError_sensors (k : LinkId) (c : LinkCause) (rx : RxState) : (s.linkError k c rx).sensors = s.sensors := by simp [State.linkError]
@[simp] theorem State.linkError_params (k : LinkId) (c : LinkCause) (rx : RxState) : (s.linkError k c rx).params = s.params := by simp [State.linkError]
@[simp] theorem State.linkError_cycle (k : LinkId) (c : LinkCause) (rx : RxState) : (s.linkError k c rx).cycle = s.cycle := by simp [State.linkError]
@[simp] theorem State.linkError_alloc (k : LinkId) (c : LinkCause) (rx : RxState) : (s.linkError k c rx).alloc = s.alloc := by simp [State.linkError]
@[simp] theorem State.linkError_burst (k : LinkId) (c : LinkCause) (rx : RxState) : (s.linkError k c rx).burst = s.burst := by simp [State.linkError]
@[simp] theorem State.linkError_lines (k : LinkId) (c : LinkCause) (rx : RxState) : (s.linkError k c rx).lines = s.lines := by simp [State.linkError]
@[simp] theorem State.linkError_store (k : LinkId) (c : LinkCause) (rx : RxState) : (s.linkError k c rx).store = s.store := by simp [State.linkError]
@[simp] theorem State.linkError_bindings (k : LinkId) (c : LinkCause) (rx : RxState) : (s.linkError k c rx).bindings = s.bindings := by simp [State.bindings]
@[simp] theorem State.linkError_bayBlock (k : LinkId) (c : LinkCause) (rx : RxState) (m : Bay) : (s.linkError k c rx).bayBlock m = s.bayBlock m := by simp [State.bayBlock]
@[simp] theorem State.linkError_occupied (k : LinkId) (c : LinkCause) (rx : RxState) (m : Bay) : (s.linkError k c rx).occupied m = s.occupied m := by simp [State.occupied]

@[simp] theorem State.takeLinkGap_pending (k : LinkId) (t : Nat) : (s.takeLinkGap k t).pending = s.pending := by unfold State.takeLinkGap; split <;> simp
@[simp] theorem State.takeLinkGap_now (k : LinkId) (t : Nat) : (s.takeLinkGap k t).now = s.now := by unfold State.takeLinkGap; split <;> simp
@[simp] theorem State.takeLinkGap_inReset (k : LinkId) (t : Nat) : (s.takeLinkGap k t).inReset = s.inReset := by unfold State.takeLinkGap; split <;> simp
@[simp] theorem State.takeLinkGap_shelfResetArmed (k : LinkId) (t : Nat) : (s.takeLinkGap k t).shelfResetArmed = s.shelfResetArmed := by unfold State.takeLinkGap; split <;> simp
@[simp] theorem State.takeLinkGap_capture (k : LinkId) (t : Nat) : (s.takeLinkGap k t).capture = s.capture := by unfold State.takeLinkGap; split <;> simp
@[simp] theorem State.takeLinkGap_sensors (k : LinkId) (t : Nat) : (s.takeLinkGap k t).sensors = s.sensors := by unfold State.takeLinkGap; split <;> simp
@[simp] theorem State.takeLinkGap_params (k : LinkId) (t : Nat) : (s.takeLinkGap k t).params = s.params := by unfold State.takeLinkGap; split <;> simp
@[simp] theorem State.takeLinkGap_cycle (k : LinkId) (t : Nat) : (s.takeLinkGap k t).cycle = s.cycle := by unfold State.takeLinkGap; split <;> simp
@[simp] theorem State.takeLinkGap_alloc (k : LinkId) (t : Nat) : (s.takeLinkGap k t).alloc = s.alloc := by unfold State.takeLinkGap; split <;> simp
@[simp] theorem State.takeLinkGap_burst (k : LinkId) (t : Nat) : (s.takeLinkGap k t).burst = s.burst := by unfold State.takeLinkGap; split <;> simp
@[simp] theorem State.takeLinkGap_lines (k : LinkId) (t : Nat) : (s.takeLinkGap k t).lines = s.lines := by unfold State.takeLinkGap; split <;> simp
@[simp] theorem State.takeLinkGap_store (k : LinkId) (t : Nat) : (s.takeLinkGap k t).store = s.store := by unfold State.takeLinkGap; split <;> simp
@[simp] theorem State.takeLinkGap_bindings (k : LinkId) (t : Nat) : (s.takeLinkGap k t).bindings = s.bindings := by simp [State.bindings]
@[simp] theorem State.takeLinkGap_bayBlock (k : LinkId) (t : Nat) (m : Bay) : (s.takeLinkGap k t).bayBlock m = s.bayBlock m := by simp [State.bayBlock]
@[simp] theorem State.takeLinkGap_occupied (k : LinkId) (t : Nat) (m : Bay) : (s.takeLinkGap k t).occupied m = s.occupied m := by simp [State.occupied]

@[simp] theorem State.takeDiscardEnd_pending (k : LinkId) (t : Nat) : (s.takeDiscardEnd k t).pending = s.pending := by unfold State.takeDiscardEnd; split <;> simp
@[simp] theorem State.takeDiscardEnd_now (k : LinkId) (t : Nat) : (s.takeDiscardEnd k t).now = s.now := by unfold State.takeDiscardEnd; split <;> simp
@[simp] theorem State.takeDiscardEnd_inReset (k : LinkId) (t : Nat) : (s.takeDiscardEnd k t).inReset = s.inReset := by unfold State.takeDiscardEnd; split <;> simp
@[simp] theorem State.takeDiscardEnd_shelfResetArmed (k : LinkId) (t : Nat) : (s.takeDiscardEnd k t).shelfResetArmed = s.shelfResetArmed := by unfold State.takeDiscardEnd; split <;> simp
@[simp] theorem State.takeDiscardEnd_capture (k : LinkId) (t : Nat) : (s.takeDiscardEnd k t).capture = s.capture := by unfold State.takeDiscardEnd; split <;> simp
@[simp] theorem State.takeDiscardEnd_sensors (k : LinkId) (t : Nat) : (s.takeDiscardEnd k t).sensors = s.sensors := by unfold State.takeDiscardEnd; split <;> simp
@[simp] theorem State.takeDiscardEnd_params (k : LinkId) (t : Nat) : (s.takeDiscardEnd k t).params = s.params := by unfold State.takeDiscardEnd; split <;> simp
@[simp] theorem State.takeDiscardEnd_cycle (k : LinkId) (t : Nat) : (s.takeDiscardEnd k t).cycle = s.cycle := by unfold State.takeDiscardEnd; split <;> simp
@[simp] theorem State.takeDiscardEnd_alloc (k : LinkId) (t : Nat) : (s.takeDiscardEnd k t).alloc = s.alloc := by unfold State.takeDiscardEnd; split <;> simp
@[simp] theorem State.takeDiscardEnd_burst (k : LinkId) (t : Nat) : (s.takeDiscardEnd k t).burst = s.burst := by unfold State.takeDiscardEnd; split <;> simp
@[simp] theorem State.takeDiscardEnd_lines (k : LinkId) (t : Nat) : (s.takeDiscardEnd k t).lines = s.lines := by unfold State.takeDiscardEnd; split <;> simp
@[simp] theorem State.takeDiscardEnd_alerts (k : LinkId) (t : Nat) : (s.takeDiscardEnd k t).alerts = s.alerts := by unfold State.takeDiscardEnd; split <;> simp
@[simp] theorem State.takeDiscardEnd_store (k : LinkId) (t : Nat) : (s.takeDiscardEnd k t).store = s.store := by unfold State.takeDiscardEnd; split <;> simp
@[simp] theorem State.takeDiscardEnd_alert (k : LinkId) (t : Nat) (q : LinkId) : (s.takeDiscardEnd k t).alert q = s.alert q := by simp [State.alert]
@[simp] theorem State.takeDiscardEnd_bindings (k : LinkId) (t : Nat) : (s.takeDiscardEnd k t).bindings = s.bindings := by simp [State.bindings]
@[simp] theorem State.takeDiscardEnd_bayBlock (k : LinkId) (t : Nat) (m : Bay) : (s.takeDiscardEnd k t).bayBlock m = s.bayBlock m := by simp [State.bayBlock]
@[simp] theorem State.takeDiscardEnd_occupied (k : LinkId) (t : Nat) (m : Bay) : (s.takeDiscardEnd k t).occupied m = s.occupied m := by simp [State.occupied]

@[simp] theorem State.withdrawForPin_pending (n : Bay) : (s.withdrawForPin n).pending = s.pending := by unfold State.withdrawForPin; split <;> simp
@[simp] theorem State.withdrawForPin_now (n : Bay) : (s.withdrawForPin n).now = s.now := by unfold State.withdrawForPin; split <;> simp
@[simp] theorem State.withdrawForPin_inReset (n : Bay) : (s.withdrawForPin n).inReset = s.inReset := by unfold State.withdrawForPin; split <;> simp
@[simp] theorem State.withdrawForPin_shelfResetArmed (n : Bay) : (s.withdrawForPin n).shelfResetArmed = s.shelfResetArmed := by unfold State.withdrawForPin; split <;> simp
@[simp] theorem State.withdrawForPin_capture (n : Bay) : (s.withdrawForPin n).capture = s.capture := by unfold State.withdrawForPin; split <;> simp
@[simp] theorem State.withdrawForPin_sensors (n : Bay) : (s.withdrawForPin n).sensors = s.sensors := by unfold State.withdrawForPin; split <;> simp
@[simp] theorem State.withdrawForPin_params (n : Bay) : (s.withdrawForPin n).params = s.params := by unfold State.withdrawForPin; split <;> simp
@[simp] theorem State.withdrawForPin_cycle (n : Bay) : (s.withdrawForPin n).cycle = s.cycle := by unfold State.withdrawForPin; split <;> simp
@[simp] theorem State.withdrawForPin_alloc (n : Bay) : (s.withdrawForPin n).alloc = s.alloc := by unfold State.withdrawForPin; split <;> simp
@[simp] theorem State.withdrawForPin_lines (n : Bay) : (s.withdrawForPin n).lines = s.lines := by unfold State.withdrawForPin; split <;> simp
@[simp] theorem State.withdrawForPin_ports (n : Bay) : (s.withdrawForPin n).ports = s.ports := by unfold State.withdrawForPin; split <;> simp
@[simp] theorem State.withdrawForPin_store (n : Bay) : (s.withdrawForPin n).store = s.store := by unfold State.withdrawForPin; split <;> simp
@[simp] theorem State.withdrawForPin_port (n : Bay) (q : LinkId) : (s.withdrawForPin n).port q = s.port q := by simp [State.port]
@[simp] theorem State.withdrawForPin_bindings (n : Bay) : (s.withdrawForPin n).bindings = s.bindings := by simp [State.bindings]
@[simp] theorem State.withdrawForPin_bayBlock (n : Bay) (m : Bay) : (s.withdrawForPin n).bayBlock m = s.bayBlock m := by simp [State.bayBlock]
@[simp] theorem State.withdrawForPin_occupied (n : Bay) (m : Bay) : (s.withdrawForPin n).occupied m = s.occupied m := by simp [State.occupied]

@[simp] theorem State.withdrawSilently_pending (l : List Bay) : (s.withdrawSilently l).pending = s.pending := by simp [State.withdrawSilently]
@[simp] theorem State.withdrawSilently_now (l : List Bay) : (s.withdrawSilently l).now = s.now := by simp [State.withdrawSilently]
@[simp] theorem State.withdrawSilently_inReset (l : List Bay) : (s.withdrawSilently l).inReset = s.inReset := by simp [State.withdrawSilently]
@[simp] theorem State.withdrawSilently_shelfResetArmed (l : List Bay) : (s.withdrawSilently l).shelfResetArmed = s.shelfResetArmed := by simp [State.withdrawSilently]
@[simp] theorem State.withdrawSilently_capture (l : List Bay) : (s.withdrawSilently l).capture = s.capture := by simp [State.withdrawSilently]
@[simp] theorem State.withdrawSilently_sensors (l : List Bay) : (s.withdrawSilently l).sensors = s.sensors := by simp [State.withdrawSilently]
@[simp] theorem State.withdrawSilently_params (l : List Bay) : (s.withdrawSilently l).params = s.params := by simp [State.withdrawSilently]
@[simp] theorem State.withdrawSilently_cycle (l : List Bay) : (s.withdrawSilently l).cycle = s.cycle := by simp [State.withdrawSilently]
@[simp] theorem State.withdrawSilently_alloc (l : List Bay) : (s.withdrawSilently l).alloc = s.alloc := by simp [State.withdrawSilently]
@[simp] theorem State.withdrawSilently_lines (l : List Bay) : (s.withdrawSilently l).lines = s.lines := by simp [State.withdrawSilently]
@[simp] theorem State.withdrawSilently_ports (l : List Bay) : (s.withdrawSilently l).ports = s.ports := by simp [State.withdrawSilently]
@[simp] theorem State.withdrawSilently_alerts (l : List Bay) : (s.withdrawSilently l).alerts = s.alerts := by simp [State.withdrawSilently]
@[simp] theorem State.withdrawSilently_store (l : List Bay) : (s.withdrawSilently l).store = s.store := by simp [State.withdrawSilently]
@[simp] theorem State.withdrawSilently_port (l : List Bay) (q : LinkId) : (s.withdrawSilently l).port q = s.port q := by simp [State.port]
@[simp] theorem State.withdrawSilently_alert (l : List Bay) (q : LinkId) : (s.withdrawSilently l).alert q = s.alert q := by simp [State.alert]
@[simp] theorem State.withdrawSilently_bindings (l : List Bay) : (s.withdrawSilently l).bindings = s.bindings := by simp [State.bindings]
@[simp] theorem State.withdrawSilently_bayBlock (l : List Bay) (m : Bay) : (s.withdrawSilently l).bayBlock m = s.bayBlock m := by simp [State.bayBlock]
@[simp] theorem State.withdrawSilently_occupied (l : List Bay) (m : Bay) : (s.withdrawSilently l).occupied m = s.occupied m := by simp [State.occupied]

@[simp] theorem State.bayLinkEffects_pending (i : Fin 8) (t : Nat) : (s.bayLinkEffects i t).pending = s.pending := by simp [State.bayLinkEffects]
@[simp] theorem State.bayLinkEffects_now (i : Fin 8) (t : Nat) : (s.bayLinkEffects i t).now = s.now := by simp [State.bayLinkEffects]
@[simp] theorem State.bayLinkEffects_inReset (i : Fin 8) (t : Nat) : (s.bayLinkEffects i t).inReset = s.inReset := by simp [State.bayLinkEffects]
@[simp] theorem State.bayLinkEffects_shelfResetArmed (i : Fin 8) (t : Nat) : (s.bayLinkEffects i t).shelfResetArmed = s.shelfResetArmed := by simp [State.bayLinkEffects]
@[simp] theorem State.bayLinkEffects_capture (i : Fin 8) (t : Nat) : (s.bayLinkEffects i t).capture = s.capture := by simp [State.bayLinkEffects]
@[simp] theorem State.bayLinkEffects_sensors (i : Fin 8) (t : Nat) : (s.bayLinkEffects i t).sensors = s.sensors := by simp [State.bayLinkEffects]
@[simp] theorem State.bayLinkEffects_params (i : Fin 8) (t : Nat) : (s.bayLinkEffects i t).params = s.params := by simp [State.bayLinkEffects]
@[simp] theorem State.bayLinkEffects_cycle (i : Fin 8) (t : Nat) : (s.bayLinkEffects i t).cycle = s.cycle := by simp [State.bayLinkEffects]
@[simp] theorem State.bayLinkEffects_lines (i : Fin 8) (t : Nat) : (s.bayLinkEffects i t).lines = s.lines := by simp [State.bayLinkEffects]
@[simp] theorem State.bayLinkEffects_store (i : Fin 8) (t : Nat) : (s.bayLinkEffects i t).store = s.store := by simp [State.bayLinkEffects]
@[simp] theorem State.bayLinkEffects_bindings (i : Fin 8) (t : Nat) : (s.bayLinkEffects i t).bindings = s.bindings := by simp [State.bindings]
@[simp] theorem State.bayLinkEffects_bayBlock (i : Fin 8) (t : Nat) (m : Bay) : (s.bayLinkEffects i t).bayBlock m = s.bayBlock m := by simp [State.bayBlock]
@[simp] theorem State.bayLinkEffects_occupied (i : Fin 8) (t : Nat) (m : Bay) : (s.bayLinkEffects i t).occupied m = s.occupied m := by simp [State.occupied]

@[simp] theorem State.bayLinkReset_pending (i : Fin 8) : (s.bayLinkReset i).pending = s.pending := by simp [State.bayLinkReset]
@[simp] theorem State.bayLinkReset_now (i : Fin 8) : (s.bayLinkReset i).now = s.now := by simp [State.bayLinkReset]
@[simp] theorem State.bayLinkReset_inReset (i : Fin 8) : (s.bayLinkReset i).inReset = s.inReset := by simp [State.bayLinkReset]
@[simp] theorem State.bayLinkReset_shelfResetArmed (i : Fin 8) : (s.bayLinkReset i).shelfResetArmed = s.shelfResetArmed := by simp [State.bayLinkReset]
@[simp] theorem State.bayLinkReset_capture (i : Fin 8) : (s.bayLinkReset i).capture = s.capture := by simp [State.bayLinkReset]
@[simp] theorem State.bayLinkReset_sensors (i : Fin 8) : (s.bayLinkReset i).sensors = s.sensors := by simp [State.bayLinkReset]
@[simp] theorem State.bayLinkReset_params (i : Fin 8) : (s.bayLinkReset i).params = s.params := by simp [State.bayLinkReset]
@[simp] theorem State.bayLinkReset_cycle (i : Fin 8) : (s.bayLinkReset i).cycle = s.cycle := by simp [State.bayLinkReset]
@[simp] theorem State.bayLinkReset_lines (i : Fin 8) : (s.bayLinkReset i).lines = s.lines := by simp [State.bayLinkReset]
@[simp] theorem State.bayLinkReset_store (i : Fin 8) : (s.bayLinkReset i).store = s.store := by simp [State.bayLinkReset]
@[simp] theorem State.bayLinkReset_bindings (i : Fin 8) : (s.bayLinkReset i).bindings = s.bindings := by simp [State.bindings]
@[simp] theorem State.bayLinkReset_bayBlock (i : Fin 8) (m : Bay) : (s.bayLinkReset i).bayBlock m = s.bayBlock m := by simp [State.bayBlock]
@[simp] theorem State.bayLinkReset_occupied (i : Fin 8) (m : Bay) : (s.bayLinkReset i).occupied m = s.occupied m := by simp [State.occupied]

@[simp] theorem State.breakEffects_pending (k : LinkId) (t : Nat) : (s.breakEffects k t).pending = s.pending := by unfold State.breakEffects; dsimp only; split <;> simp
@[simp] theorem State.breakEffects_now (k : LinkId) (t : Nat) : (s.breakEffects k t).now = s.now := by unfold State.breakEffects; dsimp only; split <;> simp
@[simp] theorem State.breakEffects_inReset (k : LinkId) (t : Nat) : (s.breakEffects k t).inReset = s.inReset := by unfold State.breakEffects; dsimp only; split <;> simp
@[simp] theorem State.breakEffects_shelfResetArmed (k : LinkId) (t : Nat) : (s.breakEffects k t).shelfResetArmed = s.shelfResetArmed := by unfold State.breakEffects; dsimp only; split <;> simp
@[simp] theorem State.breakEffects_capture (k : LinkId) (t : Nat) : (s.breakEffects k t).capture = s.capture := by unfold State.breakEffects; dsimp only; split <;> simp
@[simp] theorem State.breakEffects_sensors (k : LinkId) (t : Nat) : (s.breakEffects k t).sensors = s.sensors := by unfold State.breakEffects; dsimp only; split <;> simp
@[simp] theorem State.breakEffects_params (k : LinkId) (t : Nat) : (s.breakEffects k t).params = s.params := by unfold State.breakEffects; dsimp only; split <;> simp
@[simp] theorem State.breakEffects_cycle (k : LinkId) (t : Nat) : (s.breakEffects k t).cycle = s.cycle := by unfold State.breakEffects; dsimp only; split <;> simp
@[simp] theorem State.breakEffects_lines (k : LinkId) (t : Nat) : (s.breakEffects k t).lines = s.lines := by unfold State.breakEffects; dsimp only; split <;> simp
@[simp] theorem State.breakEffects_store (k : LinkId) (t : Nat) : (s.breakEffects k t).store = s.store := by unfold State.breakEffects; dsimp only; split <;> simp
@[simp] theorem State.breakEffects_bindings (k : LinkId) (t : Nat) : (s.breakEffects k t).bindings = s.bindings := by simp [State.bindings]
@[simp] theorem State.breakEffects_bayBlock (k : LinkId) (t : Nat) (m : Bay) : (s.breakEffects k t).bayBlock m = s.bayBlock m := by simp [State.bayBlock]
@[simp] theorem State.breakEffects_occupied (k : LinkId) (t : Nat) (m : Bay) : (s.breakEffects k t).occupied m = s.occupied m := by simp [State.occupied]

@[simp] theorem State.countBreak_pending (k : LinkId) (t : Nat) : (s.countBreak k t).pending = s.pending := by unfold State.countBreak; split <;> simp
@[simp] theorem State.countBreak_inReset (k : LinkId) (t : Nat) : (s.countBreak k t).inReset = s.inReset := by unfold State.countBreak; split <;> simp
@[simp] theorem State.countBreak_shelfResetArmed (k : LinkId) (t : Nat) : (s.countBreak k t).shelfResetArmed = s.shelfResetArmed := by unfold State.countBreak; split <;> simp
@[simp] theorem State.countBreak_capture (k : LinkId) (t : Nat) : (s.countBreak k t).capture = s.capture := by unfold State.countBreak; split <;> simp
@[simp] theorem State.countBreak_sensors (k : LinkId) (t : Nat) : (s.countBreak k t).sensors = s.sensors := by unfold State.countBreak; split <;> simp
@[simp] theorem State.countBreak_params (k : LinkId) (t : Nat) : (s.countBreak k t).params = s.params := by unfold State.countBreak; split <;> simp
@[simp] theorem State.countBreak_cycle (k : LinkId) (t : Nat) : (s.countBreak k t).cycle = s.cycle := by unfold State.countBreak; split <;> simp
@[simp] theorem State.countBreak_lines (k : LinkId) (t : Nat) : (s.countBreak k t).lines = s.lines := by unfold State.countBreak; split <;> simp
@[simp] theorem State.countBreak_store (k : LinkId) (t : Nat) : (s.countBreak k t).store = s.store := by unfold State.countBreak; split <;> simp
@[simp] theorem State.countBreak_bindings (k : LinkId) (t : Nat) : (s.countBreak k t).bindings = s.bindings := by simp [State.bindings]
@[simp] theorem State.countBreak_bayBlock (k : LinkId) (t : Nat) (m : Bay) : (s.countBreak k t).bayBlock m = s.bayBlock m := by simp [State.bayBlock]
@[simp] theorem State.countBreak_occupied (k : LinkId) (t : Nat) (m : Bay) : (s.countBreak k t).occupied m = s.occupied m := by simp [State.occupied]

@[simp] theorem State.startFrame_pending (k : LinkId) : (s.startFrame k).pending = s.pending := by unfold State.startFrame; split <;> simp
@[simp] theorem State.startFrame_now (k : LinkId) : (s.startFrame k).now = s.now := by unfold State.startFrame; split <;> simp
@[simp] theorem State.startFrame_inReset (k : LinkId) : (s.startFrame k).inReset = s.inReset := by unfold State.startFrame; split <;> simp
@[simp] theorem State.startFrame_shelfResetArmed (k : LinkId) : (s.startFrame k).shelfResetArmed = s.shelfResetArmed := by unfold State.startFrame; split <;> simp
@[simp] theorem State.startFrame_capture (k : LinkId) : (s.startFrame k).capture = s.capture := by unfold State.startFrame; split <;> simp
@[simp] theorem State.startFrame_sensors (k : LinkId) : (s.startFrame k).sensors = s.sensors := by unfold State.startFrame; split <;> simp
@[simp] theorem State.startFrame_params (k : LinkId) : (s.startFrame k).params = s.params := by unfold State.startFrame; split <;> simp
@[simp] theorem State.startFrame_cycle (k : LinkId) : (s.startFrame k).cycle = s.cycle := by unfold State.startFrame; split <;> simp
@[simp] theorem State.startFrame_alloc (k : LinkId) : (s.startFrame k).alloc = s.alloc := by unfold State.startFrame; split <;> simp
@[simp] theorem State.startFrame_burst (k : LinkId) : (s.startFrame k).burst = s.burst := by unfold State.startFrame; split <;> simp
@[simp] theorem State.startFrame_lines (k : LinkId) : (s.startFrame k).lines = s.lines := by unfold State.startFrame; split <;> simp
@[simp] theorem State.startFrame_store (k : LinkId) : (s.startFrame k).store = s.store := by unfold State.startFrame; split <;> simp
@[simp] theorem State.startFrame_bindings (k : LinkId) : (s.startFrame k).bindings = s.bindings := by simp [State.bindings]
@[simp] theorem State.startFrame_bayBlock (k : LinkId) (m : Bay) : (s.startFrame k).bayBlock m = s.bayBlock m := by simp [State.bayBlock]
@[simp] theorem State.startFrame_occupied (k : LinkId) (m : Bay) : (s.startFrame k).occupied m = s.occupied m := by simp [State.occupied]

end Sys2Proof.Machine
end

