-- ==== Sys2Proof/Laws/Receive.lean ====
section
/-! SUPPORT. The receive line (R148): what following it does while nothing falls due, inside a character, and over the bits of
whole characters sent back to back. -/

namespace Sys2Proof.Machine

variable (s : State) (k : LinkId)

/-! ### The line holds, or changes -/

/-- Nothing of the port falls due by instant `u`. -/
def Port.quiet (p : Port) (u : Nat) : Prop :=
  p.charDue u = none ∧ (p.rx = .hunt ∨ p.gapReached u = false) ∧ p.breakDue u = none

theorem State.takeLinkGap_quiet {u : Nat} (h : (s.port k).rx = .hunt ∨ (s.port k).gapReached u = false) :
    s.takeLinkGap k u = s := by
  unfold State.takeLinkGap
  rcases h with h | h <;> simp [h, RxState.inFrame]

theorem State.takeDiscardEnd_quiet {u : Nat} (h : (s.port k).rx = .hunt ∨ (s.port k).gapReached u = false) :
    s.takeDiscardEnd k u = s := by
  unfold State.takeDiscardEnd
  rcases h with h | h <;> simp [h]

theorem State.countBreak_quiet {u : Nat} (h : (s.port k).breakDue u = none) : s.countBreak k u = s := by
  simp [State.countBreak, h]

theorem State.takeBreak_quiet {u : Nat} (h : (s.port k).breakDue u = none) : s.takeBreak k u = s := by
  simp [State.takeBreak, State.countBreak, h]

theorem State.takeChar_quiet {u : Nat} (h : (s.port k).charDue u = none) : s.takeChar k u = s := by
  simp [State.takeChar, h]

/-- With nothing due, following the line only says so. -/
theorem State.settleLink_quiet {t : Nat} (h : (s.port k).quiet (max (s.port k).seenTo t)) :
    s.settleLink k t = s.seen k t := by
  obtain ⟨hc, hg, hb⟩ := h
  have hp : (s.seen k t).port k = { s.port k with seenTo := max (s.port k).seenTo t } := by simp
  unfold State.settleLink
  dsimp only
  rw [State.takeChar_quiet _ k (by rw [hp]; exact hc), State.takeLinkGap_quiet _ k (by rw [hp]; exact hg),
    State.takeDiscardEnd_quiet _ k (by rw [hp]; exact hg), State.takeBreak_quiet _ k (by rw [hp]; exact hb)]

/-- The character that ends at `u` is received at that instant, and nothing else is due by then. -/
theorem State.settleLink_char {u : Nat} {c : RxChar} (hc : (s.port k).char = some c) (hu : u = c.start + charTime)
    (hs : (s.port k).seenTo ≤ u) (hstop : c.stop = true)
    (hq : ((((s.advance u).setPort k (({ s.port k with seenTo := u } : Port).charEnded c.start)).receive k c.byte).port
      k).quiet u) :
    s.settleLink k u =
      ((s.advance u).setPort k (({ s.port k with seenTo := u } : Port).charEnded c.start)).receive k c.byte := by
  obtain ⟨-, hg, hb⟩ := hq
  have hm : max (s.port k).seenTo u = u := Nat.max_eq_right hs
  have hp : (s.seen k u).port k = { s.port k with seenTo := u } := by simp [hm]
  have hd : ({ s.port k with seenTo := u } : Port).charDue u = some c := by
    rw [Port.charDue, hc, hu, Option.filter_some, decide_eq_true (Nat.le_refl _)]; rfl
  have h1 : (s.seen k u).takeChar k u =
      ((s.advance u).setPort k (({ s.port k with seenTo := u } : Port).charEnded c.start)).receive k c.byte := by
    unfold State.takeChar
    rw [hp, hd]
    simp only [hstop, if_true, ← hu, State.seen, State.advance_setPort, State.setPort_setPort]
  unfold State.settleLink
  simp only [hm]
  rw [h1, State.takeLinkGap_quiet _ k hg, State.takeDiscardEnd_quiet _ k hg, State.takeBreak_quiet _ k hb]

/-- A change taken from the state that settling has reached already. -/
theorem State.lineChange_settled {x : Nat} (h : (s.settleLink k x).settleLink k x = s.settleLink k x)
    (h1 : (s.port k).seenTo ≤ x) (h2 : ((s.settleLink k x).port k).seenTo ≤ x) :
    State.lineChange k s x = State.lineChange k (s.settleLink k x) x := by
  simp [State.lineChange, h, h1, h2]

/-- Since when the line is low once it has changed at some instants. -/
def lowAfter : Option Nat → List Nat → Option Nat
  | low, [] => low
  | low, x :: rest => lowAfter (if low.isSome then none else some x) rest

/-- The line goes low at its first change and ends high, or low, by the number of its changes. -/
theorem lowAfter_isSome (l : List Nat) : ∀ low, (lowAfter low l).isSome = (low.isSome != (l.length % 2 == 1)) := by
  induction l with
  | nil => intro low; simp [lowAfter]
  | cons x l ih =>
    intro low
    rw [lowAfter, ih]
    rcases Nat.mod_two_eq_zero_or_one l.length with h | h
    · have : (l.length + 1) % 2 = 1 := by omega
      cases low <;> simp [h, this]
    · have : (l.length + 1) % 2 = 0 := by omega
      cases low <;> simp [h, this]

/-- Nothing falls due inside a character. -/
theorem Port.quiet_inChar {p : Port} {c : RxChar} {u : Nat} (hc : p.char = some c) (hu : u < c.start + charTime)
    (hlow : ∀ a, p.lowSince = some a → c.start ≤ a) : p.quiet u := by
  have hlt : charTime ≤ breakTime := by decide
  have h1 : ¬c.start + charTime ≤ u := by omega
  refine ⟨?_, .inr (by rw [Port.gapReached, hc]; rfl), ?_⟩
  · rw [Port.charDue, hc, Option.filter_some, decide_eq_false h1]; rfl
  · unfold Port.breakDue
    split
    · rfl
    · cases hl : p.lowSince with
      | none => rfl
      | some a =>
        have := hlow a hl
        have h2 : ¬a + breakTime ≤ u := by omega
        rw [Option.map_some, Option.filter_some, decide_eq_false h2]; rfl

/-- A change inside a character: it is kept with the character, and nothing else falls due. -/
theorem State.lineChange_inChar {x : Nat} {c : RxChar} (hc : (s.port k).char = some c) (hb : (s.port k).inBreak = false)
    (hs : (s.port k).seenTo ≤ x) (hx : x < c.start + charTime) (hlow : ∀ a, (s.port k).lowSince = some a → c.start ≤ a) :
    State.lineChange k s x = s.setPort k
      { s.port k with
        seenTo := x
        lowSince := if (s.port k).lowSince.isSome then none else some x
        char := some (c.changed x) } := by
  have hq : (s.port k).quiet (max (s.port k).seenTo x) := by
    rw [Nat.max_eq_right hs]; exact Port.quiet_inChar hc hx hlow
  unfold State.lineChange
  rw [State.settleLink_quiet s k hq, State.seen, Nat.max_eq_right hs]
  simp only [State.setPort_port, if_true, State.setPort_setPort]
  congr 1
  by_cases hl : (s.port k).lowSince.isSome = true
  · simp [Port.rise, hl, hc, hb]
  · simp [Port.fall, hl, hc]

/-- All the changes inside a character. -/
theorem State.foldl_inChar (l : List Nat) : ∀ (s : State) (c : RxChar), (s.port k).char = some c →
    (s.port k).inBreak = false → l.Pairwise (· ≤ ·) → (∀ x ∈ l, (s.port k).seenTo ≤ x ∧ x < c.start + charTime) →
    c.start ≤ (s.port k).seenTo → (∀ a, (s.port k).lowSince = some a → c.start ≤ a) →
    l.foldl (State.lineChange k) s = s.setPort k
      { s.port k with
        seenTo := l.getLast?.getD (s.port k).seenTo
        lowSince := lowAfter (s.port k).lowSince l
        char := some { c with edges := c.edges ++ l.map (· - c.start) } } := by
  induction l with
  | nil =>
    intro s c hc _ _ _ _ _
    simp only [lowAfter, List.map_nil, List.append_nil, List.foldl_nil, List.getLast?_nil, Option.getD_none, ← hc]
    exact (s.setPort_self k).symm
  | cons x l ih =>
    intro s c hc hb hl hm hst hlow
    obtain ⟨hx1, hx2⟩ := hm x (by simp)
    have hp := List.pairwise_cons.mp hl
    rw [List.foldl_cons, State.lineChange_inChar s k hc hb hx1 hx2 hlow,
      ih _ (c.changed x) (by simp) (by simp [hb]) hp.2
        (by intro y hy; simp; exact ⟨hp.1 y hy, (hm y (by simp [hy])).2⟩)
        (by simp [RxChar.changed]; omega)
        (by
          intro a ha
          by_cases h : (s.port k).lowSince.isSome = true
          · simp [h] at ha
          · simp [h] at ha
            subst ha; simp only [RxChar.changed]; omega)]
    simp only [State.setPort_port, if_true, State.setPort_setPort]
    congr 1
    cases l <;> simp [lowAfter, RxChar.changed, List.getLast?_cons]

/-! ### The bits of a character -/

/-- Driving a line later shifts its changes. -/
theorem lineEdges_shift (x : Nat) (bits : List Bool) : ∀ (level : Bool) (o : Nat),
    lineEdges level (x + o) bits = (lineEdges level o bits).map (x + ·) := by
  induction bits with
  | nil => intro _ _; rfl
  | cons b bits ih =>
    intro level o
    simp only [lineEdges, Nat.add_assoc, ih]
    split <;> simp

/-- Bits after bits. -/
theorem lineEdges_append (a b : List Bool) : ∀ (level : Bool) (t : Nat),
    lineEdges level t (a ++ b) = lineEdges level t a ++ lineEdges (a.getLast?.getD level) (t + bitTime * a.length) b := by
  induction a with
  | nil => intro _ _; simp [lineEdges]
  | cons c a ih =>
    intro level t
    have hlast : (c :: a).getLast?.getD level = a.getLast?.getD c := by cases a <;> simp [List.getLast?_cons]
    have hlen : t + bitTime + bitTime * a.length = t + bitTime * (c :: a).length := by
      simp only [List.length_cons, Nat.mul_add]; omega
    rw [hlast, ← hlen]
    simp only [List.cons_append, lineEdges, ih]
    by_cases h : c = level
    · simp [h]
    · simp [h]

/-- How long after its start edge a character's line changes again. -/
def charEdges (b : Byte) : List Nat := lineEdges false bitTime (charBits b).tail

/-- A character's changes lie inside it in order, end on a high line, and are sampled as the byte with a good stop bit. -/
theorem charEdges_spec (b : Byte) : (charEdges b).Pairwise (· ≤ ·) ∧ (∀ o ∈ charEdges b, o < charTime) ∧
    (charEdges b).length % 2 = 1 ∧ (∀ start, (RxChar.mk start (charEdges b)).byte = b) ∧
    ∀ start, (RxChar.mk start (charEdges b)).stop = true := by
  have h : ∀ b : Byte, (charEdges b).Pairwise (· ≤ ·) ∧ (∀ o ∈ charEdges b, o < charTime) ∧
      (charEdges b).length % 2 = 1 ∧ (RxChar.mk 0 (charEdges b)).byte = b ∧ (RxChar.mk 0 (charEdges b)).stop = true := by
    decide +kernel
  obtain ⟨h1, h2, h3, h4, h5⟩ := h b
  exact ⟨h1, h2, h3, fun _ => h4, fun _ => h5⟩

/-- The changes of characters sent back to back on a line that idles high. -/
theorem lineEdges_lineBits (x : Nat) (b : Byte) (rest : List Byte) :
    lineEdges true x (lineBits (b :: rest)) =
      x :: (charEdges b).map (x + ·) ++ lineEdges true (x + charTime) (lineBits rest) := by
  have hlast : (charBits b).getLast?.getD true = true := rfl
  have hlen : x + bitTime * (charBits b).length = x + charTime := rfl
  have hchar : lineEdges true x (charBits b) = x :: (charEdges b).map (x + ·) := by
    rw [charEdges, ← lineEdges_shift]; simp [charBits, lineEdges]
  rw [lineBits, List.flatMap_cons, lineEdges_append, hlast, hlen, hchar]
  rfl

/-! ### What a service leaves of the clock and of its link's port -/

/-- The clock and link `k`'s port are as in `s`. -/
def Answer.keeps (a : Answer) (s : State) (k : LinkId) : Prop := a.state.now = s.now ∧ a.state.port k = s.port k

/-- A service for the bay that a selector names keeps what the bay's service keeps. -/
theorem withBay_keeps (sel : Byte) (f : Bay → Answer) (h : ∀ n, (f n).keeps s k) : (withBay s k sel f).keeps s k := by
  unfold withBay
  split
  · exact h _
  · exact ⟨rfl, rfl⟩

theorem serveProfileCommit_keeps : (serveProfileCommit s).keeps s k := by
  unfold Answer.keeps serveProfileCommit
  split
  · exact ⟨rfl, rfl⟩
  · split
    · exact ⟨rfl, rfl⟩
    · dsimp only
      split
      · exact ⟨rfl, rfl⟩
      · simp

theorem serveAskBurst_keeps (n : Bay) (a d w : Nat) (tag : Byte) : (serveAskBurst s n a d w tag).keeps s k := by unfold Answer.keeps serveAskBurst; (repeat' split) <;> exact ⟨rfl, rfl⟩

theorem serveDropBurst_keeps (n : Bay) (c : Nat) : (serveDropBurst s n c).keeps s k := by
  unfold Answer.keeps serveDropBurst; (repeat' split) <;> exact ⟨rfl, rfl⟩

theorem serveGetLinkCounters_keeps (link choice : Nat) :
    (serveGetLinkCounters s link choice).state.now = s.now ∧
      ∃ c, (serveGetLinkCounters s link choice).state.port k = { s.port k with counters := c } := by
  unfold serveGetLinkCounters
  split
  · exact ⟨rfl, _, rfl⟩
  · rename_i j _
    split
    · exact ⟨rfl, _, rfl⟩
    · dsimp only
      split
      · refine ⟨rfl, ?_⟩
        by_cases hk : k = j
        · subst hk; exact ⟨LinkCounters.zero, by rw [State.setPort_port, if_pos rfl]⟩
        · exact ⟨(s.port k).counters, by rw [State.setPort_port, if_neg hk]⟩
      · exact ⟨rfl, _, rfl⟩

theorem serveSetDemand_keeps (n : Bay) (v : Nat) : (serveSetDemand s n v).keeps s k := by
  unfold Answer.keeps serveSetDemand; split <;> exact ⟨rfl, rfl⟩
theorem servePinBay_keeps (n : Bay) (v : Nat) : (servePinBay s n v).keeps s k := by
  unfold Answer.keeps servePinBay; split <;> simp [refuse]
theorem serveUnpinBay_keeps (n : Bay) : (serveUnpinBay s n).keeps s k := by
  unfold Answer.keeps serveUnpinBay; (repeat' split) <;> exact ⟨rfl, rfl⟩
theorem serveGetAlert_keeps (j : LinkId) : (serveGetAlert s j).keeps s k := by
  unfold Answer.keeps serveGetAlert; dsimp only; (repeat' split) <;> exact ⟨rfl, rfl⟩
theorem serveGetHistory_keeps (j : LinkId) (c : Nat) : (serveGetHistory s j c).keeps s k := by
  unfold Answer.keeps serveGetHistory; split <;> exact ⟨rfl, rfl⟩
theorem serveGetPools_keeps : (serveGetPools s).keeps s k := by unfold Answer.keeps serveGetPools; split <;> exact ⟨rfl, rfl⟩
theorem serveGetCaptureCounters_keeps (b c : Nat) : (serveGetCaptureCounters s b c).keeps s k := by
  unfold Answer.keeps serveGetCaptureCounters; dsimp only; (repeat' split) <;> exact ⟨rfl, rfl⟩
theorem serveGetSensor_keeps (b c : Nat) : (serveGetSensor s b c).keeps s k := by
  unfold Answer.keeps serveGetSensor; dsimp only; (repeat' split) <;> exact ⟨rfl, rfl⟩
theorem serveSetCap_keeps (n d : Nat) : (serveSetCap s n d).keeps s k := by
  unfold Answer.keeps serveSetCap; (repeat' split) <;> exact ⟨rfl, rfl⟩
theorem serveSetAlertGroups_keeps (l g : Byte) : (serveSetAlertGroups s l g).keeps s k := by
  unfold Answer.keeps serveSetAlertGroups; split <;> exact ⟨rfl, rfl⟩
theorem serveProfileBlock_keeps (b : Nat) (body : List Byte) : (serveProfileBlock s b body).keeps s k := by
  unfold Answer.keeps serveProfileBlock; (repeat' split) <;> exact ⟨rfl, rfl⟩
theorem serveProfileRead_keeps (b : Nat) : (serveProfileRead s b).keeps s k := by
  unfold Answer.keeps serveProfileRead; (repeat' split) <;> exact ⟨rfl, rfl⟩
theorem serveReleaseBayLink_keeps (l : Nat) : (serveReleaseBayLink s l).keeps s .shelf := by
  unfold Answer.keeps serveReleaseBayLink
  split
  · simp [State.bayLinkReset, State.bayLinkEffects, State.setRx]
  · exact ⟨rfl, rfl⟩

/-- Handing a request on leaves the clock and the ports, but for the counters that a read clears, and the named link's under
RELEASE BAY LINK. -/
theorem dispatch_keeps (kind : Kind) (params : List Byte) (h : kind.shelfOnly = true → k = .shelf) :
    (dispatch s k kind params).state.now = s.now ∧
      ∃ c, (dispatch s k kind params).state.port k = { s.port k with counters := c } := by
  have same {a : Answer} (ha : a.keeps s k) :
      a.state.now = s.now ∧ ∃ c, a.state.port k = { s.port k with counters := c } := ⟨ha.1, (s.port k).counters, ha.2⟩
  match kind, params with
  | .getBay, [_] => exact same (withBay_keeps s k _ _ fun n => ⟨rfl, rfl⟩)
  | .setDemand, [_, _, _] => exact same (withBay_keeps s k _ _ fun n => serveSetDemand_keeps s k n _)
  | .askBurst, [_, _, _, _, _, _, _] => exact same (withBay_keeps s k _ _ fun n => serveAskBurst_keeps s k n _ _ _ _)
  | .dropBurst, [_, _] => exact same (withBay_keeps s k _ _ fun n => serveDropBurst_keeps s k n _)
  | .getAlert, [] => exact same (serveGetAlert_keeps s k k)
  | .setAlertMask, [_] => exact same ⟨rfl, rfl⟩
  | .getHistory, [_] => exact same (serveGetHistory_keeps s k k _)
  | .getShelf, [] => exact same ⟨rfl, rfl⟩
  | .getPools, [] => exact same (serveGetPools_keeps s k)
  | .getCaptureCounters, [_, _] => exact same (serveGetCaptureCounters_keeps s k _ _)
  | .getSensor, [_, _] => exact same (serveGetSensor_keeps s k _ _)
  | .getLinkCounters, [_, _] => exact serveGetLinkCounters_keeps s k _ _
  | .pinBay, [_, _, _] => exact same (withBay_keeps s k _ _ fun n => servePinBay_keeps s k n _)
  | .unpinBay, [_] => exact same (withBay_keeps s k _ _ fun n => serveUnpinBay_keeps s k n)
  | .setCap, [_, _, _, _] => exact same (serveSetCap_keeps s k _ _)
  | .releaseBayLink, [_] => exact same (by cases h rfl; exact serveReleaseBayLink_keeps s _)
  | .shelfReset, [] => exact same ⟨rfl, rfl⟩
  | .setAlertGroups, [_, _] => exact same (serveSetAlertGroups_keeps s k _ _)
  | .profileBlock, _ :: _ => exact same (serveProfileBlock_keeps s k _ _)
  | .profileDiscard, [] => exact same ⟨rfl, rfl⟩
  | .profileRead, [_] => exact same (serveProfileRead_keeps s k _)
  | .profileCommit, [] => exact same (serveProfileCommit_keeps s k)
  | .getBay, [] | .getBay, _ :: _ :: _ | .setDemand, [] | .setDemand, [_] | .setDemand, [_, _]
  | .setDemand, _ :: _ :: _ :: _ :: _ | .askBurst, [] | .askBurst, [_] | .askBurst, [_, _] | .askBurst, [_, _, _]
  | .askBurst, [_, _, _, _] | .askBurst, [_, _, _, _, _] | .askBurst, [_, _, _, _, _, _]
  | .askBurst, _ :: _ :: _ :: _ :: _ :: _ :: _ :: _ :: _ | .dropBurst, [] | .dropBurst, [_]
  | .dropBurst, _ :: _ :: _ :: _ | .getAlert, _ :: _ | .setAlertMask, [] | .setAlertMask, _ :: _ :: _
  | .getHistory, [] | .getHistory, _ :: _ :: _ | .getShelf, _ :: _ | .getPools, _ :: _ | .getCaptureCounters, []
  | .getCaptureCounters, [_] | .getCaptureCounters, _ :: _ :: _ :: _ | .getSensor, [] | .getSensor, [_]
  | .getSensor, _ :: _ :: _ :: _ | .getLinkCounters, [] | .getLinkCounters, [_] | .getLinkCounters, _ :: _ :: _ :: _
  | .pinBay, [] | .pinBay, [_] | .pinBay, [_, _] | .pinBay, _ :: _ :: _ :: _ :: _ | .unpinBay, []
  | .unpinBay, _ :: _ :: _ | .setCap, [] | .setCap, [_] | .setCap, [_, _] | .setCap, [_, _, _]
  | .setCap, _ :: _ :: _ :: _ :: _ :: _ | .releaseBayLink, [] | .releaseBayLink, _ :: _ :: _ | .shelfReset, _ :: _
  | .setAlertGroups, [] | .setAlertGroups, [_] | .setAlertGroups, _ :: _ :: _ :: _ | .profileBlock, []
  | .profileDiscard, _ :: _ | .profileRead, [] | .profileRead, _ :: _ :: _ | .profileCommit, _ :: _ => exact same ⟨rfl, rfl⟩

/-- The service of a request leaves the clock, and its own link's port but for the counters that a read clears. -/
theorem answer_keeps (r : Request) :
    (answer s k r).state.now = s.now ∧ ∃ c, (answer s k r).state.port k = { s.port k with counters := c } := by
  unfold answer
  split
  · exact ⟨rfl, _, rfl⟩
  · rename_i kind _
    split
    · exact ⟨rfl, _, rfl⟩
    · rename_i h
      split
      · exact ⟨rfl, _, rfl⟩
      · exact dispatch_keeps s k kind _ fun hs => by simpa [hs] using h

/-- The service of a request leaves the clock. -/
@[simp] theorem answer_now (r : Request) : (answer s k r).state.now = s.now := (answer_keeps s k r).1

/-- The two ports hold the same of their receive lines. -/
def Port.sameLine (p q : Port) : Prop :=
  p.lowSince = q.lowSince ∧ p.char = q.char ∧ p.seenTo = q.seenTo ∧ p.lastCharEnd = q.lastCharEnd ∧
    p.inBreak = q.inBreak

/-- The head's service leaves the receive line of its link alone. -/
theorem State.serveHead_sameLine : ((s.serveHead k).port k).sameLine (s.port k) := by
  unfold State.serveHead
  split
  · simp [Port.sameLine]
  · rename_i r _ _
    obtain ⟨-, c, hc⟩ := answer_keeps s k r
    simp [Port.sameLine, hc]

/-- A character taken by the receive decoder leaves the receive line alone. -/
theorem State.receive_sameLine (b : Byte) : ((s.receive k b).port k).sameLine (s.port k) := by
  unfold State.receive State.startFrame State.endFrame
  split
  · (repeat' split) <;> simp [Port.sameLine, State.setRx, State.linkError]
  · split <;> simp [Port.sameLine, State.setRx, State.linkError]
  · split <;> simp [Port.sameLine, State.setRx]
  · simp [Port.sameLine, State.setRx]
  · split
    · unfold State.join
      dsimp only
      split
      · have h := State.serveHead_sameLine
          ((s.setRx k .hunt).setPort k
            { (s.setRx k .hunt).port k with inbox := ((s.setRx k .hunt).port k).inbox ++ [requestOf ‹_›] }) k
        simpa [Port.sameLine, State.setRx] using h
      · simp [Port.sameLine, State.setRx]
    · simp [Port.sameLine, State.linkError]
  · simp [Port.sameLine]

/-! ### Characters back to back -/

/-- A line that idles high outside a character is quiet while no gap is due. -/
theorem Port.quiet_idle {p : Port} {u : Nat} (hl : p.lowSince = none) (hc : p.char = none)
    (hg : p.rx = .hunt ∨ u < p.lastCharEnd + linkGapTime) : p.quiet u := by
  refine ⟨by rw [Port.charDue, hc]; rfl, hg.imp id ?_, by simp [Port.breakDue, hl]⟩
  intro h
  rw [Port.gapReached, decide_eq_false (by omega)]; exact Bool.and_false _

/-- The line is driven through some characters from instant `x` on and then holds until the last of them ends. -/
def State.sendBytes (s : State) (k : LinkId) (x : Nat) (bs : List Byte) : State :=
  s.followLine k (lineEdges true x (lineBits bs)) (x + charTime * bs.length)

/-- The port once a character that began at `x` has been received: the line idles high again. -/
def Port.received (p : Port) (x : Nat) : Port := { p with lastCharEnd := x + charTime, seenTo := x + charTime }

/-- What the line of an idle port brings from the first bit of a byte on. -/
theorem State.foldl_char {x : Nat} (b : Byte) (hl : (s.port k).lowSince = none) (hc : (s.port k).char = none)
    (hb : (s.port k).inBreak = false) (hx : (s.port k).seenTo ≤ x)
    (hg : (s.port k).rx = .hunt ∨ x < (s.port k).lastCharEnd + linkGapTime) :
    ∃ u, x ≤ u ∧ u < x + charTime ∧
      (x :: (charEdges b).map (x + ·)).foldl (State.lineChange k) s =
        s.setPort k { s.port k with seenTo := u, char := some ⟨x, charEdges b⟩ } := by
  obtain ⟨hp, hlt, hodd, -, -⟩ := charEdges_spec b
  have hq : (s.port k).quiet (max (s.port k).seenTo x) := by
    rw [Nat.max_eq_right hx]; exact Port.quiet_idle hl hc hg
  have hstart : State.lineChange k s x =
      s.setPort k { s.port k with seenTo := x, lowSince := some x, char := some ⟨x, []⟩ } := by
    unfold State.lineChange
    rw [State.settleLink_quiet s k hq, State.seen, Nat.max_eq_right hx]
    simp [Port.fall, hl, hc, hx]
  have hpos : 0 < charTime := by decide
  rw [List.foldl_cons, hstart, State.foldl_inChar k _ _ ⟨x, []⟩ (by simp) (by simp [hb])
    (List.pairwise_map.mpr (hp.imp fun h => Nat.add_le_add_left h x))
    (by
      intro y hy
      obtain ⟨o, ho, rfl⟩ := List.mem_map.mp hy
      have := hlt o ho
      simp; omega)
    (by simp) (by simp)]
  simp only [State.setPort_port, if_true, State.setPort_setPort]
  have hlow : lowAfter (some x) ((charEdges b).map (x + ·)) = none := by
    have := lowAfter_isSome ((charEdges b).map (x + ·)) (some x)
    simpa [hodd] using this
  refine ⟨((charEdges b).map (x + ·)).getLast?.getD x, ?_, ?_, ?_⟩
  · cases h : ((charEdges b).map (x + ·)).getLast? with
    | none => simp
    | some y =>
      obtain ⟨o, _, rfl⟩ := List.mem_map.mp (List.mem_of_getLast? h)
      simp
  · cases h : ((charEdges b).map (x + ·)).getLast? with
    | none => simp [hpos]
    | some y =>
      obtain ⟨o, ho, rfl⟩ := List.mem_map.mp (List.mem_of_getLast? h)
      have := hlt o ho
      simp [this]
  · rw [hlow]
    congr 1
    simp [hl, Function.comp_def]

/-- Characters on an idle line, one after the other: the first is received as its byte, and the line is idle again
(R148, R149). -/
theorem State.sendBytes_cons {x : Nat} (b : Byte) (bs : List Byte) (hl : (s.port k).lowSince = none)
    (hc : (s.port k).char = none) (hb : (s.port k).inBreak = false) (hx : (s.port k).seenTo ≤ x)
    (hg : (s.port k).rx = .hunt ∨ x < (s.port k).lastCharEnd + linkGapTime) :
    s.sendBytes k x (b :: bs) =
      (((s.advance (x + charTime)).setPort k ((s.port k).received x)).receive k b).sendBytes k (x + charTime) bs := by
  obtain ⟨u, hu1, hu2, hfold⟩ := s.foldl_char k b hl hc hb hx hg
  obtain ⟨-, -, -, hbyte, hstop⟩ := charEdges_spec b
  -- the state with the character's changes taken, and the one with the character received
  let q := s.setPort k { s.port k with seenTo := u, char := some ⟨x, charEdges b⟩ }
  let r := ((s.advance (x + charTime)).setPort k ((s.port k).received x)).receive k b
  obtain ⟨rl, rc, rs, re, rb⟩ : (r.port k).sameLine ((s.port k).received x) := by
    have := State.receive_sameLine ((s.advance (x + charTime)).setPort k ((s.port k).received x)) k b
    simpa using this
  have hpos : 0 < linkGapTime := by decide
  have hrq : (r.port k).quiet (x + charTime) := by
    refine Port.quiet_idle (rl.trans hl) (rc.trans hc) (.inr ?_)
    rw [re]; simp only [Port.received]; omega
  have hqp : q.port k = { s.port k with seenTo := u, char := some ⟨x, charEdges b⟩ } := by simp [q]
  have hended : (q.advance (x + charTime)).setPort k (({ q.port k with seenTo := x + charTime } : Port).charEnded x) =
      (s.advance (x + charTime)).setPort k ((s.port k).received x) := by
    rw [hqp]; simp only [q, State.advance_setPort, State.setPort_setPort]
    congr 1
    simp only [Port.charEnded, Port.received, hc]
  have hbyte' : (RxChar.mk x (charEdges b)).byte = b := hbyte x
  have hchar : q.settleLink k (x + charTime) = r := by
    have hq : ((((q.advance (x + charTime)).setPort k (({ q.port k with seenTo := x + charTime } : Port).charEnded x)).receive
        k (RxChar.mk x (charEdges b)).byte).port k).quiet (x + charTime) := by rw [hended, hbyte']; exact hrq
    rw [State.settleLink_char q k (by rw [hqp]) rfl (by rw [hqp]; exact hu2.le) (hstop x) hq, hended, hbyte']
  have hrr : r.settleLink k (x + charTime) = r := by
    have hm : max (r.port k).seenTo (x + charTime) = (r.port k).seenTo := by rw [rs]; exact Nat.max_self _
    rw [State.settleLink_quiet r k (by rw [hm, rs]; exact hrq), State.seen, hm]
    exact r.setPort_self k
  have hx' : x + charTime * (b :: bs).length = x + charTime + charTime * bs.length := by
    simp only [List.length_cons, Nat.mul_add]; omega
  rw [State.sendBytes, State.sendBytes, State.followLine, State.followLine, lineEdges_lineBits, List.foldl_append, hfold, hx']
  cases bs with
  | nil => exact hchar.trans hrr.symm
  | cons c cs =>
    rw [lineEdges_lineBits, List.cons_append, List.foldl_cons, List.foldl_cons]
    have h1 : State.lineChange k q (x + charTime) = State.lineChange k r (x + charTime) := by
      rw [State.lineChange_settled q k (by rw [hchar, hrr]) (by rw [hqp]; exact hu2.le) (by rw [hchar, rs]; exact Nat.le_refl _), hchar]
    rw [h1]

/-- One character on an idle line is received as its byte. -/
theorem State.sendBytes_one {x : Nat} (b : Byte) (hl : (s.port k).lowSince = none) (hc : (s.port k).char = none)
    (hb : (s.port k).inBreak = false) (hx : (s.port k).seenTo ≤ x)
    (hg : (s.port k).rx = .hunt ∨ x < (s.port k).lastCharEnd + linkGapTime) :
    s.sendBytes k x [b] = ((s.advance (x + charTime)).setPort k ((s.port k).received x)).receive k b := by
  rw [State.sendBytes_cons s k b [] hl hc hb hx hg]
  have h := State.receive_sameLine ((s.advance (x + charTime)).setPort k ((s.port k).received x)) k b
  generalize ((s.advance (x + charTime)).setPort k ((s.port k).received x)).receive k b = r at h ⊢
  obtain ⟨rl, rc, rs, re, -⟩ := h
  simp only [State.setPort_port, if_true] at rl rc rs re
  have hpos : 0 < linkGapTime := by decide
  have hm : max (r.port k).seenTo (x + charTime) = (r.port k).seenTo := by rw [rs]; exact Nat.max_self _
  have hq : (r.port k).quiet (max (r.port k).seenTo (x + charTime)) :=
    Port.quiet_idle (rl.trans hl) (rc.trans hc) (.inr (by rw [hm, rs, re]; simp only [Port.received]; omega))
  change r.settleLink k (x + charTime) = r
  rw [State.settleLink_quiet r k hq, State.seen, hm]
  exact r.setPort_self k

end Sys2Proof.Machine
end

