-- ==== Sys2Proof/Laws/Requests.lean ====
section
/-! SUPPORT. A whole request frame on a link whose decoder hunts: it joins the inbox, and on an idle link it is served at once. -/

namespace Sys2Proof.Machine

variable (s : State) (k : LinkId)

/-- The bits of some characters. -/
theorem lineBits_length (bs : List Byte) : (lineBits bs).length = 10 * bs.length := by
  induction bs with
  | nil => rfl
  | cons b bs ih => rw [lineBits, List.flatMap_cons, List.length_append, ← lineBits, ih]; simp [charBits]; omega

/-- Characters driven onto a line that idles high. -/
theorem State.driveLine_bytes {x t : Nat} {bs : List Byte} (hl : (s.port k).lowSince = none)
    (hx : x + charTime * bs.length = t) : s.driveLine k t (lineBits bs) = s.sendBytes k x bs := by
  have hlen : bitTime * (lineBits bs).length = charTime * bs.length := by
    rw [lineBits_length, ← Nat.mul_assoc]; rfl
  rw [State.driveLine, State.sendBytes, hlen, hl, ← hx, Nat.add_sub_cancel]
  rfl

/-- The bytes of a frame's body, back to back. -/
theorem State.sendBytes_body (n : Nat) (tail : List Byte) (bs : List Byte) : ∀ (s : State) (x : Nat) (got : List Byte),
    (s.port k).rx = .body n got → (s.port k).lineIdle x → (s.port k).lastCharEnd = x → (s.port k).seenTo = x →
    bs ≠ [] → got.length + bs.length = n →
    s.sendBytes k x (bs ++ tail) =
      ((s.advance (x + charTime * bs.length)).setPort k { s.port k with
        rx := .check (got ++ bs) none
        lastCharEnd := x + charTime * bs.length
        seenTo := x + charTime * bs.length }).sendBytes k (x + charTime * bs.length) tail := by
  induction bs with
  | nil => intro s x got _ _ _ _ h; exact absurd rfl h
  | cons b bs ih =>
    intro s x got hrx ⟨hl, hc, hb, hx⟩ hend hseen _ hlen
    have hpos : 0 < linkGapTime := by decide
    have hmul : x + charTime * (b :: bs).length = x + charTime + charTime * bs.length := by
      simp only [List.length_cons, Nat.mul_add]; omega
    rw [List.cons_append, State.sendBytes_cons s k b _ hl hc hb hx (.inr (by rw [hend]; omega)), hmul]
    simp only [List.length_cons] at hlen
    cases bs with
    | nil =>
      have hn : ¬ got.length + 1 < n := by simp at hlen; omega
      simp [State.receive, Port.received, hrx, hn, State.setRx]
    | cons c cs =>
      have hn : got.length + 1 < n := by simp at hlen; omega
      simp only [State.receive, State.setPort_port, if_true, Port.received, hrx, hn]
      refine (ih _ (x + charTime) (got ++ [b]) (by simp) ?_ (by simp) (by simp) (by simp) (by simp at hlen ⊢; omega)).trans ?_
      · simp [Port.lineIdle, hl, hc, hb]
      · simp [State.setRx]

/-- A whole well-sized request frame on an idle line of a link whose decoder hunts joins the inbox (R148, R149, R152). -/
theorem State.sendRequest_hunt {t x : Nat} {r : Request} (hrx : (s.port k).rx = .hunt) (hidle : (s.port k).lineIdle x)
    (hx : x + charTime * (r.params.length + 6) = t) (hin : (s.port k).inbox.length < 2) (hp : r.params.length ≤ 70) :
    s.sendRequest k t r = ((s.advance t).setPort k { s.port k with lastCharEnd := t, seenTo := t }).join k r := by
  obtain ⟨kind, tag, params⟩ := r
  obtain ⟨hl, hc, hb, hseen⟩ := hidle
  have hn : (byte1 (params.length + 2)).toNat = params.length + 2 := by
    simp only [byte1, BitVec.toNat_ofNat]; simp at hp; omega
  have hgood : lengthGood (params.length + 2) = true := by
    simp only [lengthGood, decide_eq_true_eq]; simp at hp; omega
  let body : List Byte := kind :: tag :: params
  let crc := crc16 (byte1 (params.length + 2) :: body)
  have hframe : (Request.mk kind tag params).frame =
      startByte :: byte1 (params.length + 2) :: (body ++ [crcHigh crc, crcLow crc]) := rfl
  have hblen : body.length = params.length + 2 := rfl
  have hpos : 0 < linkGapTime := by decide
  have hmul : x + charTime + charTime + charTime * (params.length + 2) + charTime + charTime = t := by
    simp only [Nat.mul_add] at hx ⊢; omega
  unfold State.sendRequest
  rw [hframe, State.driveLine_bytes s k hl (x := x) (by rw [← hx]; simp [body])]
  -- the start byte
  rw [State.sendBytes_cons s k _ _ hl hc hb hseen (.inl hrx)]
  simp only [State.receive, Port.received, State.setPort_port, if_true, hrx, State.startFrame, hin]
  -- the length byte
  rw [State.sendBytes_cons _ k _ _ (by simp [hl]) (by simp [hc]) (by simp [hb]) (by simp) (.inr (by simp [hpos]))]
  simp only [State.receive, Port.received, State.setPort_port, State.setRx_port, if_true, hn, hgood]
  -- the body
  rw [State.sendBytes_body k (params.length + 2) [crcHigh crc, crcLow crc] body _ _ [] (by simp)
    (by simp [Port.lineIdle, hl, hc, hb]) (by simp) (by simp) (by simp [body]) (by simp [hblen])]
  -- the CRC
  rw [State.sendBytes_cons _ k _ _ (by simp [hl]) (by simp [hc]) (by simp [hb]) (by simp) (.inr (by simp [hpos]))]
  simp only [State.receive, Port.received, State.setPort_port, State.setRx_port, if_true]
  rw [State.sendBytes_one _ k _ (by simp [hl]) (by simp [hc]) (by simp [hb]) (by simp) (.inr (by simp [hpos]))]
  simp only [State.receive, Port.received, State.setPort_port, State.setRx_port, if_true, List.nil_append, State.endFrame,
    frameCrc, hblen]
  have hcrc : crc16 (byte1 (params.length + 2) :: body) = crc := rfl
  have hreq : requestOf body = ⟨kind, tag, params⟩ := rfl
  rw [hcrc, hreq]
  have hmax : max (x + charTime + charTime + charTime * (params.length + 2) + charTime) t = t := by omega
  simp [State.setRx, hmul, hmax]

/-- What the transmitter is handed, in the terms of the statements. -/
theorem State.send_sending (x : Reply) : s.send k x = s.sending k x := rfl

/-- A cut-off, in the terms of the statements. -/
theorem Transmission.cutAt_cutOff (x : Transmission) (t : Nat) : x.cutAt t = cutOff x t := by
  unfold cutOff
  split
  · exact Transmission.cutAt_before ‹_›
  · have h : min x.start t = x.start := by omega
    rw [Transmission.cutAt, h]; rfl

/-- The end of a transmission, in the terms of the statements. -/
theorem Transmission.ends_sentBy (x : Transmission) : x.ends = sentBy x := by
  simp only [Transmission.ends, sentBy, charTime, us, Nat.mul_right_comm]

/-- The head of an inbox is served: the state the service leaves, and its reply at the port (R153). -/
theorem State.serveHead_cons {r : Request} {rest : List Request} (h : (s.port k).inbox = r :: rest) :
    s.serveHead k =
      (answer s k r).state.send k ((answer s k r).reply r) := by
  simp [State.serveHead, h]

/-- The part as an idle link's request finds it at its service: the frame has been received and the request stands alone
in the inbox. -/
def State.atService (t : Nat) (r : Request) : State :=
  (s.advance t).setPort k { s.port k with lastCharEnd := t, seenTo := t, inbox := [r] }

/-- A request frame on an idle link is served as its last character is taken. -/
theorem requestEvent_idle {t : Nat} {kind : Kind} {tag : Byte} {params : List Byte} (h : s.linkIdle k params.length t)
    (hp : params.length ≤ 70) :
    requestEvent t k kind tag params s =
      .next (let q := s.atService k t ⟨kind.code, tag, params⟩
        let a := answer q k ⟨kind.code, tag, params⟩
        a.state.send k (a.reply ⟨kind.code, tag, params⟩)) := by
  obtain ⟨hr, hrx, hin, ht, hidle⟩ := h
  have hmul : charTime * (params.length + 6) = us (10 * (params.length + 6)) := by
    simp only [charTime, us, Nat.mul_right_comm]
  have h := State.sendRequest_hunt s k (t := t) (x := t - us (10 * (params.length + 6)))
    (r := ⟨kind.code, tag, params⟩) hrx hidle (by rw [hmul]; omega) (by simp [hin]) hp
  simp only [requestEvent, hr]
  rw [h]
  simp only [State.join, State.setPort_port, if_true, State.advance_port, hin, List.isEmpty_nil, List.nil_append]
  simp only [Bool.false_eq_true, if_false]
  rw [State.serveHead_cons _ k (r := ⟨kind.code, tag, params⟩) (rest := []) (by simp), State.setPort_setPort]
  refine congrArg _ (State.advance_past _ ?_)
  simp

/-! ### The state at the service, read field by field -/

section
variable (t : Nat) (r : Request)
@[simp] theorem State.atService_pending : (s.atService k t r).pending = s.pending := rfl
@[simp] theorem State.atService_inReset : (s.atService k t r).inReset = s.inReset := rfl
@[simp] theorem State.atService_shelfResetArmed : (s.atService k t r).shelfResetArmed = s.shelfResetArmed := rfl
@[simp] theorem State.atService_capture : (s.atService k t r).capture = s.capture := rfl
@[simp] theorem State.atService_sensors : (s.atService k t r).sensors = s.sensors := rfl
@[simp] theorem State.atService_params : (s.atService k t r).params = s.params := rfl
@[simp] theorem State.atService_cycle : (s.atService k t r).cycle = s.cycle := rfl
@[simp] theorem State.atService_alloc : (s.atService k t r).alloc = s.alloc := rfl
@[simp] theorem State.atService_burst : (s.atService k t r).burst = s.burst := rfl
@[simp] theorem State.atService_lines : (s.atService k t r).lines = s.lines := rfl
@[simp] theorem State.atService_alerts : (s.atService k t r).alerts = s.alerts := rfl
@[simp] theorem State.atService_store : (s.atService k t r).store = s.store := rfl
@[simp] theorem State.atService_now : (s.atService k t r).now = max s.now t := rfl
@[simp] theorem State.atService_ports : (s.atService k t r).ports = s.ports.set k { s.port k with lastCharEnd := t, seenTo := t, inbox := [r] } := rfl
@[simp] theorem State.atService_port (j : LinkId) :
    (s.atService k t r).port j = if j = k then { s.port k with lastCharEnd := t, seenTo := t, inbox := [r] } else s.port j := by
  simp [State.atService]
@[simp] theorem State.atService_alert (j : LinkId) : (s.atService k t r).alert j = s.alert j := rfl
@[simp] theorem State.atService_bindings : (s.atService k t r).bindings = s.bindings := rfl
@[simp] theorem State.atService_bayBlock (n : Bay) : (s.atService k t r).bayBlock n = s.bayBlock n := rfl
@[simp] theorem State.atService_occupied (n : Bay) : (s.atService k t r).occupied n = s.occupied n := rfl
@[simp] theorem State.atService_unbound (j : LinkId) : (s.atService k t r).unbound j = s.unbound j := by
  cases j <;> rfl
@[simp] theorem State.atService_relocate (j : LinkId) (sel : Byte) :
    (s.atService k t r).relocate j sel = s.relocate j sel := by cases j <;> rfl
end

/-! ### A service's change of one block, moved before the request's arrival -/

section
variable (t : Nat) (r : Request)
@[simp] theorem State.atService_setAlloc (x : Allocator) :
    (s.atService k t r).setAlloc x = (s.setAlloc x).atService k t r := rfl
@[simp] theorem State.atService_setBurst (x : BurstUnit) :
    (s.atService k t r).setBurst x = (s.setBurst x).atService k t r := rfl
@[simp] theorem State.atService_setStore (x : ProfileStore) :
    (s.atService k t r).setStore x = (s.setStore x).atService k t r := rfl
@[simp] theorem State.atService_setArmed (x : Bool) :
    (s.atService k t r).setArmed x = (s.setArmed x).atService k t r := rfl
@[simp] theorem State.atService_setAlerts (x : PerLink AlertState) :
    (s.atService k t r).setAlerts x = (s.setAlerts x).atService k t r := rfl
@[simp] theorem State.atService_setSensors (x : Row8 SensorRec) :
    (s.atService k t r).setSensors x = (s.setSensors x).atService k t r := rfl
@[simp] theorem State.atService_setCapture (x : Row8 Decoder) :
    (s.atService k t r).setCapture x = (s.setCapture x).atService k t r := rfl
@[simp] theorem State.atService_setAlert (j : LinkId) (x : AlertState) :
    (s.atService k t r).setAlert j x = (s.setAlert j x).atService k t r := rfl
@[simp] theorem State.atService_setSensor (n : Bay) (x : SensorRec) :
    (s.atService k t r).setSensor n x = (s.setSensor n x).atService k t r := rfl
@[simp] theorem State.atService_setDecoder (n : Bay) (x : Decoder) :
    (s.atService k t r).setDecoder n x = (s.setDecoder n x).atService k t r := rfl
@[simp] theorem State.atService_raiseServing (b : Row8 (List Bay)) (n : Bay) (c : BayCause) (w : BitVec 2) :
    (s.atService k t r).raiseServing b n c w = (s.raiseServing b n c w).atService k t r := by
  simp only [State.raiseServing]
  cases servingLink b n <;> simp
end

/-! ### The Request Handler (R161) -/

/-- Every kind is named by its own code. -/
@[simp] theorem Kind.ofCode_code (kind : Kind) : Kind.ofCode kind.code = some kind := by cases kind <;> rfl

/-- The checks that come before a known kind is handed on. -/
theorem answer_known (kind : Kind) (tag : Byte) (params : List Byte) :
    answer s k ⟨kind.code, tag, params⟩ =
      if kind.shelfOnly && k != .shelf then refuse s .access
      else if kind.needsBinding && s.unbound k then refuse s .notBound
      else dispatch s k kind params := by
  simp [answer]

/-! ### Handing on (R161): one equation for each kind -/

section
variable (sel hi lo b c : Byte)
@[simp] theorem dispatch_getBay : dispatch s k .getBay [sel] = withBay s k sel fun n => serveGetBay s n := rfl
@[simp] theorem dispatch_setDemand : dispatch s k .setDemand [sel, hi, lo] =
    withBay s k sel fun n => serveSetDemand s n (value2 hi lo) := rfl
@[simp] theorem dispatch_askBurst (dhi dlo wait tag : Byte) : dispatch s k .askBurst [sel, hi, lo, dhi, dlo, wait, tag] =
    withBay s k sel fun n => serveAskBurst s n (value2 hi lo) (value2 dhi dlo) wait.toNat tag := rfl
@[simp] theorem dispatch_dropBurst : dispatch s k .dropBurst [sel, c] =
    withBay s k sel fun n => serveDropBurst s n c.toNat := rfl
@[simp] theorem dispatch_getAlert : dispatch s k .getAlert [] = serveGetAlert s k := rfl
@[simp] theorem dispatch_setAlertMask : dispatch s k .setAlertMask [b] = serveSetAlertMask s k b := rfl
@[simp] theorem dispatch_getHistory : dispatch s k .getHistory [c] = serveGetHistory s k c.toNat := rfl
@[simp] theorem dispatch_getShelf : dispatch s k .getShelf [] = serveGetShelf s := rfl
@[simp] theorem dispatch_getPools : dispatch s k .getPools [] = serveGetPools s := rfl
@[simp] theorem dispatch_getCaptureCounters : dispatch s k .getCaptureCounters [b, c] =
    serveGetCaptureCounters s b.toNat c.toNat := rfl
@[simp] theorem dispatch_getSensor : dispatch s k .getSensor [b, c] = serveGetSensor s b.toNat c.toNat := rfl
@[simp] theorem dispatch_getLinkCounters : dispatch s k .getLinkCounters [b, c] =
    serveGetLinkCounters s b.toNat c.toNat := rfl
@[simp] theorem dispatch_pinBay : dispatch s k .pinBay [b, hi, lo] =
    withBay s k b fun n => servePinBay s n (value2 hi lo) := rfl
@[simp] theorem dispatch_unpinBay : dispatch s k .unpinBay [b] = withBay s k b fun n => serveUnpinBay s n := rfl
@[simp] theorem dispatch_setCap (dhi dlo : Byte) : dispatch s k .setCap [hi, lo, dhi, dlo] =
    serveSetCap s (value2 hi lo) (value2 dhi dlo) := rfl
@[simp] theorem dispatch_releaseBayLink : dispatch s k .releaseBayLink [b] = serveReleaseBayLink s b.toNat := rfl
@[simp] theorem dispatch_shelfReset : dispatch s k .shelfReset [] = serveShelfReset s := rfl
@[simp] theorem dispatch_setAlertGroups : dispatch s k .setAlertGroups [b, c] = serveSetAlertGroups s b c := rfl
@[simp] theorem dispatch_profileBlock (body : List Byte) : dispatch s k .profileBlock (b :: body) =
    serveProfileBlock s b.toNat body := rfl
@[simp] theorem dispatch_profileDiscard : dispatch s k .profileDiscard [] = serveProfileDiscard s := rfl
@[simp] theorem dispatch_profileRead : dispatch s k .profileRead [b] = serveProfileRead s b.toNat := rfl
@[simp] theorem dispatch_profileCommit : dispatch s k .profileCommit [] = serveProfileCommit s := rfl
end

/-- A two-byte field read back (00_scope.md). -/
@[simp] theorem value2_byte1 (v : BitVec 16) : value2 (byte1 (v.toNat / 256)) (byte1 v.toNat) = v.toNat := by
  have := v.isLt
  simp [value2, byte1]; omega

/-- A selector that reaches a bay is relocated to it (R160, R162). -/
theorem State.reaches.relocate {s : State} {k : LinkId} {sel : Byte} {n : Bay} (h : s.reaches k sel n) :
    s.relocate k sel = .ok n := by
  cases k with
  | shelf => simp only [State.reaches] at h; simp [State.relocate, bayOfNat, h]
  | bay i =>
    simp only [State.reaches] at h
    rcases h with ⟨rfl, h⟩ | ⟨rfl, h⟩ <;> simp only [State.relocate]
    all_goals
      revert h; cases s.bindings.get i with
      | nil => simp
      | cons a l => cases l <;> simp [boundBay]

/-- A link on which a selector reaches a bay has a binding list, or is the shelf link. -/
theorem State.reaches.bound {s : State} {k : LinkId} {sel : Byte} {n : Bay} (h : s.reaches k sel n) :
    s.unbound k = false := by
  cases k with
  | shelf => rfl
  | bay i =>
    simp only [State.reaches] at h
    simp only [State.unbound]
    cases hb : s.bindings.get i <;> simp_all

/-- A request on an idle link, once its answer is known: `q` is the state before with the service's effect on it. -/
theorem requestEvent_replied {s q : State} {k : LinkId} {t : Nat} {kind : Kind} {tag : Byte} {params : List Byte}
    (h : s.linkIdle k params.length t) {status : Status} {data : List Byte} (hp : params.length ≤ 70)
    (ha : answer (s.atService k t ⟨kind.code, tag, params⟩) k ⟨kind.code, tag, params⟩ =
      ⟨q.atService k t ⟨kind.code, tag, params⟩, status, data⟩) (hq : q.port k = s.port k) :
    requestEvent t k kind tag params s = .next (q.replied t k ⟨kind.code, tag, params⟩ status data) := by
  rw [requestEvent_idle s k h hp]
  simp only [ha]
  simp [State.replied, State.atService, Answer.reply, hq, State.send_sending]

end Sys2Proof.Machine
end

