-- ==== Sys2Proof/Tests/Slice0.lean ====
section
/-! SUPPORT. Tests against the worked cases of the spec, each on one operation or one command, with the source in the comment,
and for each statement with hypotheses a witness that meets them. -/

namespace Sys2Proof.Tests

-- One theorem after the other: each kernel evaluation waits for what stands before it, and many waiting at once need a
-- thread each.
set_option Elab.async false

open Sys2Proof.Machine

/-! ### The worked shelf of Chapters 4 to 7 -/

/-- A bay of the worked shelf (tables of Chapters 4, 5 and 7). -/
def bayOf (floor idle peak fallback r : Nat) (pool : Pool) (len amin ad af phi : Nat) : BayBlock :=
  ⟨true, floor, idle, peak, fallback, 340, r, pool, len, amin, ad, af, phi⟩

/-- The worked shelf: airflow order 0, 1, 4, 5, couplings 4←0 and 5←1, caps 1100 and 700, E 20 ms, slot 100 µs. -/
def shelf : Profile where
  shelf := ⟨0x0816, 20, 1100, 700, 20, 10, 200, 1000, 12, 100, [0, 1, 4, 5]⟩
  bindings := ⟨[0], [1], [4], [5], [], [], [], []⟩
  bays := ⟨bayOf 200 80 400 250 80 0 32 4 16 20 0, bayOf 150 90 360 200 128 1 16 2 8 10 4, BayBlock.empty, BayBlock.empty,
    bayOf 150 70 320 180 80 0 24 3 12 12 8, bayOf 200 100 380 220 96 1 40 5 20 24 12, BayBlock.empty, BayBlock.empty⟩
  couplings := [⟨4, 0, 32⟩, ⟨5, 1, 40⟩]
  pools := ⟨⟨300, 200⟩, ⟨400, 300⟩, ⟨0, 0⟩, ⟨0, 0⟩⟩

/-- The snapshot of allocation 42 (Chapter 5, "Worked allocation"). -/
def snap42 : Snapshot where
  epoch := 42
  profile := shelf
  cap := 1100
  derated := false
  usable := ⟨some ⟨300, 240⟩, some ⟨320, 260⟩, none, none, some ⟨320, 200⟩, some ⟨300, 260⟩, none, none⟩
  presence := 0x23
  demand := ⟨some 400, some 320, none, none, some 260, some 330, none, none⟩
  pin := Row8.const none
  rotation := 4
  clamped := false
  bursts := ⟨none, some (1, 50), none, none, none, none, none, none⟩
  admitted := 0

/-- The four occupied bays' values of a function. -/
def four {α : Type} (f : Bay → α) : List α := [f 0, f 1, f 4, f 5]

/-- Chapter 4, "The base case". -/
theorem test_ceilings_base : four snap42.ceiling = [368, 300, 212, 350] := by decide

/-- Chapter 4, "Two upstream entries". -/
theorem test_ceilings_two_upstream :
    four { snap42 with profile := { shelf with couplings := ⟨5, 0, 12⟩ :: shelf.couplings } }.ceiling =
      [368, 300, 212, 334] := by decide

/-- Chapter 5, "Grants and records". -/
theorem test_grants_42 : four snap42.grant = [319, 281, 194, 306] := by decide

/-- Chapter 5, "The cap-short variant". -/
theorem test_grants_short : four { snap42 with cap := 700, derated := true }.grant = [186, 186, 140, 186] := by decide

/-- Chapter 5, "A pinned bay and a hand-out that wraps". -/
theorem test_grants_pinned :
    four { snap42 with pin := (Row8.const none).set 5 (some 380), rotation := 5 }.grant = [298, 267, 185, 350] := by
  decide

/-- Chapter 5, the flags of "Grants and records", of "The cap-short variant" and of the pinned bay, as Chapter 8 numbers
them. -/
theorem test_record_flags :
    (four snap42.flags).map RecordFlags.byte = [0x86, 0x83, 0x86, 0x02] ∧
      (four { snap42 with cap := 700, derated := true }.flags).map RecordFlags.byte = [0x88, 0x89, 0x88, 0x08] ∧
      (four { snap42 with pin := (Row8.const none).set 5 (some 380), rotation := 5 }.flags).map RecordFlags.byte =
        [0x86, 0x83, 0x86, 0x90] := by
  decide +kernel

/-! ### A running part -/

/-- A port whose decoder stands in a state, its last character having ended at instant 0. -/
def portIn (rx : RxState) : Port := { Port.reset with rx := rx }

/-- The part from reset with one port replaced. -/
def withPort (k : LinkId) (p : Port) : State := State.reset.setPort k p

/-- A decoder in a state at a level that its raw line has too, its last edge at instant 0. -/
def decoderIn (state : CaptureState) (level : Bool) : Decoder :=
  { Decoder.atRelease false 0 with state := state, level := level, raw := level }

/-- The part from reset with decoder 0 in a state at a level, its last edge at instant 0. -/
def captureIn (state : CaptureState) (level : Bool) : State := State.reset.setDecoder 0 (decoderIn state level)

/-- The same with a candidate open since instant `c`. -/
def candidateIn (state : CaptureState) (level : Bool) (c : Nat) : State :=
  State.reset.setDecoder 0 { decoderIn state level with raw := !level, candidate := some c }

/-- A PROFILE line with the pattern of a bay of the worked shelf, its slot 0 started at instant 0. -/
def lineOf (b : BayBlock) : Line :=
  ⟨.profile, b.len, b.countFallback, b.phi, 0, 100, none, .free, 0, !openSlot b.countFallback b.len b.phi⟩

/-- A sensor record in VALID that accepted 80 qd and 240 hw at instant 0. -/
def validRecord : SensorRec := ⟨.valid, some ⟨80, 240⟩, some 0, 0, 0, 0, 80⟩

/-- The accounts of the worked shelf. -/
def accounts : Row4 PoolAccount := Row4.ofFn fun p => ⟨(shelf.pools.get p).reserve, (shelf.pools.get p).reserve, false, 0⟩

/-- The worked shelf running in epoch 1, with no operation in flight. -/
def running : State :=
  { State.reset with
    alloc := { Allocator.reset with engine := .running, epoch := 1 }
    cycle := ⟨some (ms 20), false, none, false, false⟩
    sensors := Row8.ofFn fun n => if (shelf.bays.get n).occupied then validRecord else SensorRec.reset
    burst := { BurstUnit.reset with pools := accounts }
    lines := Row8.ofFn fun n => if (shelf.bays.get n).occupied then lineOf (shelf.bays.get n) else Line.defaultAt 0
    params := ⟨200, 1000, 12⟩
    store := ⟨shelf, 0xFFF, none, some shelf⟩ }

/-- The same with bursts: bay 4's burst of 60 hw in its last epoch, bay 0 asking 50 hw of pool 0 and bay 1 asking 401 hw
of pool 1, whose reserve is 400 hw, in its last round. -/
def bursting : State :=
  { running with
    burst :=
      { queue := [⟨0, 0, 50, 3, 9, 1⟩, ⟨1, 1, 401, 3, 1, 2⟩]
        active := (Row8.const none).set 4 (some ⟨0, 60, 1, 7⟩)
        pools := accounts.set 0 ⟨300, 240, false, 0⟩ } }

/-! ### The form of commands -/

/-- A PROFILE BLOCK body of 70 bytes with its block number would make 71 parameter bytes (R148). -/
theorem test_wellFormed_refuses_long_body :
    (Instr.profileBlock 0 .shelf 0 0 (List.replicate 70 0)).wellFormed = false := by decide

/-- A body of 65 bytes, block 10's, is sent. -/
theorem test_wellFormed_block_ten : (Instr.profileBlock 0 .shelf 0 10 (List.replicate 65 0)).wellFormed = true := by decide

/-- A raw line's changes come one after the other, and none after the trace's end (R2). -/
theorem test_wellFormed_refuses_unordered_trace :
    (Instr.acceptedEdge ⟨[5, 5], 9⟩ 0).wellFormed = false ∧ (Instr.acceptedEdge ⟨[5, 10], 9⟩ 0).wellFormed = false ∧
      (Instr.acceptedEdge ⟨[5, 9], 9⟩ 0).wellFormed = true := by decide

/-- The changes of a receive line likewise (R148). -/
theorem test_wellFormed_refuses_unordered_line :
    (Instr.characterTaken 9 .shelf [5, 5]).wellFormed = false ∧ (Instr.characterTaken 9 .shelf [5, 10]).wellFormed = false ∧
      (Instr.characterTaken 9 .shelf [5, 9]).wellFormed = true := by decide

/-- The table gives no bits. -/
theorem test_no_word_spells_a_command : decodeTableWord 16 0x1234 = none := rfl

/-- Chapter 8, R148: the CRC of the nine characters 1 to 9. -/
theorem test_crc_check_value : crc16 [0x31, 0x32, 0x33, 0x34, 0x35, 0x36, 0x37, 0x38, 0x39] = 0x29B1 := by decide +kernel

/-! ### Worked cases of single commands -/

/-- What a predicate says of the state a command answers. -/
def after (c : Instr) (s : State) (p : State → Bool) : Bool :=
  match exec c s with
  | .next s' => p s'
  | .fault _ => false
  | .refused _ => false

/-- Chapter 1, "A good frame": the temperature pulse from 580 µs to 971.4 µs decodes to 341; its end is accepted at
975.4 µs. -/
theorem test_temperature_pulse :
    after (.acceptedEdge ⟨[971400], 975400⟩ 2)
      (State.reset.setDecoder 2 { decoderIn .temp true with edgeAt := 580000 })
      (fun s => (s.capture.get 2).state == .gapB && (s.capture.get 2).temp == some 341) = true := by decide +kernel

/-- Chapter 1, "A monitor that stops mid-gap": the gap that began at 971.4 µs has reached 201 µs at 1172.4 µs, but the edge
whose candidate opened at 1172.0 µs and is accepted at 1176.0 µs ends it after 200.6 µs. -/
theorem test_gap_of_200_6 :
    let s := State.reset.setDecoder 2 { decoderIn .gapB false with temp := some 341, edgeAt := 971400 }
    after (.acceptedEdge ⟨[1172000], 1172000⟩ 2) s (fun s =>
      after (.captureGapError 1172400 2) s (fun s =>
        (s.capture.get 2).state == .gapB && (s.capture.get 2).gap == 0 &&
        after (.acceptedEdge ⟨[], 1176000⟩ 2) s
          (fun s => (s.capture.get 2).state == .power && (s.capture.get 2).gap == 0))) = true := by decide +kernel

/-- Chapter 1, "A dip inside a value pulse", case 1: a dip of 3 µs is invisible, and the width is 391. -/
theorem test_dip_of_3 :
    after (.acceptedEdge ⟨[700000, 703000, 971400], 975400⟩ 2)
      (State.reset.setDecoder 2 { decoderIn .temp true with edgeAt := 580000 })
      (fun s => (s.capture.get 2).state == .gapB && (s.capture.get 2).temp == some 341) = true := by decide +kernel

/-- Case 2: a dip of 6 µs is a gap too short, accepted at 710 µs. -/
theorem test_dip_of_6 :
    after (.acceptedEdge ⟨[700000, 706000], 706000⟩ 2)
      (State.reset.setDecoder 2 { decoderIn .temp true with edgeAt := 580000 })
      (fun s => (s.capture.get 2).state == .gapB && (s.capture.get 2).temp == some 70 &&
        after (.captureGapError 710000 2) s
          (fun s => (s.capture.get 2).state == .seek && (s.capture.get 2).gap == 1 && (s.capture.get 2).level &&
            ((s.alert .shelf).pendingCauses.get 4 == some ⟨4, 0⟩))) = true := by decide +kernel

/-- Chapter 2, "Implausible re-anchor into over-temperature": the third implausible sample, 376 qd, is accepted at 140 ms
with JUMP, and 376 is not below 360. -/
theorem test_reanchor :
    after (.tailComplete 140000000 5)
      ((running.setSensor 5 ⟨.valid, some ⟨335, 260⟩, some 80000000, 2, 2, 0, 335⟩).setDecoder 5
        { decoderIn .tail false with temp := some 376, power := some 310, edgeAt := 139000000 })
      (fun s => s.sensors.get 5 == ⟨.valid, some ⟨376, 310⟩, some 140000000, 0, 3, 0, 376⟩ &&
        (s.lines.get 5).hold == .held && (s.lines.get 5).live == 5 &&
        ((s.alert (.bay 3)).pendingCauses.get 0 == some ⟨1, 0⟩)) = true := by decide +kernel

/-- Chapter 7, "Allocation 42": the four counts. -/
theorem test_counts_42 : four snap42.count = [23, 11, 11, 29] := by decide +kernel

/-- Chapter 7, the first eight pattern slots at count 23 of 32. -/
theorem test_pattern_23_32 : (List.range 8).filter (openSlot 23 32) = [1, 2, 4, 5, 6] := by decide

/-- Chapter 6, "Head-of-line blocking by the bay's own burst", round 60. -/
theorem test_round_60 :
    let b : BurstUnit :=
      { queue := [⟨1, 1, 80, 5, 3, 9⟩, ⟨0, 0, 120, 10, 1, 3⟩, ⟨4, 0, 100, 4, 4, 1⟩]
        active := (Row8.const none).set 1 (some ⟨1, 50, 2, 7⟩)
        pools := accounts.set 1 ⟨400, 350, false, 0⟩ }
    let r := b.round 1100 700
    r.unit.queue = [⟨1, 1, 80, 5, 2, 9⟩, ⟨4, 0, 100, 4, 3, 1⟩] ∧ r.unit.active.get 1 = some ⟨1, 50, 1, 7⟩ ∧
      r.expired = [0] ∧ r.admitted = [] ∧ (r.unit.pools.get 1).remaining = 350 := by decide +kernel

/-- Chapter 7, "The derate flag across three epochs" at 7.2 ms: the fast clamp takes bay 0's live count 23 to 16. -/
theorem test_fast_clamp :
    after (.derateAssertion 7200000)
      ({ running with cycle := ⟨some 20000000, true, some 7000000, false, false⟩ }.setLine 0
        { lineOf (shelf.bays.get 0) with live := 23, staged := some ⟨24, false⟩ })
      (fun s => (s.lines.get 0).live == 16 && (s.lines.get 0).staged == some ⟨24, false⟩ && s.cycle.derate) = true := by
  decide +kernel

/-- Chapter 8, "Two requests outstanding, and a third too soon" at 310 µs: 0xC3 began at 300 µs, its bits being 1, 1, 0, 0, 0,
0, 1, 1 in the order sent. -/
theorem test_overrun :
    after (.characterTaken 309999 (.bay 1) [300000, 301000, 303000, 307000])
      (withPort (.bay 1) { Port.reset with inbox := [⟨0x10, 1, [0]⟩, ⟨0x12, 2, []⟩] }) (fun s =>
      after (.overrun 310000 (.bay 1)) s fun s =>
        (s.port (.bay 1)).rx == .discard && (s.port (.bay 1)).counters.overrun == 1 && !s.rdy (.bay 1) &&
          ((s.alert .shelf).pendingCauses.get 5 == some ⟨2, 0⟩)) = true := by decide +kernel

/-- Chapter 8, "A break in the middle of a reply": the line falls at 30 µs, FRAMING is counted at 40 µs and BREAK at 2030 µs,
and not a nanosecond earlier. -/
theorem test_break_in_a_reply :
    after (.characterTaken 39999 (.bay 3) [30000]) running (fun s => (s.port (.bay 3)).counters.framing == 0 &&
      after (.framing 40000 (.bay 3)) s (fun s =>
        (s.port (.bay 3)).counters.framing == 1 && ((s.alert .shelf).pendingCauses.get 5 == some ⟨8, 0⟩) &&
        after (.lineBreak 2029999 (.bay 3)) s (fun s => (s.port (.bay 3)).counters.brk == 0 &&
          after (.lineBreak 2030000 (.bay 3)) s fun s =>
            (s.port (.bay 3)).counters.brk == 1 && (s.port (.bay 3)).counters.framing == 1))) = true := by decide +kernel

/-- Chapter 8, "Two requests outstanding, and a third too soon": GET BAY's reply of 42 bytes, begun at 80 µs, ends at 500 µs and not
a nanosecond earlier; ASK BURST, refused or not, is then served, and DISCARD stays. -/
theorem test_reply_of_420_microseconds :
    after (.replyEnd 499999 (.bay 1))
      (running.setPort (.bay 1) { Port.reset with
        rx := .discard, lastCharEnd := 390000, seenTo := 390000, inbox := [⟨0x10, 1, [0]⟩, ⟨0x12, 2, [0, 0, 80, 0, 4, 3, 9]⟩]
        reply := some ⟨0x10, 1, 0, []⟩, tx := ⟨80000, List.replicate 42 0⟩ })
      (fun s => !s.rdy (.bay 1) && after (.replyEnd 500000 (.bay 1)) s fun s =>
        s.rdy (.bay 1) && (s.port (.bay 1)).inbox.length == 1 && s.burst.queue.length == 1 &&
          (s.port (.bay 1)).tx.bytes.length == 8 && (s.port (.bay 1)).rx == .discard && s.now == 500000) = true := by
  decide +kernel

/-- R157: a reply is cut off at the end of the character in progress, and at once where none is. -/
theorem test_cut_off :
    ((Transmission.mk 100000 [1, 2, 3, 4]).cutAt 115000) = ⟨100000, [1, 2]⟩ ∧
      ((Transmission.mk 100000 [1, 2, 3, 4]).cutAt 120000) = ⟨100000, [1, 2]⟩ ∧
      ((Transmission.mk 100000 [1, 2, 3, 4]).cutAt 140000) = ⟨100000, [1, 2, 3, 4]⟩ ∧
      ((Transmission.mk 100000 [1, 2, 3, 4]).cutAt 90000).ends = 90000 := by decide +kernel

/-- R148: a reply's start byte 0x3C on TX, a start bit, the bits 0, 0, 1, 1, 1, 1, 0, 0 and a stop bit, and high around it. -/
theorem test_tx_levels :
    (List.range 12).map ((withPort .shelf { Port.reset with tx := ⟨10000, [0x3C]⟩ }).txLevel .shelf <| 9500 + 1000 * ·) =
      [true, false, false, false, true, true, true, true, false, false, true, true] := by decide +kernel

/-- SL, low since 1 µs, breaks while SHELF RESET's reply of 7 bytes is sent from 1990.5 µs on. -/
def breakInShelfReset : State :=
  { running.setPort .shelf
      { Port.reset with
        lowSince := some 1000, seenTo := 2000000, inbox := [⟨0x34, 1, []⟩], reply := some ⟨0x34, 1, 0, []⟩
        tx := ⟨1990500, (Reply.mk 0x34 1 0 []).frame⟩ } with
    now := 2000000, shelfResetArmed := true }

/-- R158, R159, R171: the reset is taken at 2010.5 µs, where the second character ends; nothing is left for SHELF_RESET_TAKEN; the
line, still low, breaks again 2 ms after the reset. -/
theorem test_break_takes_the_reset :
    after (.lineBreak 2001000 .shelf) breakInShelfReset (fun s =>
      !s.shelfResetArmed && s.alloc.engine == .stopped && s.store.installed.isNone && s.now == 2010500 &&
        (s.port .shelf).counters.brk == 0 && (s.lines.get 0).slotStart == 2010500 &&
        after (.shelfResetTaken 2100000) s (fun s => (s.lines.get 0).slotStart == 2010500) &&
        after (.lineBreak 4010499 .shelf) s (fun s => (s.port .shelf).counters.brk == 0) &&
        after (.lineBreak 4010500 .shelf) s (fun s => (s.port .shelf).counters.brk == 1)) = true := by decide +kernel

/-- R148, R157: the line falls again 9.6 µs after the start edge of 0xFF, its stop bit having been sampled high: no character
starts, and the break that follows counts no FRAMING. -/
theorem test_low_after_the_stop_bit :
    after (.characterTaken 10000 .shelf [0, 1000, 9600]) State.reset (fun s =>
      (s.port .shelf).counters.noise == 1 && (s.port .shelf).char.isNone &&
      after (.lineBreak 2009600 .shelf) s fun s =>
        (s.port .shelf).counters.brk == 1 && (s.port .shelf).counters.framing == 0) = true := by decide +kernel

/-- R159: a line low at the release is timed from it, and no character begins there. -/
theorem test_low_at_the_release :
    after (.characterTaken 500000 .shelf [400000]) { State.reset with inReset := true } (fun s =>
      after (.releaseOfReset 1000000) s fun s => (s.port .shelf).char.isNone &&
        after (.lineBreak 2999999 .shelf) s fun s => (s.port .shelf).counters.brk == 0 &&
          after (.lineBreak 3000000 .shelf) s fun s =>
            (s.port .shelf).counters.brk == 1 && (s.port .shelf).counters.framing == 0) = true := by decide +kernel

/-- R154: a count byte of 4 stands before GET POOLS's four accounts of 9 bytes, and two sizes after them. -/
theorem test_get_pools_counts_its_records :
    after (.getPools 9000000 .shelf 3) bursting (fun s =>
      match (s.port .shelf).reply with
      | some r => r.data.length == 39 && r.data.take 5 == [4, 1, 44, 0, 240] && r.data.drop 37 == [2, 1]
      | none => false) = true := by decide +kernel

/-- R170, "exactly as at a break": a decoder in DISCARD enters HUNT, so that a frame begun after the reset is received. -/
theorem test_release_ends_discard :
    after (.releaseBayLink 9000000 .shelf 3 2) (running.setPort (.bay 2) (portIn .discard))
      (fun s => (s.port (.bay 2)).rx == .hunt) = true := by decide +kernel

/-- Chapter 9, "A pin, a demand and an unpin": PIN BAY 5, 500. -/
theorem test_pin_bay_5 :
    after (.pinBay 100000 .shelf 9 5 500)
      (running.setBurst { running.burst with queue := [⟨5, 1, 90, 4, 6, 12⟩] })
      (fun s => s.alloc.pin.get 5 == some 380 && s.burst.queue == [] &&
        ((s.alert (.bay 3)).pendingCauses.get 5 == some ⟨1, 1⟩) &&
        ((s.port .shelf).reply == some ⟨0x30, 9, 1, [5, 1, 124]⟩)) = true := by decide +kernel

/-- Chapter 11, "Worked sequence": Pk 300 with Pf 320 in block 4 fails check 3 at index 2. -/
theorem test_commit_check_3 :
    after (.profileCommit 100000 .shelf 1)
      (running.setStore { running.store with
        staging := { shelf with bays := shelf.bays.set 2 (bayOf 0 70 300 320 0 0 16 1 1 1 0) } })
      (fun s => (s.port .shelf).reply == some ⟨0x43, 1, 9, [3, 2]⟩ && s.store.waiting.isNone) = true := by decide +kernel

/-- Chapter 11, "Worked sequence": a profile that passes is pending for the next epoch. -/
theorem test_commit_passes :
    after (.profileCommit 100000 .shelf 1) { running with alloc := { running.alloc with epoch := 310 } }
      (fun s => (s.port .shelf).reply == some ⟨0x43, 1, 0, [0, 0, 1, 55]⟩ && s.store.waiting == some shelf) = true := by
  decide +kernel

/-- Chapter 6, "Heads blocked by the shelf under derate", round 80, and R117: K = 760 stands above S = 700, so the shelf blocks bay
1's head, and bay 5's behind its own running burst or with a pool that cannot pay as well; no pool is marked. -/
theorem test_round_80 :
    let b (q : QueueEntry) (left : Nat) : BurstUnit :=
      ⟨[q], (Row8.const none).set 5 (some ⟨1, 60, 4, 5⟩), accounts.set 1 ⟨400, left, false, 4⟩⟩
    let r := (b ⟨1, 1, 40, 2, 2, 11⟩ 340).round 700 700
    r.outcome = .blockedByShelf ∧ r.unit.queue = [⟨1, 1, 40, 2, 1, 11⟩] ∧ r.unit.pools.get 1 = ⟨400, 340, false, 4⟩ ∧
      ((b ⟨5, 1, 90, 4, 6, 12⟩ 340).round 700 700).outcome = .blockedByShelf ∧
      ((b ⟨1, 1, 40, 2, 2, 11⟩ 30).round 700 700).unit.pools.get 1 = ⟨400, 30, false, 4⟩ := by decide +kernel

/-- R39, R144: a first commit is timed from the end of its frame's last character, 60 µs, also when the trace that carries it runs
on; the second CRC byte of PROFILE COMMIT with tag 1 begins at 50 µs. -/
theorem test_first_commit_at_the_characters_end :
    let got : List Byte := [0x43, 1]
    let bits := lineEdges true 50000 (charBits (crcLow (frameCrc got)))
    after (.characterTaken 900000 .shelf bits)
      ((withPort .shelf { portIn (.check got (some (crcHigh (frameCrc got)))) with lastCharEnd := 50000, seenTo := 50000 }).setStore
        ⟨shelf, 0xFFF, none, none⟩)
      (fun s => s.cycle.epochDue == some (60000 + ms shelf.shelf.epochMs) && (s.lines.get 0).slotStart == 60000 &&
        s.now == 900000) = true := by decide +kernel

/-- Chapter 10, "Worked sequence", the first GET ALERT: cause 0 with vector 10. -/
theorem test_get_alert :
    after (.getAlert 60000 (.bay 0) 4)
      (running.setAlert (.bay 0)
        ⟨(((Row8.const none).set 0 (some ⟨2, 0⟩)).set 5 (some ⟨3, 3⟩)).set 6 (some ⟨2, 0⟩), 0xC0, 0x03⟩)
      (fun s => (s.port (.bay 0)).reply == some ⟨0x14, 4, 0, [0, 2, 0]⟩ && s.alt (.bay 0)) = true := by decide +kernel

/-! ### Witnesses: for each statement with hypotheses, states and operands that meet them, at the edges of each clause -/

/-- What a predicate says of the state a step answers. -/
def afterStep (s : State) (p : State → Bool) : Bool :=
  match step s with
  | .next s' => p s'
  | .fault _ => false
  | .refused _ => false

/-- An empty queue, on which the part idles. -/
theorem witness_StepTakesTheFrontCommand : State.reset.pending = [] ∧ step State.reset = .next State.reset := ⟨rfl, rfl⟩

/-- RST asserted, with a command of each kind; a SHELF RESET armed, as its reply ends and a nanosecond before; none armed. -/
theorem witness_ResetsSetEveryBlock :
    let s := breakInShelfReset
    ({ running with inReset := true } : State).inReset = true ∧ s.inReset = false ∧ s.shelfResetArmed = true ∧
      sentBy (s.port .shelf).tx = 2060500 ∧ sentBy (s.port .shelf).tx ≤ max s.now 2060500 ∧
      max s.now 2060499 < sentBy (s.port .shelf).tx ∧ running.inReset = false ∧ running.shelfResetArmed = false ∧
      (Instr.boundary 5).instant = 5 ∧ (Instr.acceptedEdge ⟨[3], 5⟩ 0).instant = 5 := by decide +kernel

/-- At 1000 µs of quiet low, and a nanosecond before; with a candidate that opened then, and a nanosecond before. -/
theorem witness_QuietLowEntersIdle :
    let due (s : State) := max (s.capture.get 0).seekAt (s.capture.get 0).edgeAt + us 1000
    let in_ (s : State) := s.inReset = false ∧ (s.capture.get 0).state = .seek ∧ (s.capture.get 0).level = false
    (in_ State.reset ∧ due State.reset ≤ max State.reset.now 1000000 ∧ max State.reset.now 999999 < due State.reset) ∧
    (in_ (candidateIn .seek false 1000000) ∧ ((candidateIn .seek false 1000000).capture.get 0).candidate = some 1000000) ∧
    due (candidateIn .seek false 1000000) ≤ min (max 0 1003000) 1000000 ∧
    min (max 0 1003000) 999999 < due (candidateIn .seek false 999999) := by decide +kernel

/-- Each state at the least and the greatest good width, the candidate held for 4 µs. -/
theorem witness_GoodEdgesMoveTheFrame :
    let w (s : State) (c : Nat) := (c - (s.capture.get 0).edgeAt) / 1000
    let at_ (q : CaptureState) (l : Bool) (c : Nat) :=
      let s := candidateIn q l c
      s.inReset = false ∧ (s.capture.get 0).candidate = some c ∧ (s.capture.get 0).state = q ∧
        (s.capture.get 0).level = l ∧ c + us 4 ≤ max s.now (c + 4000)
    at_ .idle false 0 ∧
    (at_ .marker true 400000 ∧ w (candidateIn .marker true 400000) 400000 = 400 ∧ at_ .marker true 600999 ∧
      w (candidateIn .marker true 600999) 600999 = 600) ∧
    (at_ .gapA false 40000 ∧ at_ .gapB false 200999 ∧ w (candidateIn .gapB false 200999) 200999 = 200) ∧
    (at_ .temp true 50000 ∧ at_ .power true 1073999 ∧ w (candidateIn .power true 1073999) 1073999 = 1073) ∧
    (at_ .seek false 999999 ∧ 999999 < max ((candidateIn .seek false 999999).capture.get 0).seekAt
      ((candidateIn .seek false 999999).capture.get 0).edgeAt + us 1000) ∧
    (at_ .seek true 1999999 ∧ 1999999 < ((candidateIn .seek true 1999999).capture.get 0).edgeAt + us 2000) ∧
    ((candidateIn .seek true 5000000).setDecoder 0
      { (candidateIn .seek true 5000000).capture.get 0 with stuckCounted := true }).capture.get 0 =
        { (candidateIn .seek true 5000000).capture.get 0 with stuckCounted := true } := by
  decide +kernel

/-- Each cause at the widths next to the good ones, the candidate held for 4 µs. -/
theorem witness_BadEdgesAbandonTheFrame :
    let w (s : State) (c : Nat) := (c - (s.capture.get 0).edgeAt) / 1000
    let at_ (q : CaptureState) (l : Bool) (c : Nat) :=
      let s := candidateIn q l c
      s.inReset = false ∧ (s.capture.get 0).candidate = some c ∧ (s.capture.get 0).state = q ∧
        (s.capture.get 0).level = l ∧ c + us 4 ≤ max s.now (c + 4000)
    (at_ .marker true 399999 ∧ w (candidateIn .marker true 399999) 399999 < 400 ∧ at_ .marker true 1999999 ∧
      600 < w (candidateIn .marker true 1999999) 1999999 ∧
      1999999 < ((candidateIn .marker true 1999999).capture.get 0).edgeAt + us 2000) ∧
    (at_ .gapA false 39999 ∧ at_ .gapB false 39999 ∧ w (candidateIn .gapB false 39999) 39999 < 40) ∧
    (at_ .temp true 49999 ∧ at_ .power true 49999 ∧ w (candidateIn .power true 49999) 49999 < 50) ∧
    (at_ .tail false 999999 ∧ 999999 < ((candidateIn .tail false 999999).capture.get 0).edgeAt + us 1000) := by
  decide +kernel

/-- Each expiry at the instant it falls due, with no candidate open and with one that opened then, and held up by one that
opened a nanosecond before. -/
theorem witness_OverlongIntervalsAbandonTheFrame :
    let settled (s : State) (t : Nat) := match (s.capture.get 0).candidate with
      | some c => min (max s.now t) c
      | none => max s.now t
    let e (s : State) := (s.capture.get 0).edgeAt
    let in_ (c : CaptureState) (s : State) := s.inReset = false ∧ (s.capture.get 0).state = c
    let high (s : State) := (s.capture.get 0).level = true ∧ (s.capture.get 0).stuckCounted = false
    let reached (s : State) (n : Nat) := e s + us n ≤ settled s (us n)
    let waits (s : State) (n : Nat) := settled s (us n) < e s + us n ∧ ¬us n - 1 + us 4 ≤ max s.now (us n)
    (in_ .gapA (captureIn .gapA false) ∧ reached (captureIn .gapA false) 201 ∧
      reached (candidateIn .gapB false 201000) 201 ∧ waits (candidateIn .gapB false 200999) 201) ∧
    (in_ .temp (captureIn .temp true) ∧ reached (captureIn .temp true) 1074 ∧
      waits (candidateIn .power true 1073999) 1074) ∧
    (in_ .marker (captureIn .marker true) ∧ high (captureIn .marker true) ∧ reached (captureIn .marker true) 2000 ∧
      waits (candidateIn .marker true 1999999) 2000) ∧
    (in_ .seek (captureIn .seek true) ∧ high (captureIn .seek true) ∧ reached (captureIn .seek true) 2000) ∧
    (in_ .power (captureIn .power true) ∧ high (captureIn .power true) ∧ reached (captureIn .power true) 2000) ∧
    (in_ .tail (candidateIn .tail false 999999) ∧ settled (candidateIn .tail false 999999) (us 1000) <
      e (candidateIn .tail false 999999) + us 1000) := by decide +kernel

/-- A line at rest; a candidate a nanosecond short of 4 µs, in each state, with an interval that fell due after it opened;
a pulse of 3999 ns. -/
theorem witness_FilterHidesShortPulses :
    let d (s : State) := s.capture.get 0
    let open_ (s : State) (c t : Nat) := s.inReset = false ∧ (d s).candidate = some c ∧ ¬c + us 4 ≤ max s.now t ∧
      (d s).raw ≠ (d s).level
    ((captureIn .idle false).inReset = false ∧ (d (captureIn .idle false)).candidate = none ∧
      (d (captureIn .idle false)).raw = (d (captureIn .idle false)).level ∧ 0 < 3999 ∧ 3999 < 0 + us 4) ∧
    (open_ (candidateIn .gapA false 200000) 200000 203999 ∧ 203999 < (d (candidateIn .gapA false 200000)).edgeAt + us 1201) ∧
    open_ (candidateIn .tail false 999000) 999000 1002999 ∧ open_ (candidateIn .seek false 999000) 999000 1002999 ∧
    open_ (candidateIn .marker true 1999000) 1999000 2002999 := by decide +kernel

/-- A line at rest in IDLE has nothing due at any time. -/
theorem witness_nothingDue (t : Nat) : (decoderIn .idle false).nothingDue t := by
  refine ⟨?_, ?_, ?_, ?_, ?_⟩ <;> simp [decoderIn]

/-- Bay 0's tail is complete and its record stands as given; the sample is 92 qd and 240 hw. -/
def tailWith (r : SensorRec) (temp : Nat) : State :=
  (running.setSensor 0 r).setDecoder 0
    { decoderIn .tail false with temp := some temp, power := some 240 }

/-- Every sensor state, with a sample at the step limit of 12 qd from its reference, 80 qd, and one beyond it. -/
theorem witness_CompletedTailDeliversItsSample :
    let run (c : RunCount) : Run := ⟨.absent, c, ⟨80, 240⟩, 0⟩
    let ready (s : State) := s.inReset = false ∧ (s.capture.get 0).state = .tail ∧
      (s.capture.get 0).candidate = none ∧ (s.capture.get 0).edgeAt + us 1000 ≤ max s.now 1000000
    let x (s : State) := ((s.capture.get 0).temp.getD 0)
    let near (s : State) := 80 ≤ x s + s.params.step ∧ x s ≤ 80 + s.params.step
    let r (s : State) := s.sensors.get 0
    (ready (tailWith SensorRec.reset 92) ∧ (r (tailWith SensorRec.reset 92)).state = .absent) ∧
    (r (tailWith { validRecord with state := .lost } 92)).state = .lost ∧
    ((r (tailWith { SensorRec.reset with state := .acquiring (run .one) } 92)).state = .acquiring (run .one) ∧
      near (tailWith { SensorRec.reset with state := .acquiring (run .one) } 92) ∧
      ¬near (tailWith { SensorRec.reset with state := .acquiring (run .one) } 93)) ∧
    ((r (tailWith { SensorRec.reset with state := .acquiring (run .two) } 68)).state = .acquiring (run .two) ∧
      near (tailWith { SensorRec.reset with state := .acquiring (run .two) } 68)) ∧
    ((r (tailWith validRecord 92)).held = some ⟨80, 240⟩ ∧ (r (tailWith validRecord 92)).state = .valid ∧
      near (tailWith validRecord 92)) ∧
    ((r (tailWith { validRecord with state := .stale } 92)).state = .stale ∧
      near (tailWith { validRecord with state := .stale } 92)) ∧
    (¬near (tailWith { validRecord with implRun := 1 } 93) ∧ (r (tailWith { validRecord with implRun := 1 } 93)).implRun ≠ 2) ∧
    (¬near (tailWith { validRecord with implRun := 2 } 67) ∧ (r (tailWith { validRecord with implRun := 2 } 67)).implRun = 2) := by
  decide +kernel

/-- No profile; a vacant bay; the threshold 340 + 20 = 360 and the degree below it, in either mode of the line. -/
theorem witness_OverTemperatureTestHoldsTheLine :
    let d := running.setLine 0 (Line.defaultAt 0)
    State.reset.store.installed = none ∧ running.store.installed = some shelf ∧ (shelf.bays.get 2).occupied = false ∧
      (shelf.bays.get 0).occupied = true ∧ 359 < (shelf.bays.get 0).limit + shelf.shelf.margin ∧
      (shelf.bays.get 0).limit + shelf.shelf.margin ≤ 360 ∧ (running.lines.get 0).mode = .profile ∧
      (d.lines.get 0).mode = .default ∧ d.store.installed = some shelf := by decide +kernel

/-- The stale time of 200 ms and the lost time of 1000 ms, reached and a nanosecond short. -/
theorem witness_SensorTimersAgeTheRecord :
    let stale := running.setSensor 0 { validRecord with state := .stale }
    let q : Run := ⟨.lost, .one, ⟨80, 240⟩, 0⟩
    let runs := running.setSensor 0 { validRecord with state := .acquiring q }
    running.inReset = false ∧
    ((running.sensors.get 0).state = .valid ∧ (running.sensors.get 0).acceptedAt = some 0 ∧
      0 + ms running.params.stale ≤ max running.now 200000000 ∧
      max running.now 199999999 < 0 + ms running.params.stale) ∧
    ((stale.sensors.get 0).state = .stale ∧ (stale.sensors.get 0).acceptedAt = some 0 ∧ stale.inReset = false ∧
      0 + ms stale.params.lost ≤ max stale.now 1000000000 ∧ max stale.now 999999999 < 0 + ms stale.params.lost) ∧
    ((runs.sensors.get 0).state = .acquiring q ∧ runs.inReset = false ∧
      q.lastAt + ms runs.params.stale ≤ max runs.now 200000000 ∧
      max runs.now 199999999 < q.lastAt + ms runs.params.stale) := by decide +kernel

/-- A debounce begun at 1000 ns, a nanosecond before it ends. -/
theorem witness_RawDrtStartsAndDropsTheDebounce :
    let s : State := { running with cycle := ⟨some (ms 20), true, some 1000, false, false⟩ }
    s.inReset = false ∧ ∀ a, s.cycle.drtSince = some a → max s.now 200999 < a + us 200 :=
  ⟨rfl, by intro a h; obtain rfl : 1000 = a := by simpa using h
           decide +kernel⟩

/-- Both levels due at 200 µs, in either engine state. -/
theorem witness_DebouncedDrtSetsTheDerateFlag :
    let up (s : State) : State := { s with cycle := ⟨s.cycle.epochDue, true, some 0, false, false⟩ }
    let down (s : State) : State := { s with cycle := ⟨s.cycle.epochDue, false, some 0, true, true⟩ }
    let due (s : State) := s.inReset = false ∧ s.cycle.drtSince = some 0 ∧ 0 + us 200 ≤ max s.now 200000
    (due (up running) ∧ (up running).cycle.rawDrt = true ∧ (up running).cycle.debounced = false ∧
      (up running).alloc.engine = .running ∧ due (up State.reset) ∧ (up State.reset).alloc.engine = .stopped) ∧
    (due (down running) ∧ (down running).cycle.rawDrt = false ∧ (down running).cycle.debounced = true ∧
      (down running).alloc.engine = .running ∧ due (down State.reset) ∧ (down State.reset).alloc.engine = .stopped) := by
  decide +kernel

/-- A boundary with staged counts, the derate flag set on a low level, and bays 4, 1 and 0 whose burst ends, whose entry
expires and whose entry is admitted; pool 1 blocks. -/
theorem witness_BoundaryTransfersAndTakesTheSnapshot :
    let s : State := ({ bursting with
      cycle := ⟨some (ms 20), false, none, false, true⟩ }.setBurst { bursting.burst with
        queue := [⟨0, 0, 50, 3, 9, 1⟩, ⟨1, 1, 401, 3, 1, 2⟩] }).setLine 0
          { lineOf (shelf.bays.get 0) with staged := some ⟨24, false⟩, hold := .held }
    let r := s.burst.round 1100 700
    s.inReset = false ∧ s.alloc.engine = .running ∧ s.store.installed = some shelf ∧ s.store.waiting = none ∧
      s.alloc.flight = none ∧ s.cycle.epochDue = some (ms 20) ∧ ms 20 ≤ max s.now (ms 20) ∧
      (s.lines.get 2).mode = .default ∧ (s.lines.get 0).mode = .profile ∧ s.cycle.derate = true ∧
      s.cycle.debounced = false ∧
      (sum8 fun n => if (shelf.bays.get n).occupied then (s.alloc.pin.get n).getD (shelf.bays.get n).floor else 0) = 700 ∧
      r.outcome = .blockedByPool 1 ∧ selectorsOf shelf.bindings 2 r.ended = 1 ∧ selectorsOf shelf.bindings 1 r.expired = 1 ∧
      selectorsOf shelf.bindings 0 r.admitted = 1 ∧ selectorsOf shelf.bindings 3 r.admitted = 0 := by decide +kernel

/-- The shelf that replaces the worked one: bay 5 leaves it and bay 0 keeps its pattern. -/
def nextShelf : Profile :=
  { shelf with bays := (shelf.bays.set 5 BayBlock.empty).set 1 (bayOf 150 90 360 200 128 1 16 3 8 10 4) }

/-- An install at 1250 ms: records aged 199 ms, 200 ms and 1000 ms in VALID, 999 ms in STALE, and a run silent for 200 ms;
bays 0, 1 and 4 hold an entry or a burst, and the derate check clears the flag. -/
theorem witness_BoundaryInstallsThePendingProfile :
    let s : State := { bursting with
      store := { running.store with waiting := some nextShelf }
      cycle := ⟨some (ms 1250), false, none, false, true⟩
      sensors := ⟨{ validRecord with acceptedAt := some (ms 1051) }, { validRecord with acceptedAt := some (ms 1050) },
        { SensorRec.reset with state := .acquiring ⟨.absent, .one, ⟨80, 240⟩, ms 1050⟩ }, SensorRec.reset,
        { validRecord with state := .stale, acceptedAt := some (ms 251) },
        { validRecord with acceptedAt := some (ms 250) }, SensorRec.reset, SensorRec.reset⟩ }
    let now := max s.now (ms 1250)
    let q := nextShelf
    s.inReset = false ∧ s.alloc.engine = .running ∧ s.store.waiting = some q ∧ s.alloc.flight = none ∧
      s.cycle.epochDue = some (ms 1250) ∧ ms 1250 ≤ now ∧
      (q.bays.get 0).occupied = true ∧ (q.bays.get 5).occupied = false ∧ (s.lines.get 5).mode = .profile ∧
      (q.bays.get 2).occupied = false ∧ (s.lines.get 2).mode = .default ∧
      (now < ms 1051 + ms q.shelf.staleMs ∧ ms 1050 + ms q.shelf.staleMs ≤ now ∧ now < ms 1050 + ms q.shelf.lostMs ∧
        now < ms 251 + ms q.shelf.lostMs ∧ ms 250 + ms q.shelf.lostMs ≤ now) ∧
      selectorsOf s.bindings 1 [0, 1, 4] = 1 ∧ selectorsOf q.bindings 1 [1, 2, 5] = 1 ∧ selectorsOf q.bindings 0 [1, 2, 5] = 0 ∧
      after (.boundary (ms 1250)) s (fun s' =>
        (numbers8.filter fun n => (s'.sensors.get n).state.code != (s.sensors.get n).state.code) == [1, 2, 5] &&
          (s'.alert .shelf).pendingCauses.get 3 == some ⟨0x26, 0⟩ && (s'.alert .shelf).pendingCauses.get 1 == some ⟨0, 0⟩ &&
          (s'.alert (.bay 1)).pendingCauses.get 2 == some ⟨1, 0⟩ && (s'.alert (.bay 1)).pendingCauses.get 5 == some ⟨1, 2⟩) =
        true := by
  decide +kernel

/-- Allocation 42 in flight: short with the cap of 700, a deficit at bay 0 when it is hot, and a grant that moves by the
threshold. -/
theorem witness_CompletionPublishesTheAllocation :
    let hot : Snapshot := { snap42 with cap := 700, usable := snap42.usable.set 0 (some ⟨1000, 240⟩) }
    let old : EpochRecord := ⟨319 - 12, 368, 23, 0, snap42.flags 0⟩
    let s : State := running.setAlloc { running.alloc with
      flight := some hot, records := (Row8.const none).set 1 (some { old with grant := hot.grant 1 + 12 }) }
    s.inReset = false ∧ s.alloc.flight = some hot ∧ hot.deficit 0 = true ∧
      (snap42.short = false ∧ { snap42 with cap := 699 }.short = true) ∧ s.alloc.records.get 0 = none ∧
      (hot.profile.bays.get 0).occupied = true ∧ servingLink hot.profile.bindings 0 = some (0, 0) ∧
      s.alloc.records.get 1 = some { old with grant := hot.grant 1 + 12 } ∧
      servingLink hot.profile.bindings 1 = some (1, 0) ∧
      hot.profile.shelf.alertThreshold + hot.grant 1 ≤ hot.grant 1 + 12 := by decide +kernel

/-- A slot of 100 µs, ended and a nanosecond short. -/
theorem witness_SlotExpiryPlaysTheNextSlot :
    let l := running.lines.get 0
    running.inReset = false ∧ l.slotStart + us l.slotTimeUs ≤ max running.now 100000 ∧
      max running.now 99999 < l.slotStart + us l.slotTimeUs := by decide +kernel

/-- A frame's content before its CRC: GET SHELF, tag 5. -/
def getShelfContent : List Byte := [2, 0x20, 5]

/-- The byte 0x02 on a line that falls 200.999 µs after the last character: it rises for bit 1 and for the stop bit. -/
theorem witness_character_on_the_line :
    let rest := [202999, 203999, 209999]
    let level (offset : Nat) : Bool := decide ((rest.filter fun e => decide (e < 200999 + offset)).length % 2 = 1)
    (200999 :: rest).Pairwise (· < ·) ∧ (∀ e ∈ rest, e ≤ 210998) ∧ 210998 < 200999 + us 10 ∧
      (∀ i : Fin 8, (2 : Byte).getLsbD i.val = level (us (i.val + 1) + 500)) ∧ level (us 9 + 500) = true := by
  decide +kernel

/-- Every state of the receive decoder, the length byte at 2 and 72 and next to them, a full inbox, a good CRC and a bad one, on
a line that idles until 200.999 µs after the last character, or in HUNT at any time. -/
theorem witness_CharactersMoveTheReceiveDecoder :
    let r : Request := ⟨0x20, 5, []⟩
    let ready (s : State) : Bool := !s.inReset && (s.port .shelf).lowSince.isNone && (s.port .shelf).char.isNone &&
      !(s.port .shelf).inBreak && decide ((s.port .shelf).seenTo ≤ 200999) &&
      decide ((s.port .shelf).rx = .hunt ∨ 200999 < (s.port .shelf).lastCharEnd + us 201)
    let in_ (rx : RxState) := ready (withPort .shelf (portIn rx)) ∧ ((withPort .shelf (portIn rx)).port .shelf).rx = rx
    let crc := crc16 getShelfContent
    (in_ .hunt ∧ ((withPort .shelf { portIn .hunt with inbox := [r] }).port .shelf).inbox.length < 2 ∧
      2 ≤ ((withPort .shelf { portIn .hunt with inbox := [r, r] }).port .shelf).inbox.length) ∧
    (in_ .length ∧ 2 ≤ (2 : Byte).toNat ∧ (72 : Byte).toNat ≤ 72 ∧ (1 : Byte).toNat < 2 ∧ 72 < (73 : Byte).toNat) ∧
    (in_ (.body 3 [1]) ∧ [(1 : Byte)].length + 1 < 3 ∧ in_ (.body 3 [1, 2]) ∧ 3 ≤ [(1 : Byte), 2].length + 1) ∧
    in_ (.check [0x20, 5] none) ∧
    (in_ (.check [0x20, 5] (some (crc.extractLsb' 8 8))) ∧ crc = crc.extractLsb' 8 8 ++ crc.extractLsb' 0 8 ∧
      crc ≠ crc.extractLsb' 8 8 ++ (crc.extractLsb' 0 8 + 1)) ∧
    in_ .discard := by decide +kernel

/-- A framing error in a body, its line low from 200.999 µs on; a gap of 201 µs in it and in DISCARD, and one a nanosecond
short; the gap taken before a change at that instant. -/
theorem witness_FramingErrorsAndGapsEndFrames :
    let body := withPort (.bay 3) (portIn (.body 3 [1]))
    let discard := withPort (.bay 3) (portIn .discard)
    let p := body.port (.bay 3)
    (body.inReset = false ∧ (p.lowSince = none ∧ p.char = none ∧ p.inBreak = false ∧ p.seenTo ≤ 200999) ∧
      200999 < p.lastCharEnd + us 201 ∧ [200999].Pairwise (· < ·) ∧ 210998 < 200999 + us 10 ∧
      (([] : List Nat).filter fun e => decide (e < 200999 + us 9 + 500)).length % 2 = 0) ∧
    p.rx ≠ .hunt ∧ p.rx ≠ .discard ∧ p.lastCharEnd + us 201 ≤ max p.seenTo 201000 ∧
      discard.inReset = false ∧ (discard.port (.bay 3)).rx = .discard ∧ ¬p.lastCharEnd + us 201 ≤ max p.seenTo 200999 ∧
      after (.linkGap 201000 (.bay 3)) body (fun s => (s.port (.bay 3)).rx == .hunt) = true := by decide +kernel

/-- A link low since 1 µs with a request served and its reply in transmission, its gap due and not; the same in a break, and
just before it; SHELF RESET's reply in transmission, its cut-off in a character, at the end of one and before the first. -/
theorem witness_BreaksResetALink :
    let p : Port :=
      { portIn (.body 3 [1]) with
        lowSince := some 1000, inbox := [⟨0x14, 1, []⟩], reply := some ⟨0x14, 1, 0, [255, 0, 0]⟩ }
    let s := (bursting.setPort (.bay 2) p).setPort .shelf { p with lastCharEnd := 2000000 }
    let b := withPort (.bay 2) { p with inBreak := true, lastCharEnd := 2000000 }
    let low (s : State) (k : LinkId) := (s.port k).lowSince = some 1000 ∧ (s.port k).char = none
    (s.inReset = false ∧ low s (.bay 2) ∧ low s .shelf ∧ (s.port (.bay 2)).inBreak = false ∧
      (s.port .shelf).inBreak = false ∧ 1000 + ms 2 ≤ max (s.port (.bay 2)).seenTo 2001000 ∧
      (s.port (.bay 2)).lastCharEnd + us 201 ≤ 2001000 ∧ ¬(s.port .shelf).lastCharEnd + us 201 ≤ 2001000 ∧
      max (s.port .shelf).seenTo 2000999 < 1000 + ms 2) ∧
    (b.inReset = false ∧ low b (.bay 2) ∧ (b.port (.bay 2)).inBreak = true ∧
      ¬(b.port (.bay 2)).lastCharEnd + us 201 ≤ max (b.port (.bay 2)).seenTo 2001000) ∧
    (let s := breakInShelfReset
      let p := s.port .shelf
      s.inReset = false ∧ low s .shelf ∧ p.inBreak = false ∧ 1000 + ms 2 ≤ max p.seenTo 2001000 ∧ s.shelfResetArmed = true ∧
        sentBy (cutOff p.tx (1000 + ms 2)) = 2010500 ∧ sentBy (cutOff { p.tx with start := 1991000 } (1000 + ms 2)) = 2001000 ∧
        sentBy (cutOff { p.tx with start := 2001000 } (1000 + ms 2)) = 2001000 ∧
        max 2010500 (max p.seenTo 4010499) < 2010500 + ms 2) := by decide +kernel

/-- One request, two requests, and SHELF RESET's reply, each as its reply ends and a nanosecond before. -/
theorem witness_ReplyEndServesTheNextRequest :
    let rep : Reply := ⟨0x20, 1, 0, []⟩
    let r : Request := ⟨0x20, 1, []⟩
    let one := withPort .shelf { Port.reset with inbox := [r], reply := some rep, tx := ⟨100000, rep.frame⟩ }
    let two := withPort .shelf { Port.reset with inbox := [r, ⟨0x21, 2, []⟩], reply := some rep, tx := ⟨100000, rep.frame⟩ }
    one.inReset = false ∧ one.shelfResetArmed = false ∧ (one.port .shelf).reply = some rep ∧
      (one.port .shelf).inbox = [r] ∧ (two.port .shelf).reply = some rep ∧
      (two.port .shelf).inbox = r :: ⟨0x21, 2, []⟩ :: [] ∧ two.shelfResetArmed = false ∧
      sentBy (one.port .shelf).tx = 170000 ∧ sentBy (two.port .shelf).tx ≤ max two.now 170000 ∧
      max two.now 169999 < sentBy (two.port .shelf).tx ∧
      breakInShelfReset.shelfResetArmed = true ∧ (breakInShelfReset.port .shelf).reply.isSome = true ∧
      (State.reset.port .shelf).reply = none := by
  decide +kernel

/-- An unknown kind; a shelf kind on a bay link; a link without bays; counts of parameters next to the right ones; selectors
0, 1 and 2. -/
theorem witness_RequestHandlerChecksInOrder :
    (¬((0x17 : Byte) = 0x40 ∨ ∃ p ∈ kindTable, p.1 = (0x17 : Byte))) ∧
    (((0x20 : Byte), 0) ∈ kindTable ∧ 0x20 ≤ (0x20 : Byte).toNat) ∧
    (running.bindings.get 4 = [] ∧ ((0x10 : Byte), 1) ∈ kindTable ∧ ¬(0x20 ≤ (0x10 : Byte).toNat) ∧
      ((0x16 : Byte), 1) ∈ kindTable) ∧
    (running.bindings.get 0 ≠ [] ∧ [(0 : Byte), 0].length ≠ 1 ∧ ([] : List Byte).length ≠ 1) ∧
    (blockSize 11 ≠ some [(0 : Byte)].length ∧ blockSize 12 ≠ some 0) ∧
    ((running.bindings.get 0).length < 2 ∧ (1 : Byte) ≠ 0 ∧ (2 : Byte) ≠ 1) := by decide +kernel

/-- Selector 0 of BL0 and bay 7 of the shelf link reach a bay. -/
theorem witness_reaches : running.reaches (.bay 0) 0 0 ∧ running.reaches .shelf 7 7 :=
  ⟨.inl ⟨rfl, rfl⟩, rfl⟩

/-- When a frame with `n` parameter bytes that begins at instant 0 ends. -/
def frameEnd (n : Nat) : Nat := us (10 * (n + 6))

/-- A link that stands as reset left it idles for a frame that begins at instant 0. -/
theorem idle {s : State} {k : LinkId} {n : Nat} (hr : s.inReset = false) (hp : s.port k = Port.reset) :
    s.linkIdle k n (frameEnd n) := by
  refine ⟨hr, ?_, ?_, Nat.le_refl _, ?_⟩ <;> simp [hp, Port.reset, Port.lineIdle]

/-- Every link of the running part is idle. -/
theorem witness_linkIdle : running.linkIdle .shelf 1 (frameEnd 1) ∧ running.linkIdle (.bay 0) 70 (frameEnd 70) ∧
    running.linkIdle (.bay 7) 0 (frameEnd 0) := ⟨idle rfl rfl, idle rfl rfl, idle rfl rfl⟩

/-- PROFILE BLOCK with 69 bytes of body on links with 0, 1 and 2 requests, and a shelf kind on a bay link. -/
theorem witness_RequestCommandsReachTheHandler :
    let c : Instr := .profileBlock 800000 (.bay 6) 1 0 (List.replicate 69 0)
    let r : Request := ⟨0x40, 1, 0 :: List.replicate 69 0⟩
    let s (l : List Request) := running.setPort (.bay 6) { Port.reset with inbox := l }
    c.wellFormed = true ∧ c.request = some (800000, .bay 6, r) ∧ (s []).inReset = false ∧
      ((s []).port (.bay 6)).rx = .hunt ∧ us (10 * (r.params.length + 6)) ≤ 800000 ∧
      (((s []).port (.bay 6)).lowSince = none ∧ ((s []).port (.bay 6)).char = none ∧
        ((s []).port (.bay 6)).inBreak = false ∧ ((s []).port (.bay 6)).seenTo ≤ 800000 - us (10 * (r.params.length + 6))) ∧
      ((s []).port (.bay 6)).inbox = [] ∧ ((s [r]).port (.bay 6)).inbox = [r] ∧
      2 ≤ ((s [r, r]).port (.bay 6)).inbox.length ∧ 0x20 ≤ r.kind.toNat := by decide +kernel

/-- Characters back to back, and characters 200.999 µs apart, of a request with 70 parameter bytes. -/
theorem witness_RequestFramesArriveCharacterByCharacter :
    (∀ i, us 10 * i + us 10 ≤ us 10 * (i + 1) ∧ us 10 * (i + 1) < us 10 * i + us 211) ∧
    (∀ i, 210999 * i + us 10 ≤ 210999 * (i + 1) ∧ 210999 * (i + 1) < 210999 * i + us 211) ∧
    (List.replicate 70 (0 : Byte)).length ≤ 70 ∧ running.inReset = false ∧ (running.port .shelf).rx = .hunt ∧
    (running.port .shelf).lineIdle 0 ∧ (running.port .shelf).inbox.length < 2 := by
  have h1 : us 10 = 10000 := rfl
  have h2 : us 211 = 211000 := rfl
  refine ⟨fun i => ?_, fun i => ?_, by decide, rfl, rfl, ⟨rfl, rfl, rfl, Nat.le_refl _⟩, by decide⟩ <;>
    simp only [h1, h2] <;> omega

/-- A bay with everything present, one with nothing, and bay 8. -/
theorem witness_GetBayReportsTheBay :
    let s := (bursting.setAlloc { running.alloc with
      demand := (Row8.const none).set 0 (some 400), records := snap42.records }).setBurst
        { bursting.burst with active := (Row8.const none).set 0 (some ⟨0, 60, 1, 7⟩) }
    s.linkIdle .shelf 1 (frameEnd 1) ∧ s.reaches .shelf 0 0 ∧ s.reaches .shelf 2 2 ∧ 7 < (8 : Byte).toNat ∧ (s.sensors.get 0).held = some ⟨80, 240⟩ ∧ (s.sensors.get 0).acceptedAt = some 0 ∧
      s.alloc.demand.get 0 = some 400 ∧ (s.alloc.records.get 0).isSome = true ∧
      s.burst.queue[0]? = some ⟨0, 0, 50, 3, 9, 1⟩ ∧ s.burst.active.get 0 = some ⟨0, 60, 1, 7⟩ ∧
      (s.sensors.get 2).held = none ∧ (s.sensors.get 2).acceptedAt = none ∧ s.alloc.demand.get 2 = none ∧
      s.alloc.records.get 2 = none ∧ s.burst.queue.any (fun e => e.bay == 2) = false ∧
      s.burst.active.get 2 = none := by
  refine ⟨idle rfl rfl, rfl, rfl, ?_⟩
  decide +kernel

/-- A demand at the peak of 400, one above it, a vacant bay, and bay 8. -/
theorem witness_SetDemandStoresTheDemand :
    running.linkIdle .shelf 3 (frameEnd 3) ∧ running.reaches .shelf 0 0 ∧ running.reaches .shelf 7 7 ∧ 7 < (8 : Byte).toNat ∧
      (running.bayBlock 0).occupied = true ∧ (400 : BitVec 16).toNat ≤ (running.bayBlock 0).peak ∧
      (running.bayBlock 0).peak < (401 : BitVec 16).toNat ∧ (running.bayBlock 7).occupied = false := by
  refine ⟨idle rfl rfl, rfl, rfl, ?_⟩
  decide +kernel

/-- Bay 8 from the shelf link; STOPPED; the largest amount pool 0 reserves and one more; a pin; an entry. -/
theorem witness_AskBurstChecksThenJoinsTheTail :
    let bad (s : State) (n : Bay) (a d : Nat) := (s.bayBlock n).occupied = false ∨ a = 0 ∨ 511 < a ∨ d = 0 ∨ 4095 < d ∨
      (s.burst.pools.get (s.bayBlock n).pool).reserve < a
    running.linkIdle .shelf 7 (frameEnd 7) ∧ State.reset.linkIdle .shelf 7 (frameEnd 7) ∧ bursting.linkIdle .shelf 7 (frameEnd 7) ∧ running.reaches .shelf 0 0 ∧
      State.reset.reaches .shelf 0 0 ∧ running.reaches .shelf 2 2 ∧ bursting.reaches .shelf 0 0 ∧ 7 < (8 : Byte).toNat ∧ State.reset.alloc.engine = .stopped ∧ running.alloc.engine = .running ∧
      bad running 0 301 1 ∧ bad running 0 300 4096 ∧ bad running 2 300 4095 ∧ ¬bad running 0 300 4095 ∧
      ¬bad running 0 1 1 ∧ running.alloc.pin.get 0 = none ∧
      (bursting.burst.queue.any (fun e => e.bay == 0) = true ∧ ¬bad bursting 0 300 1) ∧
      running.burst.queue.any (fun e => e.bay == 0) = false := by
  refine ⟨idle rfl rfl, idle rfl rfl, idle rfl rfl, rfl, rfl, rfl, rfl, ?_⟩
  decide +kernel

/-- A vacant bay; bay 8; choice 2; an entry, an active burst, and neither. -/
theorem witness_DropBurstRemovesWhatIsChosen :
    bursting.linkIdle .shelf 2 (frameEnd 2) ∧ bursting.reaches .shelf 7 7 ∧ bursting.reaches .shelf 0 0 ∧ bursting.reaches .shelf 4 4 ∧
      7 < (8 : Byte).toNat ∧ (bursting.bayBlock 7).occupied = false ∧ 1 < (2 : Byte).toNat ∧ (bursting.bayBlock 0).occupied = true ∧
      bursting.burst.queue.any (fun e => e.bay == 0) = true ∧ bursting.burst.active.get 0 = none ∧
      (bursting.bayBlock 4).occupied = true ∧ bursting.burst.active.get 4 = some ⟨0, 60, 1, 7⟩ ∧
      bursting.burst.queue.any (fun e => e.bay == 4) = false := by
  refine ⟨idle rfl rfl, rfl, rfl, rfl, ?_⟩
  decide +kernel

/-- Causes 2 and 5 pending, group {5}: cause 5 is selected; on the shelf link cause 0 comes before it; nothing pending. -/
theorem witness_GetAlertReadsTheSelectedCause :
    let a : AlertState := ⟨((Row8.const none).set 2 (some ⟨1, 0⟩)).set 5 (some ⟨1, 1⟩), 0, 0x20⟩
    let b : AlertState := { a with pendingCauses := a.pendingCauses.set 0 (some ⟨1, 0⟩) }
    (running.setAlert (.bay 0) a).linkIdle (.bay 0) 0 (frameEnd 0) ∧ (running.setAlert .shelf b).linkIdle .shelf 0 (frameEnd 0) ∧
    running.linkIdle (.bay 0) 0 (frameEnd 0) ∧ (selects (.bay 0) a 5 ∧ a.pendingCauses.get 5 = some ⟨1, 1⟩) ∧
    (selects .shelf b 0 ∧ b.pendingCauses.get 0 = some ⟨1, 0⟩) ∧
    (selects (.bay 0) { a with groups := 0 } 2 ∧ a.pendingCauses.get 2 = some ⟨1, 0⟩) ∧
    ∀ c, (running.alert (.bay 0)).pendingCauses.get c = none := by
  refine ⟨idle rfl rfl, idle rfl rfl, idle rfl rfl, ?_⟩
  unfold selects
  decide +kernel

/-- RST asserted and released. -/
theorem witness_AlertMaskActsOnAltAlone :
    running.inReset = false ∧ ({ running with inReset := true } : State).inReset = true ∧ running.linkIdle .shelf 1 (frameEnd 1) ∧
      running.linkIdle (.bay 0) 1 (frameEnd 1) := ⟨rfl, rfl, idle rfl rfl, idle rfl rfl⟩

/-- Links 7, 8 and 9; the command answers a next state. -/
theorem witness_AlertGroupsAreReplaced :
    running.linkIdle .shelf 2 (frameEnd 2) ∧ running.linkIdle (.bay 7) 2 (frameEnd 2) ∧ 8 < (9 : Byte).toNat ∧ (7 : Byte).toNat = (7 : Fin 8).val ∧ (8 : Byte).toNat = 8 ∧
      after (.setAlertGroups 80000 .shelf 1 8 0) running (fun s => (s.alert .shelf).groups == 1) = true := by
  refine ⟨idle rfl rfl, idle rfl rfl, ?_⟩
  decide +kernel

/-- The summary of allocation 42. -/
def ringOf42 : State := running.setAlloc { running.alloc with ring := [snap42.summary], epoch := 42 }

/-- A link without bays, counts 0, 1, 8 and 9, an empty ring and one summary, seen by links with one bay and with two. -/
theorem witness_GetHistoryReadsTheRing :
    running.linkIdle (.bay 4) 1 (frameEnd 1) ∧ running.linkIdle (.bay 0) 1 (frameEnd 1) ∧ ringOf42.linkIdle (.bay 0) 1 (frameEnd 1) ∧
      running.bindings.get 4 = [] ∧ running.bindings.get 0 = 0 :: [] ∧
      ¬(1 ≤ (0 : Byte).toNat) ∧ 1 ≤ (1 : Byte).toNat ∧ (8 : Byte).toNat ≤ 8 ∧ ¬((9 : Byte).toNat ≤ 8) ∧
      running.alloc.ring = [] ∧ ringOf42.alloc.ring ≠ [] ∧ ringOf42.alloc.ring.reverse[0]? = some snap42.summary ∧
      (ringOf42.setStore { running.store with
        installed := some { shelf with bindings := (Row8.const []).set 0 [0, 4] } }).bindings.get 0 = 0 :: [4] := by
  refine ⟨idle rfl rfl, idle rfl rfl, idle rfl rfl, ?_⟩
  decide +kernel

/-- The presence of the running part, before an install and after it. -/
theorem witness_GetShelfReportsAndClearsTheStickyShortFlag :
    running.linkIdle .shelf 0 (frameEnd 0) ∧ State.reset.linkIdle .shelf 0 (frameEnd 0) ∧ running.linkIdle (.bay 0) 0 (frameEnd 0) ∧
      (∀ n : Bay, (0x33 : Flags8).getLsbD n.val = true ↔ (running.sensors.get n).state = .valid) ∧
      State.reset.store.installed = none ∧ running.store.installed = some shelf := by
  refine ⟨idle rfl rfl, idle rfl rfl, idle rfl rfl, ?_⟩
  decide +kernel

/-- Both engine states. -/
theorem witness_GetPoolsReportsAndClearsTheExhaustedFlags :
    State.reset.linkIdle .shelf 0 (frameEnd 0) ∧ State.reset.alloc.engine = .stopped ∧ running.linkIdle .shelf 0 (frameEnd 0) ∧
      running.alloc.engine = .running := ⟨idle rfl rfl, rfl, idle rfl rfl, rfl⟩

/-- Bays 7 and 8, choices 0, 1 and 2. -/
theorem witness_CaptureCountersAndSensorAreReadAndCleared :
    7 < (8 : Byte).toNat ∧ 1 < (2 : Byte).toNat ∧ (7 : Byte).toNat = (7 : Bay).val ∧ running.linkIdle .shelf 2 (frameEnd 2) :=
  ⟨by decide, by decide, by decide, idle rfl rfl⟩

/-- Links 7, 8 and 9, choices 0, 1 and 2. -/
theorem witness_LinkCountersAreReadAndCleared :
    8 < (9 : Byte).toNat ∧ 1 < (2 : Byte).toNat ∧ (7 : Byte).toNat = (7 : Fin 8).val ∧ (8 : Byte).toNat = 8 ∧
      running.linkIdle .shelf 2 (frameEnd 2) := ⟨by decide, by decide, by decide, by decide, idle rfl rfl⟩

/-- Bay 8, a vacant bay, bays with an entry, with an active burst and with neither, pinned and not. -/
theorem witness_PinBayPinsAndWithdraws :
    let s := bursting.setAlloc { bursting.alloc with pin := (Row8.const none).set 5 (some 380) }
    s.linkIdle .shelf 3 (frameEnd 3) ∧ s.linkIdle .shelf 1 (frameEnd 1) ∧ 7 < (8 : Byte).toNat ∧ (s.bayBlock 7).occupied = false ∧ (s.bayBlock 5).occupied = true ∧
      s.burst.queue.any (fun e => e.bay == 5) = false ∧ s.burst.active.get 5 = none ∧ s.alloc.pin.get 5 ≠ none ∧
      (s.bayBlock 0).occupied = true ∧ s.burst.queue.any (fun e => e.bay == 0) = true ∧ s.alloc.pin.get 0 = none ∧
      (s.bayBlock 4).occupied = true ∧ s.burst.active.get 4 ≠ none := by
  refine ⟨idle rfl rfl, idle rfl rfl, ?_⟩
  decide +kernel

/-- Caps at the floors' sum of 700 and at 8191, and each next to them. -/
theorem witness_SetCapReplacesTheCaps :
    let good (d n : BitVec 16) := 700 ≤ d.toNat ∧ d.toNat ≤ n.toNat ∧ n.toNat ≤ 8191
    running.linkIdle .shelf 4 (frameEnd 4) ∧ State.reset.linkIdle .shelf 4 (frameEnd 4) ∧ running.alloc.engine = .running ∧
      State.reset.alloc.engine = .stopped ∧ shelf.floors = 700 ∧ good 700 700 ∧ good 700 8191 ∧ ¬good 699 8191 ∧ ¬good 701 700 ∧ ¬good 700 8192 ∧
      running.store.installed = some shelf := by
  refine ⟨idle rfl rfl, idle rfl rfl, rfl, rfl, ?_⟩
  decide +kernel

/-- Links 7 and 8. -/
theorem witness_ReleaseBayLinkResetsTheNamedLink :
    running.linkIdle .shelf 1 (frameEnd 1) ∧ 7 < (8 : Byte).toNat ∧ (7 : Byte).toNat = (7 : Fin 8).val :=
  ⟨idle rfl rfl, by decide, by decide⟩

/-- The shelf link and a bay link idle, and the reset armed by the service. -/
theorem witness_ShelfResetIsArmedByItsService :
    running.linkIdle .shelf 0 (frameEnd 0) ∧ running.linkIdle (.bay 3) 0 (frameEnd 0) ∧
      after (.shelfReset 80000 .shelf 1) running (fun s => s.shelfResetArmed) = true :=
  ⟨idle rfl rfl, idle rfl rfl, by decide +kernel⟩

/-- The five blocks of the worked shelf are in their ranges, with block 10 at its full 16 entries, and block 12 is none. A
body whose airflow count is 4 may hold anything after four bays, and one whose count is 9 is no block. -/
theorem witness_ProfileBlocksAreStagedWhole :
    (Block.shelf shelf.shelf).inRanges ∧ (Block.bindings shelf.bindings).inRanges ∧
      (Block.bay 7 (shelf.bays.get 0)).inRanges ∧ (Block.coupling (List.replicate 16 ⟨4, 0, 1023⟩)).inRanges ∧
      (Block.pools shelf.pools).inRanges ∧ ((Block.coupling shelf.couplings).bytes.length ≤ 69 ∧
      (11 : Byte).toNat = (Block.pools shelf.pools).number ∧ 11 < (12 : Byte).toNat ∧ blockSize 11 ≠ some 15) ∧
      (let a := serveProfileBlock running 0 ((Block.shelf shelf.shelf).bytes.set 23 99)
       a.state.store.staging.shelf = shelf.shelf ∧ a.status = .ok ∧ a.data = [0]) ∧
      (serveProfileBlock running 0 ((Block.shelf shelf.shelf).bytes.set 18 9)).status = .param ∧
      running.linkIdle .shelf (69 + 1) (frameEnd 70) := by
  refine ⟨?_, ?_, ?_, ?_, ?_, ?_, ?_, ?_, idle rfl rfl⟩ <;> (try unfold Block.inRanges) <;> decide +kernel

/-- Bytes 23 to 26 of block 0 are spare when its count is 4, so a body that differs there still spells it. -/
theorem witness_readFrom : (Block.shelf shelf.shelf).readFrom ((Block.shelf shelf.shelf).bytes.set 23 99) := by
  refine ⟨by decide +kernel, fun i h => ?_⟩
  rw [List.getElem?_set_ne]
  rintro rfl
  exact h (show 19 + shelf.shelf.airflow.length ≤ 23 by decide)

/-- Blocks 0, 1, 9, 10, 11 and 12, with a profile installed and with none. -/
theorem witness_ProfileIsReadAndDiscarded :
    running.linkIdle .shelf 1 (frameEnd 1) ∧ running.store.installed = some shelf ∧ State.reset.linkIdle .shelf 1 (frameEnd 1) ∧
      State.reset.store.installed = none ∧ 11 < (12 : Byte).toNat ∧ (9 : Byte).toNat = (7 : Bay).val + 2 ∧
      (11 : Byte).toNat ≤ 11 ∧ running.linkIdle .shelf 0 (frameEnd 0) ∧ State.reset.linkIdle .shelf 0 (frameEnd 0) :=
  ⟨idle rfl rfl, rfl, idle rfl rfl, rfl, by decide, by decide, by decide, idle rfl rfl,
    idle rfl rfl⟩

/-- The worked shelf in the staging profile of a running part passes every check of R180. -/
theorem running_passes : ∀ code index, ¬running.store.failsAt code index := by
  intro code index h
  match code, h with
  | 0, h => exact h
  | 1, h => exact absurd h.1 (by decide)
  | 2, h => exact h.2 rfl
  | 3, ⟨n, hi, h⟩ => clear hi; revert h; revert n; decide +kernel
  | 4, ⟨n, hi, h⟩ => clear hi; revert h; revert n; decide +kernel
  | 5, h => exact absurd h.2 (by decide)
  | 6, ⟨n, hi, h⟩ => clear hi; revert h; revert n; decide +kernel
  | 7, h =>
    obtain ⟨e, he, h⟩ := h
    match index, he with
    | 0, he =>
      obtain rfl : (⟨4, 0, 32⟩ : Coupling) = e := by simpa [running, shelf] using he
      simp only [Nat.not_lt_zero, false_and, exists_false, or_false] at h
      revert h; decide +kernel
    | 1, he =>
      obtain rfl : (⟨5, 1, 40⟩ : Coupling) = e := by simpa [running, shelf] using he
      rcases h with h | h | h | ⟨j, f, hj, hf, h⟩
      · revert h; decide +kernel
      · revert h; decide +kernel
      · revert h; decide +kernel
      · obtain rfl : j = 0 := by omega
        obtain rfl : (⟨4, 0, 32⟩ : Coupling) = f := by simpa [running, shelf] using hf
        revert h; decide
    | i + 2, he => simp [running, shelf] at he
  | 8, ⟨n, hi, h⟩ => clear hi; revert h; revert n; decide +kernel
  | 9, h => exact absurd h.2 (by decide +kernel)
  | 10, ⟨n, hi, h⟩ => clear hi; revert h; revert n; decide +kernel
  | n + 11, h => exact h

/-- Nothing pending and no failure; a pending profile; a first failure, of check 1 at block 0. -/
theorem witness_CommitChecksThenWaitsForTheBoundary :
    running.store.waiting = none ∧ running.alloc.engine = .running ∧ running.linkIdle .shelf 0 (frameEnd 0) ∧
      (∀ code index, ¬running.store.failsAt code index) ∧ State.reset.store.failsAt 1 0 ∧
      ∀ code index, State.reset.store.failsAt code index → 1 < code ∨ 1 = code ∧ 0 ≤ index :=
  ⟨rfl, rfl, idle rfl rfl, running_passes, ⟨rfl, by decide, rfl⟩, fun code index h => by
    match code, h with
    | 0, h => exact h.elim
    | 1, _ => exact .inr ⟨rfl, Nat.zero_le _⟩
    | n + 2, _ => exact .inl (by omega)⟩

/-- The part from reset with the worked shelf staged. -/
def staged : State := State.reset.setStore ⟨shelf, 0xFFF, none, none⟩

/-- It is STOPPED, sound, and its staging profile passes; bay 0 is occupied, bay 2 vacant, with its line in either mode. -/
theorem witness_FirstCommitStartsTheEngine :
    staged.linkIdle .shelf 0 (frameEnd 0) ∧ staged.engineSound ∧ staged.alloc.engine = .stopped ∧
      (∀ code index, ¬staged.store.failsAt code index) ∧ (shelf.bays.get 0).occupied = true ∧
      (shelf.bays.get 2).occupied = false ∧ (staged.lines.get 2).mode = .default ∧
      ((staged.setLine 2 (lineOf (shelf.bays.get 0))).lines.get 2).mode = .profile := by
  refine ⟨idle rfl rfl, by unfold State.engineSound; decide +kernel, rfl, fun code index h => ?_, rfl, rfl, rfl, rfl⟩
  rcases Nat.lt_or_ge code 2 with hc | hc
  · interval_cases code
    · exact h
    · obtain ⟨_, hi, h⟩ := h
      revert h; interval_cases index <;> decide
  · refine running_passes code index ?_
    match code, hc, h with
    | 2, _, h | 3, _, h | 4, _, h | 5, _, h | 6, _, h | 7, _, h | 8, _, h | 9, _, h | 10, _, h => exact h
    | n + 11, _, h => exact h

/-- Allocation 42 has contention, with a cap of 699 it is short, and with a cap of 2000 nothing contends; bay 0 is occupied
and bay 2 vacant. -/
theorem witness_GrantsStayWithinCeilingsAndCap :
    (snap42.profile.bays.get 0).occupied = true ∧ (snap42.profile.bays.get 2).occupied = false ∧
      snap42.commitments ≤ snap42.cap ∧ snap42.residue < snap42.pooledSum ∧
      { snap42 with cap := 2000 }.commitments ≤ 2000 ∧
      { snap42 with cap := 2000 }.pooledSum ≤ { snap42 with cap := 2000 }.residue ∧
      { snap42 with cap := 699 }.short = true := by decide +kernel

/-- The worked shelf is ordered; bay 2 is not in its order; bay 0 with a sample, without one, and with a self-gain of 0. -/
theorem witness_CeilingsFollowTheThermalModel :
    snap42.profile.ordered ∧ (2 : Bay) ∉ shelf.shelf.airflow ∧ (shelf.bays.get 0).fallback ≤ (shelf.bays.get 0).peak ∧
      (0 : Bay) ∈ shelf.shelf.airflow ∧ snap42.usable.get 0 = some ⟨300, 240⟩ ∧ (shelf.bays.get 0).selfGain ≠ 0 ∧
      { snap42 with usable := snap42.usable.set 0 none }.usable.get 0 = none ∧
      (({ shelf with bays := shelf.bays.modify 0 fun b => { b with selfGain := 0 } } : Profile).bays.get 0).selfGain = 0 := by
  refine ⟨⟨by decide, by decide +kernel⟩, ?_⟩
  decide +kernel

/-- The order 1, 0, 5, 4 respects the couplings too. -/
theorem witness_CeilingsIgnoreTheChoiceOfOrder :
    let q : Profile := { shelf with shelf := { shelf.shelf with airflow := [1, 0, 5, 4] } }
    shelf.ordered ∧ q.ordered ∧ ([1, 0, 5, 4] : List Bay).Perm shelf.shelf.airflow :=
  ⟨⟨by decide, by decide +kernel⟩, ⟨by decide, by decide +kernel⟩, by decide⟩

/-- Bay 0 of the worked shelf at its idle power of 80, at 81, 399 and its peak of 400. -/
theorem witness_CountsLieBetweenMinimumAndLength :
    let b := shelf.bays.get 0
    b.idle < b.peak ∧ b.countMin ≤ b.len ∧ 80 ≤ b.idle ∧ b.peak ≤ 400 ∧ b.idle < 81 ∧ 399 < b.peak ∧
      b.countMin < countOf b 399 := by decide +kernel

/-- Counts 1 and 64 of 64, the first slot and the last. -/
theorem witness_PatternsAreEven : 1 ≤ 1 ∧ 1 ≤ 64 ∧ 64 ≤ 64 ∧ 0 < 64 ∧ 63 < 64 := by decide

/-- A round ends in each of the four ways; with K one above S, and at S, under heads that fail their pool and their bay test. -/
theorem witness_AdmissionRoundAgesAdmitsAndExpires :
    let b := bursting.burst
    let pool : BurstUnit := { b with queue := b.queue.drop 1 }
    let bay : BurstUnit := { b with active := (Row8.const none).set 0 (some ⟨0, 60, 2, 7⟩) }
    (b.round 1100 700).outcome = .blockedByPool 1 ∧ (b.round 749 700).outcome = .blockedByShelf ∧
      (b.round 750 700).outcome = .blockedByPool 1 ∧ ({ b with queue := b.queue.take 1 }.round 750 700).outcome = .emptied ∧
      (bay.round 1100 700).outcome = .blockedByBay ∧
      (pool.round 699 700).outcome = .blockedByShelf ∧ (pool.round 700 700).outcome = .blockedByPool 1 ∧
      (bay.round 759 700).outcome = .blockedByShelf ∧ (bay.round 760 700).outcome = .blockedByBay ∧
      (b.round 1100 700).admitted = [0] ∧ (b.round 1100 700).ended = [4] ∧ (b.round 1100 700).expired = [1] := by
  decide +kernel

/-- A demand set while allocation 42 is in flight; on the shelf link a trace whose first change is 1.999999 ms old
at its end, and a low inside a character that is. -/
theorem witness_OperationInFlightKeepsItsSnapshot :
    let s := running.setAlloc { running.alloc with flight := some snap42 }
    s.inReset = false ∧ s.shelfResetArmed = false ∧ s.alloc.engine = .running ∧
      after (.setDemand 120000 (.bay 1) 1 0 280) s
        (fun s' => s'.alloc.demand.get 1 == some 280 && s'.alloc.flight == some snap42) = true ∧
      s.noBreakAfterRequest (.characterTaken 2000000 .shelf [1, 2000000]) ∧
      (s.setPort .shelf { Port.reset with lowSince := some 1, char := some ⟨1, []⟩ }).noBreakAfterRequest (.linkGap 2000000 .shelf) := by
  intro s
  refine ⟨rfl, rfl, rfl, by decide +kernel, ⟨fun x a hx => (by cases hx), fun t l h e he => ?_⟩, fun x a _ ha => ?_, fun t l h => (by cases h)⟩
  · cases h; revert e he; decide
  · cases ha; decide

/-- A character, a request, a break, and the end of a reply behind which DROP BURST waits, on BL2. -/
theorem witness_BayLinksReachOnlyTheirOwnBays :
    (Instr.dropBurst 100000 (.bay 2) 1 0 1).request = some (100000, .bay 2, ⟨0x13, 1, [0, 1]⟩) ∧
      after (.dropBurst 100000 (.bay 2) 1 0 1) bursting
        (fun s' => (s'.burst.active.get 4).isNone && (s'.burst.pools.get 0).remaining == 300) = true ∧
      after (.characterTaken 10000 (.bay 2) [0, 1000, 3000, 7000]) bursting (fun s' => (s'.port (.bay 2)).rx == .length) = true ∧
      (Instr.lineBreak 10000 (.bay 2)).onLink = some (.bay 2) ∧ (Instr.replyEnd 10000 (.bay 2)).onLink = some (.bay 2) ∧
      (Instr.dropBurst 100000 (.bay 2) 1 0 1).onLink = some (.bay 2) ∧
      after (.replyEnd 100000 (.bay 2))
        (bursting.setPort (.bay 2)
          { Port.reset with
            inbox := [⟨0x14, 1, []⟩, ⟨0x13, 2, [0, 1]⟩], reply := some ⟨0x14, 1, 0, [255, 0, 0]⟩
            tx := ⟨0, (Reply.mk 0x14 1 0 [255, 0, 0]).frame⟩ })
        (fun s' => (s'.burst.active.get 4).isNone && (s'.burst.pools.get 0).remaining == 300) = true := by
  decide +kernel

/-- The running part with bursts, as it stands when its entry for bay 1 asks 400 hw, all that pool 1 reserves. -/
def sound : State :=
  { bursting with burst := { bursting.burst with queue := [⟨0, 0, 50, 3, 9, 1⟩, ⟨1, 1, 400, 3, 1, 2⟩] } }

/-- A sound part takes a request on BL0, and on SL a character that has begun ends; so is one that sends SHELF RESET's reply. -/
theorem witness_StepsKeepTheLinksSound :
    ({ sound with pending := [.getAlert 60000 (.bay 0) 1] } : State).linksSound ∧
      afterStep { sound with pending := [.getAlert 60000 (.bay 0) 1] }
        (fun s => (s.port (.bay 0)).inbox.length == 1) = true ∧
      afterStep { sound with pending := [.characterTaken 60000 .shelf [51000]] }
        (fun s => (s.port .shelf).char == some ⟨51000, []⟩) = true ∧ breakInShelfReset.linksSound := by
  refine ⟨⟨fun h => absurd h (by decide +kernel), fun k => ?_⟩, by decide +kernel, by decide +kernel, fun _ => rfl, fun k => ?_⟩
  · have h : ∀ k : LinkId, ({ sound with pending := [.getAlert 60000 (.bay 0) 1] } : State).port k = Port.reset := by
      intro k
      cases k with
      | shelf => rfl
      | bay i => revert i; decide +kernel
    rw [h k]
    simp [Port.reset, Port.lineSound, RxState.inFrame]
  · cases k with
    | shelf =>
      refine ⟨fun x hx => ?_, by decide +kernel, by decide +kernel, by decide +kernel, by decide +kernel, ?_, by decide +kernel⟩
      · cases hx; rfl
      · refine ⟨fun a ha => ?_, by decide +kernel, fun c hc => (by cases hc), by decide +kernel⟩
        cases ha; decide +kernel
    | bay i =>
      have h : ∀ i, breakInShelfReset.port (.bay i) = Port.reset := by decide +kernel
      rw [h i]
      simp [Port.reset, Port.lineSound, RxState.inFrame]

/-- Its alert states. -/
theorem witness_StepsKeepTheAlertsSound :
    ({ sound with pending := [.characterTaken 60000 (.bay 0) [50000]] } : State).alertsSound ∧
      afterStep { sound with pending := [.characterTaken 60000 (.bay 0) [50000]] }
        (fun s => (s.alert .shelf).pendingCauses.get 5 == some ⟨1, 0⟩) = true := by
  refine ⟨⟨fun i c r h => ?_, fun c r h => ?_, by decide +kernel, by decide +kernel⟩, by decide +kernel⟩
  · exfalso
    have : ∀ i c, (sound.alert (.bay i)).pendingCauses.get c = none := by decide +kernel
    exact absurd ((this i c).symm.trans h) (by simp)
  · exfalso
    have : ∀ c, (sound.alert .shelf).pendingCauses.get c = none := by decide +kernel
    exact absurd ((this c).symm.trans h) (by simp)

/-- Its pools before a boundary. -/
theorem witness_StepsKeepThePoolsSound :
    ({ sound with pending := [.boundary (ms 20)] } : State).poolsSound ∧
      afterStep { sound with pending := [.boundary (ms 20)] }
        (fun s => (s.burst.pools.get 0).remaining == 250 && (s.burst.active.get 0).isSome) = true := by
  refine ⟨fun p => ⟨by revert p; decide +kernel, fun prof h => ?_⟩, by decide +kernel⟩
  obtain rfl : shelf = prof := by injection h
  revert p; decide +kernel

/-- Its queue and table before a boundary. -/
theorem witness_StepsKeepTheBurstsSound :
    ({ sound with pending := [.boundary (ms 20)] } : State).burstsSound ∧
      afterStep { sound with pending := [.boundary (ms 20)] } (fun s => s.burst.queue == []) = true := by
  refine ⟨⟨by decide +kernel, by decide +kernel, fun n r h => ?_, fun n v h => ?_, fun n v h => ?_⟩, by decide +kernel⟩
  · have : ∀ n, sound.burst.active.get n = if n = 4 then some ⟨0, 60, 1, 7⟩ else none := by decide +kernel
    rw [show ({ sound with pending := [.boundary (ms 20)] } : State).burst = sound.burst from rfl, this n] at h
    split at h
    · subst n; injection h with h; subst r; decide +kernel
    · simp at h
  · have hn : ∀ n, sound.alloc.demand.get n = none := by decide +kernel
    exact (Option.some_ne_none v (h.symm.trans (hn n))).elim
  · have hn : ∀ n, sound.alloc.pin.get n = none := by decide +kernel
    exact (Option.some_ne_none v (h.symm.trans (hn n))).elim

/-- Its lines before the end of a slot. -/
theorem witness_StepsKeepTheLinesSound :
    ({ sound with pending := [.slotExpiry (us 100) 0] } : State).linesSound ∧
      afterStep { sound with pending := [.slotExpiry (us 100) 0] } (fun s => (s.lines.get 0).slotIndex == 1) = true := by
  refine ⟨⟨fun p h => ?_, fun p h => ?_, fun x h => ?_, fun n => ?_⟩, by decide +kernel⟩
  · obtain rfl : shelf = p := by injection h
    unfold Profile.patternsSound BayBlock.patternSound
    decide +kernel
  · exact absurd h (by simp [sound, bursting, running])
  · exact absurd h (by simp [sound, bursting, running, Allocator.reset])
  · have h : ∀ n, (sound.lines.get n).staged = none := by decide +kernel
    have h' : ∀ n, ∀ x, (sound.lines.get n).staged = some x →
        (sound.bayBlock n).countMin ≤ x.count ∧ x.count ≤ (sound.bayBlock n).len := fun n x hx => by simp [h n] at hx
    have hl : ∀ n, (sound.lines.get n).slotIndex < (sound.lines.get n).len ∧
        if (sound.bayBlock n).occupied = true then
          (sound.lines.get n).mode = .profile ∧ (sound.lines.get n).len = (sound.bayBlock n).len ∧
            (sound.lines.get n).phi = (sound.bayBlock n).phi ∧ (sound.bayBlock n).countMin ≤ (sound.lines.get n).live ∧
            (sound.lines.get n).live ≤ (sound.bayBlock n).len
        else
          (sound.lines.get n).mode = .default ∧ (sound.lines.get n).len = 16 ∧ (sound.lines.get n).live = 8 ∧
            (sound.lines.get n).phi = 0 ∧ (sound.lines.get n).slotTimeUs = 100 ∧ (sound.lines.get n).staged = none ∧
            (sound.lines.get n).hold = .free := by decide +kernel
    have hn := hl n
    change (sound.lines.get n).soundFor (sound.bayBlock n)
    unfold Line.soundFor
    split at hn
    · rename_i ho
      simp only [ho, if_true]
      exact ⟨hn.1, hn.2.1, hn.2.2.1, hn.2.2.2.1, hn.2.2.2.2.1, hn.2.2.2.2.2, h' n⟩
    · rename_i ho
      simp only [ho]
      exact hn

/-- Its sensor records before a stale timer. -/
theorem witness_StepsKeepTheSensorsSound :
    ({ sound with pending := [.staleTimer (ms 200) 0] } : State).sensorsSound ∧
      afterStep { sound with pending := [.staleTimer (ms 200) 0] } (fun s => (s.sensors.get 0).state == .stale) = true := by
  refine ⟨fun n => ⟨?_, fun v h => ?_, fun v h => ?_, fun _ => ?_, fun c h => ?_⟩, by decide +kernel⟩
  · have h : ∀ n, sound.sensors.get n = validRecord ∨ sound.sensors.get n = SensorRec.reset := by decide +kernel
    change (sound.sensors.get n).sound 0
    rcases h n with h | h <;> rw [h]
    · refine ⟨by simp [validRecord, SensorState.neverAccepted], by simp [validRecord], fun x hx => ?_, by decide, ?_, ?_, ?_⟩
      · obtain rfl : (⟨80, 240⟩ : Sample) = x := by injection hx
        decide
      all_goals simp [validRecord]
    · simp [SensorRec.reset, SensorRec.sound, SensorState.neverAccepted]
  · have hn : ∀ n, (sound.capture.get n).temp = none := by decide +kernel
    exact (Option.some_ne_none v (h.symm.trans (hn n))).elim
  · have hn : ∀ n, (sound.capture.get n).power = none := by decide +kernel
    exact (Option.some_ne_none v (h.symm.trans (hn n))).elim
  · revert n; decide +kernel
  · have hn : ∀ n, (sound.capture.get n).candidate = none := by decide +kernel
    exact (Option.some_ne_none c (h.symm.trans (hn n))).elim

/-- Its cycle before a boundary. -/
theorem witness_StepsKeepTheCycleAndRingSound :
    ({ sound with pending := [.boundary (ms 20)] } : State).ringSound ∧
      afterStep { sound with pending := [.boundary (ms 20)] }
        (fun s => s.alloc.epoch == 2 && s.alloc.flight.isSome) = true := by
  refine ⟨⟨by unfold State.engineSound; decide +kernel, by decide, fun i x y h => ?_, fun x h => ?_, fun y h => ?_,
    by decide⟩, by decide +kernel⟩
  · simp [sound, bursting, running, Allocator.reset] at h
  · simp [sound, bursting, running, Allocator.reset] at h
  · simp [sound, bursting, running, Allocator.reset] at h

end Sys2Proof.Tests
end

section
/-! PROOFS. The fate of a delivered sample, sensor state by sensor state, and the tail that delivers it (Chapters 1
and 2). -/

namespace Sys2Proof.Machine

/-! ### A record takes a sample (R22 to R28) -/

/-- R22 without the subtraction: neither temperature exceeds the other by more than the step limit. -/
theorem plausible_iff (step reference temp : Nat) :
    plausible step reference temp = true ↔ reference ≤ temp + step ∧ temp ≤ reference + step := by
  rw [plausible, decide_eq_true_iff]
  omega

@[simp] theorem SensorState.code_acquiring (run : Run) : (SensorState.acquiring run).code = 1 := rfl

section Record
variable {r : SensorRec} {p : SensorParams} {t : Nat} {x : Sample} {run : Run}

@[simp] theorem SensorRec.startRun_code (origin : Origin) : (r.startRun t origin x).state.code = 1 := rfl

@[simp] theorem SensorRec.accept_code : (r.accept t x).state.code = 2 := rfl

theorem SensorRec.heldTemp_of_held {h : Sample} (hheld : r.held = some h) : r.heldTemp = h.temp := by
  rw [heldTemp, hheld]

theorem SensorRec.takeSample_of_absent (hstate : r.state = .absent) :
    r.takeSample p t x = ⟨r.startRun t .absent x, false, false⟩ := by
  rw [takeSample, hstate]

theorem SensorRec.takeSample_of_lost (hstate : r.state = .lost) :
    r.takeSample p t x = ⟨r.startRun t .lost x, false, false⟩ := by
  rw [takeSample, hstate]

/-- An implausible sample restarts the run, whose origin stays (R24). -/
theorem SensorRec.takeSample_restarts_run (hstate : r.state = .acquiring run)
    (hfar : ¬plausible p.step run.sample.temp x.temp = true) :
    r.takeSample p t x = ⟨r.startRun t run.origin x, false, false⟩ := by
  rw [takeSample, hstate]
  exact if_neg hfar

theorem SensorRec.takeSample_second_in_run (hstate : r.state = .acquiring run)
    (hnear : plausible p.step run.sample.temp x.temp = true) (hone : run.count = .one) :
    r.takeSample p t x = ⟨{ r with state := .acquiring ⟨run.origin, .two, x, t⟩ }, false, false⟩ := by
  simp only [takeSample, hstate, sampleInRun, if_pos hnear, hone]

theorem SensorRec.takeSample_third_in_run (hstate : r.state = .acquiring run)
    (hnear : plausible p.step run.sample.temp x.temp = true) (htwo : run.count = .two) :
    r.takeSample p t x = ⟨r.accept t x, true, false⟩ := by
  simp only [takeSample, hstate, sampleInRun, if_pos hnear, htwo]

theorem SensorRec.takeSample_of_valid_or_stale (hstate : r.state = .valid ∨ r.state = .stale) :
    r.takeSample p t x = r.sampleHeld p t x := by
  rcases hstate with hvalid | hstale
  · rw [takeSample, hvalid]
  · rw [takeSample, hstale]

theorem SensorRec.takeSample_plausible (hstate : r.state = .valid ∨ r.state = .stale)
    (hnear : plausible p.step r.heldTemp x.temp = true) : r.takeSample p t x = ⟨r.accept t x, true, false⟩ := by
  rw [takeSample_of_valid_or_stale hstate, sampleHeld, if_pos hnear]

theorem SensorRec.takeSample_rejects (hstate : r.state = .valid ∨ r.state = .stale)
    (hfar : ¬plausible p.step r.heldTemp x.temp = true) (himpl : r.implRun ≠ 2) :
    r.takeSample p t x = ⟨{ r with implRun := r.implRun + 1, implCount := satInc8 r.implCount }, false, false⟩ := by
  rw [takeSample_of_valid_or_stale hstate, sampleHeld, if_neg hfar, if_neg himpl]

theorem SensorRec.takeSample_jumps (hstate : r.state = .valid ∨ r.state = .stale)
    (hfar : ¬plausible p.step r.heldTemp x.temp = true) (himpl : r.implRun = 2) :
    r.takeSample p t x = ⟨{ r.accept t x with implCount := satInc8 r.implCount }, true, true⟩ := by
  rw [takeSample_of_valid_or_stale hstate, sampleHeld, if_neg hfar, if_pos himpl]

end Record

/-! ### What an update of a record announces (R32) -/

section Delivery
variable {s : State} {n : Bay} {x : Sample} {run : Run}

theorem State.updateSensor_of_code_eq {r : SensorRec} (hcode : r.state.code = (s.sensors.get n).state.code) :
    s.updateSensor n r false = s.setSensor n r := by
  rw [updateSensor, if_neg (by simp [hcode])]

theorem State.updateSensor_of_code_ne {r : SensorRec} (hcode : r.state.code ≠ (s.sensors.get n).state.code) :
    s.updateSensor n r false = (s.setSensor n r).announceSensor n := by
  rw [updateSensor, if_pos (by simp [hcode])]
  rfl

theorem State.updateSensor_jump (r : SensorRec) :
    s.updateSensor n r true = (s.setSensor n r).announceSensor n := rfl

/-! ### A delivered sample, by what the record does with it (R20, R32, R33) -/

theorem State.deliverSample_of_not_accepted {r : SensorRec} {jump : Bool}
    (htake : (s.sensors.get n).takeSample s.params s.now x = ⟨r, false, jump⟩) :
    s.deliverSample n x = s.updateSensor n r jump := by
  rw [deliverSample, htake]
  rfl

theorem State.deliverSample_of_accepted {r : SensorRec} {jump : Bool}
    (htake : (s.sensors.get n).takeSample s.params s.now x = ⟨r, true, jump⟩) :
    s.deliverSample n x = (s.updateSensor n r jump).overtempTest n x.temp := by
  rw [deliverSample, htake]
  rfl

/-! ### A delivered sample, by the bay's sensor state (R23, R24, R27, R28) -/

theorem State.deliverSample_of_absent (hstate : (s.sensors.get n).state = .absent) :
    s.deliverSample n x = (s.setSensor n ((s.sensors.get n).startRun s.now .absent x)).announceSensor n := by
  rw [deliverSample_of_not_accepted (SensorRec.takeSample_of_absent hstate)]
  exact updateSensor_of_code_ne (by rw [hstate, SensorRec.startRun_code]; decide)

theorem State.deliverSample_of_lost (hstate : (s.sensors.get n).state = .lost) :
    s.deliverSample n x = (s.setSensor n ((s.sensors.get n).startRun s.now .lost x)).announceSensor n := by
  rw [deliverSample_of_not_accepted (SensorRec.takeSample_of_lost hstate)]
  exact updateSensor_of_code_ne (by rw [hstate, SensorRec.startRun_code]; decide)

theorem State.deliverSample_restarts_run (hstate : (s.sensors.get n).state = .acquiring run)
    (hfar : ¬plausible s.params.step run.sample.temp x.temp = true) :
    s.deliverSample n x = s.setSensor n ((s.sensors.get n).startRun s.now run.origin x) := by
  rw [deliverSample_of_not_accepted (SensorRec.takeSample_restarts_run hstate hfar)]
  exact updateSensor_of_code_eq (by rw [hstate]; rfl)

theorem State.deliverSample_second_in_run (hstate : (s.sensors.get n).state = .acquiring run)
    (hnear : plausible s.params.step run.sample.temp x.temp = true) (hone : run.count = .one) :
    s.deliverSample n x =
      s.setSensor n { s.sensors.get n with state := .acquiring ⟨run.origin, .two, x, s.now⟩ } := by
  rw [deliverSample_of_not_accepted (SensorRec.takeSample_second_in_run hstate hnear hone)]
  exact updateSensor_of_code_eq (by rw [hstate]; rfl)

theorem State.deliverSample_third_in_run (hstate : (s.sensors.get n).state = .acquiring run)
    (hnear : plausible s.params.step run.sample.temp x.temp = true) (htwo : run.count = .two) :
    s.deliverSample n x =
      ((s.setSensor n ((s.sensors.get n).accept s.now x)).announceSensor n).overtempTest n x.temp := by
  rw [deliverSample_of_accepted (SensorRec.takeSample_third_in_run hstate hnear htwo),
    updateSensor_of_code_ne (by rw [hstate, SensorRec.accept_code, SensorState.code_acquiring]; decide)]

theorem State.deliverSample_plausible_of_valid (hstate : (s.sensors.get n).state = .valid)
    (hnear : plausible s.params.step (s.sensors.get n).heldTemp x.temp = true) :
    s.deliverSample n x = (s.setSensor n ((s.sensors.get n).accept s.now x)).overtempTest n x.temp := by
  rw [deliverSample_of_accepted (SensorRec.takeSample_plausible (.inl hstate) hnear),
    updateSensor_of_code_eq (by rw [hstate]; rfl)]

theorem State.deliverSample_plausible_of_stale (hstate : (s.sensors.get n).state = .stale)
    (hnear : plausible s.params.step (s.sensors.get n).heldTemp x.temp = true) :
    s.deliverSample n x =
      ((s.setSensor n ((s.sensors.get n).accept s.now x)).announceSensor n).overtempTest n x.temp := by
  rw [deliverSample_of_accepted (SensorRec.takeSample_plausible (.inr hstate) hnear),
    updateSensor_of_code_ne (by rw [hstate, SensorRec.accept_code]; decide)]

theorem State.deliverSample_rejects (hstate : (s.sensors.get n).state = .valid ∨ (s.sensors.get n).state = .stale)
    (hfar : ¬plausible s.params.step (s.sensors.get n).heldTemp x.temp = true) (himpl : (s.sensors.get n).implRun ≠ 2) :
    s.deliverSample n x =
      s.setSensor n { s.sensors.get n with
        implRun := (s.sensors.get n).implRun + 1
        implCount := satInc8 (s.sensors.get n).implCount } := by
  rw [deliverSample_of_not_accepted (SensorRec.takeSample_rejects hstate hfar himpl)]
  exact updateSensor_of_code_eq rfl

theorem State.deliverSample_jumps (hstate : (s.sensors.get n).state = .valid ∨ (s.sensors.get n).state = .stale)
    (hfar : ¬plausible s.params.step (s.sensors.get n).heldTemp x.temp = true) (himpl : (s.sensors.get n).implRun = 2) :
    s.deliverSample n x =
      ((s.setSensor n { (s.sensors.get n).accept s.now x with
        implCount := satInc8 (s.sensors.get n).implCount }).announceSensor n).overtempTest n x.temp := by
  rw [deliverSample_of_accepted (SensorRec.takeSample_jumps hstate hfar himpl), updateSensor_jump]

end Delivery

/-! ### The end of the tail (R3, R12) -/

section Tail
variable {s : State} {n : Bay} {t : Nat}

theorem State.takeTail_of_due (htail : (s.capture.get n).state = .tail)
    (hdue : (s.capture.get n).edgeAt + us 1000 ≤ (s.capture.get n).settledTo t) :
    s.takeTail n t = (s.setDecoder n (s.capture.get n).complete).deliverSample n (s.capture.get n).sample := by
  have htailDue : (s.capture.get n).tailDue ((s.capture.get n).settledTo t) = true := by
    simp [Decoder.tailDue, htail, tailTime, hdue]
  rw [takeTail, if_pos htailDue]

theorem exec_tailComplete (hreset : s.inReset = false) :
    exec (.tailComplete t n) s = .next ((s.advance t).takeTail n (max s.now t)) := by
  simp [exec, execTailComplete, event, hreset]

theorem exec_tailComplete_of_due (hreset : s.inReset = false) (htail : (s.capture.get n).state = .tail)
    (hdue : (s.capture.get n).edgeAt + us 1000 ≤ (s.capture.get n).settledTo (max s.now t)) :
    exec (.tailComplete t n) s = .next
      (((s.advance t).setDecoder n (s.capture.get n).complete).deliverSample n (s.capture.get n).sample) := by
  rw [exec_tailComplete hreset, State.takeTail_of_due (s := s.advance t) htail hdue, State.advance_capture]

end Tail

/-- Settles O9: the end of the tail is a delivery on the state whose decoder is complete, and the record's sensor state picks
the delivery's equation. -/
theorem completedTailDeliversItsSample : Obligations.CompletedTailDeliversItsSample := by
  intro t n s hreset htail d settled hdue r x now near q accepted ends
  have hends {s' : State} (h : q.deliverSample n x = s') : ends s' :=
    (exec_tailComplete_of_due hreset htail hdue).trans (congrArg _ h)
  have hplausible (reference : Nat) : plausible q.params.step reference x.temp = true ↔ near reference :=
    plausible_iff _ _ _
  refine ⟨fun habsent => hends (State.deliverSample_of_absent habsent),
    fun hlost => hends (State.deliverSample_of_lost hlost), fun run hrun => ⟨?restarts, ?second, ?third⟩,
    fun h hheld hstate => ?held⟩
  case restarts =>
    intro hfar
    exact hends (State.deliverSample_restarts_run hrun (mt (hplausible _).mp hfar))
  case second =>
    intro hnear hone
    exact hends (State.deliverSample_second_in_run hrun ((hplausible _).mpr hnear) hone)
  case third =>
    intro hnear htwo
    exact hends (State.deliverSample_third_in_run hrun ((hplausible _).mpr hnear) htwo)
  case held =>
    have hheldTemp : plausible q.params.step (q.sensors.get n).heldTemp x.temp = true ↔ near h.temp :=
      (hplausible r.heldTemp).trans (by rw [SensorRec.heldTemp_of_held hheld])
    refine ⟨fun hnear hvalid => ?_, fun hnear hstale => ?_, fun hfar himpl => ?_, fun hfar himpl => ?_⟩
    · exact hends (State.deliverSample_plausible_of_valid hvalid (hheldTemp.mpr hnear))
    · exact hends (State.deliverSample_plausible_of_stale hstale (hheldTemp.mpr hnear))
    · exact hends (State.deliverSample_rejects hstate (mt hheldTemp.mp hfar) himpl)
    · exact hends (State.deliverSample_jumps hstate (mt hheldTemp.mp hfar) himpl)

end Sys2Proof.Machine
end

section
/-! PROOFS. The grant stage: sums of rounded-down shares, the hand-out of the leftover, and the bounds on the grants
(Chapter 5). -/

namespace Sys2Proof.Machine

/-! ### Sums over the eight bays -/

theorem sum8_eq_sum (f : Fin 8 → Nat) : sum8 f = ∑ n, f n := (Fin.sum_univ_eight f).symm

theorem sum8_add (f g : Fin 8 → Nat) : sum8 (fun n => f n + g n) = sum8 f + sum8 g := by
  simp only [sum8_eq_sum, Finset.sum_add_distrib]

theorem sum8_mul_right (f : Fin 8 → Nat) (r : Nat) : sum8 (fun n => f n * r) = sum8 f * r := by
  simp only [sum8_eq_sum, Finset.sum_mul]

theorem sum8_le_sum8 {f g : Fin 8 → Nat} (h : ∀ n, f n ≤ g n) : sum8 f ≤ sum8 g := by
  simpa only [sum8_eq_sum] using Finset.sum_le_sum fun n _ => h n

theorem sum8_get_set_succ (r : Row8 Nat) (n : Fin 8) : sum8 (r.set n (r.get n + 1)).get = sum8 r.get + 1 := by
  have hget : (r.set n (r.get n + 1)).get = fun m => r.get m + if m = n then 1 else 0 := by
    funext m
    by_cases h : m = n <;> simp [h]
  rw [hget, sum8_add]
  simp [sum8_eq_sum]

theorem mul_div_le_of_le {r total : Nat} (w : Nat) (h : r ≤ total) : w * r / total ≤ w :=
  Nat.div_le_of_le_mul (Nat.mul_comm total w ▸ Nat.mul_le_mul_left w h)

/-- Shares in proportion, rounded down, stay within what is divided (R86, R93). -/
theorem sum8_mul_div_le (f : Fin 8 → Nat) (r : Nat) (hpos : 0 < sum8 f) :
    sum8 (fun n => f n * r / sum8 f) ≤ r := by
  refine Nat.le_of_mul_le_mul_right ?_ hpos
  calc sum8 (fun n => f n * r / sum8 f) * sum8 f
      = sum8 fun n => f n * r / sum8 f * sum8 f := (sum8_mul_right _ _).symm
    _ ≤ sum8 fun n => f n * r := sum8_le_sum8 fun n => Nat.div_mul_le_self _ _
    _ = r * sum8 f := by rw [sum8_mul_right, Nat.mul_comm]

/-- What the rounding discards is at most 1 for each share that is not 0 (R93). -/
theorem le_sum8_mul_div_add (f : Fin 8 → Nat) (r : Nat) (hpos : 0 < sum8 f) :
    r ≤ sum8 (fun n => f n * r / sum8 f) + sum8 fun n => if 0 < f n then 1 else 0 := by
  refine Nat.le_of_mul_le_mul_right ?_ hpos
  calc r * sum8 f
      = sum8 fun n => f n * r := by rw [sum8_mul_right, Nat.mul_comm]
    _ ≤ sum8 fun n => (f n * r / sum8 f + if 0 < f n then 1 else 0) * sum8 f := sum8_le_sum8 fun n => ?_
    _ = _ := by rw [sum8_mul_right, sum8_add]
  by_cases h : 0 < f n
  · rw [if_pos h, Nat.mul_comm _ (sum8 f)]
    exact (Nat.lt_mul_div_succ _ hpos).le
  · simp [Nat.eq_zero_of_not_pos h]

/-! ### The visiting order of the hand-out (R93) -/

/-- The bay numbers in the order the hand-out visits them from the pointer `p` on. -/
def visitOrder (p : Fin 8) : List Bay := numbers8.map (visited p)

theorem visitOrder_perm (p : Fin 8) : (visitOrder p).Perm numbers8 := by revert p; decide

theorem visitOrder_nodup (p : Fin 8) : (visitOrder p).Nodup := (visitOrder_perm p).nodup_iff.mpr (by decide)

theorem mem_visitOrder (p : Fin 8) (n : Bay) : n ∈ visitOrder p :=
  (visitOrder_perm p).mem_iff.mpr (by revert n; decide)

/-- The bays visited before bay `n` are those fewer places after the pointer. -/
theorem takeWhile_visitOrder (p : Fin 8) (n : Bay) :
    (visitOrder p).takeWhile (· != n) = (visitOrder p).filter fun m => decide (m - p < n - p) := by
  revert p n; decide

theorem countP_visitOrder (p : Fin 8) (q : Bay → Bool) :
    (visitOrder p).countP q = sum8 fun n => if q n = true then 1 else 0 := by
  rw [(visitOrder_perm p).countP_eq]
  simp only [numbers8, List.countP_cons, List.countP_nil, sum8, Nat.zero_add]
  omega

/-! ### One pass of the hand-out (R93) -/

theorem handOutVisit_total (pooled : Bay → Nat) (w : Nat × Row8 Nat) (n : Bay) :
    (handOutVisit pooled w n).1 + sum8 (handOutVisit pooled w n).2.get = w.1 + sum8 w.2.get := by
  unfold handOutVisit
  split
  case isTrue h =>
    rw [sum8_get_set_succ]
    omega
  case isFalse => rfl

/-- What is handed out is what the shares gain. -/
theorem handOut_total (pooled : Bay → Nat) (l : List Bay) (w : Nat × Row8 Nat) :
    (l.foldl (handOutVisit pooled) w).1 + sum8 (l.foldl (handOutVisit pooled) w).2.get = w.1 + sum8 w.2.get := by
  induction l generalizing w with
  | nil => rfl
  | cons n l ih => rw [List.foldl_cons, ih, handOutVisit_total]

/-- Over bays without repeats, each eligible one takes 1 hw while any is left. -/
theorem handOut_left (pooled : Bay → Nat) (l : List Bay) (hl : l.Nodup) (v : Nat) (r : Row8 Nat) :
    (l.foldl (handOutVisit pooled) (v, r)).1 = v - l.countP fun m => decide (r.get m < pooled m) := by
  induction l generalizing v r with
  | nil => rfl
  | cons n l ih =>
    obtain ⟨hn, hl⟩ := List.nodup_cons.mp hl
    rw [List.foldl_cons, List.countP_cons]
    by_cases h : 0 < v ∧ r.get n < pooled n
    · have hcount : l.countP (fun m => decide ((r.set n (r.get n + 1)).get m < pooled m)) =
          l.countP fun m => decide (r.get m < pooled m) :=
        List.countP_congr fun m hm => by simp [ne_of_mem_of_not_mem hm hn]
      rw [handOutVisit, if_pos h, ih hl, hcount, if_pos (decide_eq_true h.2)]
      omega
    · rw [handOutVisit, if_neg h, ih hl]
      by_cases he : r.get n < pooled n
      · have hv : v = 0 := Nat.eq_zero_of_not_pos fun hv => h ⟨hv, he⟩
        simp [hv]
      · simp [he]

/-! ### The steps of the stage, bay by bay (R83, R86 to R89, R96) -/

section Stage
variable {x : Snapshot} {n : Bay}

theorem Snapshot.burstAmount_eq : x.burstAmount n = (x.bursts.get n).elim 0 Prod.snd := by
  rw [burstAmount]
  cases x.bursts.get n <;> rfl

theorem Snapshot.sought_eq :
    x.sought n = (x.pin.get n).getD (max ((x.block n).floor + x.burstAmount n) (x.effectiveDemand n)) := by
  rw [sought]
  cases x.pin.get n <;> rfl

theorem Snapshot.commitment_of_occupied (hocc : x.occupied n = true) :
    x.commitment n = min ((x.pin.get n).getD ((x.block n).floor + x.burstAmount n)) (x.ceiling n) := by
  rw [commitment, if_pos hocc]
  cases x.pin.get n <;> rfl

theorem Snapshot.commitment_of_vacant (hvac : x.occupied n = false) : x.commitment n = 0 := by
  simp [commitment, hvac]

theorem Snapshot.commitment_le_ceiling : x.commitment n ≤ x.ceiling n := by
  cases hocc : x.occupied n with
  | false => simp [commitment_of_vacant hocc]
  | true => exact commitment_of_occupied hocc ▸ Nat.min_le_right _ _

theorem Snapshot.want_of_occupied (hocc : x.occupied n = true) :
    x.want n = if (x.pin.get n).isSome = true then 0
      else min (x.effectiveDemand n) (x.ceiling n) - x.commitment n := by
  rw [want, hocc]
  cases x.pin.get n <;> rfl

theorem Snapshot.want_of_vacant (hvac : x.occupied n = false) : x.want n = 0 := by
  simp [want, hvac]

theorem Snapshot.commitment_add_want_le_ceiling : x.commitment n + x.want n ≤ x.ceiling n := by
  have hcommitment := x.commitment_le_ceiling (n := n)
  rw [want]
  split <;> omega

theorem Snapshot.pooled_le_want : x.pooled n ≤ x.want n := by
  simp only [pooled]
  split
  case isTrue => exact le_rfl
  case isFalse hscaled => exact mul_div_le_of_le _ (Nat.le_of_not_le hscaled)

theorem Snapshot.pooled_of_vacant (hvac : x.occupied n = false) : x.pooled n = 0 :=
  Nat.eq_zero_of_le_zero (want_of_vacant hvac ▸ pooled_le_want)

theorem Snapshot.contended_iff : x.contended = true ↔ x.residue < x.pooledSum := decide_eq_true_iff

theorem Snapshot.not_contended_iff : x.contended = false ↔ x.pooledSum ≤ x.residue := by
  rw [contended, decide_eq_false_iff_not, Nat.not_lt]

theorem Snapshot.short_iff : x.short = true ↔ x.cap < x.commitments := decide_eq_true_iff

theorem Snapshot.not_short_iff : x.short = false ↔ x.commitments ≤ x.cap := by
  rw [short, decide_eq_false_iff_not, Nat.not_lt]

theorem Snapshot.grant_of_short (hshort : x.short = true) :
    x.grant = fun n => x.commitment n * x.cap / x.commitments := funext fun _ => if_pos hshort

theorem Snapshot.grant_of_not_short (hshort : x.short = false) :
    x.grant = fun n => x.commitment n + x.final n := funext fun _ => if_neg (by simp [hshort])

/-! ### The shelf stage (R91 to R94) -/

theorem Snapshot.share_of_contended (hcont : x.contended = true) :
    x.share = fun n => x.pooled n * x.residue / x.pooledSum := funext fun _ => if_pos hcont

theorem Snapshot.share_le_pooled : x.share n ≤ x.pooled n := by
  rw [share]
  split
  case isTrue hcont => exact mul_div_le_of_le _ (contended_iff.mp hcont).le
  case isFalse => exact le_rfl

theorem Snapshot.share_of_vacant (hvac : x.occupied n = false) : x.share n = 0 :=
  Nat.eq_zero_of_le_zero (pooled_of_vacant hvac ▸ share_le_pooled)

theorem Snapshot.leftover_of_contended (hcont : x.contended = true) :
    x.leftover = x.residue - sum8 x.share := if_pos hcont

/-- Under contention the bays eligible for the hand-out are those with W′ above 0. -/
theorem Snapshot.share_lt_pooled_iff (hcont : x.contended = true) : x.share n < x.pooled n ↔ 0 < x.pooled n := by
  have hresidue := contended_iff.mp hcont
  rw [share_of_contended hcont, Nat.div_lt_iff_lt_mul (Nat.zero_lt_of_lt hresidue)]
  exact ⟨fun h => Nat.pos_of_ne_zero fun h0 => by simp [h0] at h, fun h => Nat.mul_lt_mul_of_pos_left hresidue h⟩

theorem Snapshot.handedOut_eq :
    x.handedOut = (visitOrder x.rotation).foldl (handOutVisit x.pooled) (x.leftover, Row8.ofFn x.share) := rfl

theorem Snapshot.final_of_not_contended (hcont : x.contended = false) : x.final = x.pooled := by
  funext n
  have hleftover : x.leftover = 0 := by simp [leftover, hcont]
  have hshare : x.share n = x.pooled n := by simp [share, hcont]
  rw [final, handedOut_eq, handOut_get _ _ _ (visitOrder_nodup _), hleftover]
  simp [hshare]

/-- The eligible bays that the hand-out visits before bay `n`. -/
def Snapshot.eligibleBefore (x : Snapshot) (n : Bay) : Nat :=
  sum8 fun m => if 0 < x.pooled m ∧ m - x.rotation < n - x.rotation then 1 else 0

theorem Snapshot.countP_visited_before :
    ((visitOrder x.rotation).takeWhile (· != n)).countP (fun m => decide (0 < x.pooled m)) = x.eligibleBefore n := by
  rw [takeWhile_visitOrder, List.countP_filter, countP_visitOrder]
  exact congrArg sum8 (funext fun m => if_congr (by simp) rfl rfl)

theorem Snapshot.final_of_contended (hcont : x.contended = true) :
    x.final n = x.share n + if 0 < x.pooled n ∧ x.eligibleBefore n < x.leftover then 1 else 0 := by
  rw [final, handedOut_eq, handOut_get _ _ _ (visitOrder_nodup _)]
  simp only [Row8.get_ofFn, share_lt_pooled_iff hcont, countP_visited_before, mem_visitOrder, true_and]

theorem Snapshot.final_le_pooled : x.final n ≤ x.pooled n := by
  cases hcont : x.contended with
  | false => exact (congrFun (final_of_not_contended hcont) n).le
  | true =>
    have heligible := x.share_lt_pooled_iff (n := n) hcont
    have hshare := x.share_le_pooled (n := n)
    rw [final_of_contended hcont]
    split <;> omega

/-- Under contention the shares of R92 leave at most 1 hw for each eligible bay, so one pass spends the leftover. -/
theorem Snapshot.handedOut_left_of_contended (hcont : x.contended = true) : x.handedOut.1 = 0 := by
  have hpos : 0 < x.pooledSum := Nat.zero_lt_of_lt (contended_iff.mp hcont)
  have hdiscarded := le_sum8_mul_div_add x.pooled x.residue hpos
  rw [← pooledSum, ← share_of_contended hcont] at hdiscarded
  rw [handedOut_eq, handOut_left _ _ (visitOrder_nodup _), countP_visitOrder, leftover_of_contended hcont]
  simp only [Row8.get_ofFn, decide_eq_true_eq, share_lt_pooled_iff hcont]
  omega

theorem Snapshot.sum8_final_of_contended (hcont : x.contended = true) : sum8 x.final = x.residue := by
  have hpos : 0 < x.pooledSum := Nat.zero_lt_of_lt (contended_iff.mp hcont)
  have hshares : sum8 x.share ≤ x.residue := by
    rw [share_of_contended hcont]
    exact sum8_mul_div_le x.pooled x.residue hpos
  have htotal := handOut_total x.pooled (visitOrder x.rotation) (x.leftover, Row8.ofFn x.share)
  rw [← handedOut_eq, handedOut_left_of_contended hcont, leftover_of_contended hcont,
    show (Row8.ofFn x.share).get = x.share from funext (Row8.get_ofFn _)] at htotal
  change sum8 x.handedOut.2.get = x.residue
  omega

/-! ### The laws of the stage (R98) -/

theorem Snapshot.grant_le_commitment_of_short (hshort : x.short = true) : x.grant n ≤ x.commitment n := by
  rw [grant_of_short hshort]
  exact mul_div_le_of_le _ (short_iff.mp hshort).le

theorem Snapshot.grant_le_commitment_add_pooled : x.grant n ≤ x.commitment n + x.pooled n := by
  cases hshort : x.short with
  | true => exact (grant_le_commitment_of_short hshort).trans (Nat.le_add_right _ _)
  | false => exact grant_of_not_short hshort ▸ Nat.add_le_add_left final_le_pooled _

theorem Snapshot.grant_le_ceiling : x.grant n ≤ x.ceiling n :=
  grant_le_commitment_add_pooled.trans
    ((Nat.add_le_add_left pooled_le_want _).trans commitment_add_want_le_ceiling)

theorem Snapshot.grant_of_vacant (hvac : x.occupied n = false) : x.grant n = 0 := by
  have hle := x.grant_le_commitment_add_pooled (n := n)
  rwa [commitment_of_vacant hvac, pooled_of_vacant hvac, Nat.le_zero] at hle

theorem Snapshot.grants_of_not_short (hshort : x.short = false) : x.grants = x.commitments + sum8 x.final := by
  rw [grants, grant_of_not_short hshort, sum8_add, commitments]

theorem Snapshot.grants_of_not_contended (hshort : x.short = false) (hcont : x.contended = false) :
    x.grants = x.commitments + x.pooledSum := by
  rw [grants_of_not_short hshort, final_of_not_contended hcont, pooledSum]

theorem Snapshot.grants_of_contended (hshort : x.short = false) (hcont : x.contended = true) : x.grants = x.cap := by
  rw [grants_of_not_short hshort, sum8_final_of_contended hcont, residue,
    Nat.add_sub_cancel' (not_short_iff.mp hshort)]

theorem Snapshot.grants_le_cap : x.grants ≤ x.cap := by
  cases hshort : x.short with
  | true =>
    rw [grants, grant_of_short hshort]
    exact sum8_mul_div_le x.commitment x.cap (Nat.zero_lt_of_lt (short_iff.mp hshort))
  | false =>
    cases hcont : x.contended with
    | true => exact (grants_of_contended hshort hcont).le
    | false =>
      have hpooled : x.pooledSum ≤ x.cap - x.commitments := not_contended_iff.mp hcont
      have hcommitments := not_short_iff.mp hshort
      rw [grants_of_not_contended hshort hcont]
      omega

theorem Snapshot.records_get_of_occupied (hocc : x.occupied n = true) :
    x.records.get n =
      some ⟨x.grant n, x.ceiling n, countOf (x.block n) (x.grant n), x.burstAmount n, x.flags n⟩ := by
  rw [records, Row8.get_ofFn, record, if_pos hocc, count]

theorem Snapshot.records_get_of_vacant (hvac : x.occupied n = false) : x.records.get n = none := by
  rw [records, Row8.get_ofFn, record, if_neg (by simp [hvac])]

/-- A sum over the occupied bays is one over all bays of values that are 0 at the vacant ones. -/
theorem Snapshot.sum8_occupied {f g : Bay → Nat} (hocc : ∀ n, x.occupied n = true → g n = f n)
    (hvac : ∀ n, x.occupied n = false → g n = 0) :
    (sum8 fun n => if x.occupied n = true then f n else 0) = sum8 g := by
  refine congrArg sum8 (funext fun n => ?_)
  cases h : x.occupied n with
  | true => simp [hocc n h]
  | false => simp [hvac n h]

end Stage

/-- Settles O45: each working value of the statement is the model's at the occupied bays, and each of its sums is the
model's, since the model counts 0 for a vacant bay; the bounds are those of the model's grants. -/
theorem grantsStayWithinCeilingsAndCap : Obligations.GrantsStayWithinCeilingsAndCap := by
  intro x block total ceil burst owed demand commitment short residue want poolWants extra pooled contended share
    leftover before final grant sought flags
  have hburst (n) : x.burstAmount n = burst n := Snapshot.burstAmount_eq
  have howed (n) : (x.block n).floor + x.burstAmount n = owed n := by rw [hburst]; rfl
  have hcommitment (n) (hocc : x.occupied n = true) : x.commitment n = commitment n := by
    rw [Snapshot.commitment_of_occupied hocc, howed]
  have hcommitments : total commitment = x.commitments :=
    Snapshot.sum8_occupied hcommitment fun _ => Snapshot.commitment_of_vacant
  have hshort : x.short = short := by rw [Snapshot.short, ← hcommitments]
  have hresidue : x.residue = residue := by rw [Snapshot.residue, ← hcommitments]
  have hwant (n) (hocc : x.occupied n = true) : x.want n = want n := by
    rw [Snapshot.want_of_occupied hocc, hcommitment n hocc]; rfl
  have hpoolWants (p) : poolWants p = x.poolWants p := by
    refine Snapshot.sum8_occupied (fun n hocc => ?_) fun n hvac => by simp [hvac]
    simp only [hocc, Bool.true_and, beq_iff_eq, hwant n hocc]; rfl
  have hpooled (n) (hocc : x.occupied n = true) : x.pooled n = pooled n := by
    simp only [Snapshot.pooled, hwant n hocc, ← hpoolWants]; rfl
  have hpooledSum : total pooled = x.pooledSum :=
    Snapshot.sum8_occupied hpooled fun _ => Snapshot.pooled_of_vacant
  have hcontended : x.contended = contended := by rw [Snapshot.contended, ← hpooledSum, hresidue]
  have hbefore (n) : before n = x.eligibleBefore n :=
    Snapshot.sum8_occupied (fun m hocc => by rw [hpooled m hocc]) fun m hvac => by
      simp [Snapshot.pooled_of_vacant hvac]
  have hshare (hcont : x.contended = true) (n) (hocc : x.occupied n = true) : x.share n = share n := by
    rw [Snapshot.share, if_pos hcont, ← hpooledSum, hresidue, hpooled n hocc]
  have hleftover (hcont : x.contended = true) : x.leftover = leftover := by
    rw [Snapshot.leftover_of_contended hcont, hresidue,
      ← Snapshot.sum8_occupied (hshare hcont) fun _ => Snapshot.share_of_vacant]
    rfl
  have hfinal (n) (hocc : x.occupied n = true) : x.final n = final n := by
    cases hcont : x.contended with
    | false => rw [Snapshot.final_of_not_contended hcont, hpooled n hocc]; exact (if_pos (hcontended ▸ hcont)).symm
    | true =>
      have hfinal : final n = if 0 < pooled n ∧ before n < leftover then share n + 1 else share n :=
        if_neg (by simp [← hcontended, hcont])
      rw [Snapshot.final_of_contended hcont, hfinal, hbefore, hshare hcont n hocc, hleftover hcont, hpooled n hocc]
      split <;> rfl
  have hgrant (n) (hocc : x.occupied n = true) : x.grant n = grant n := by
    rw [Snapshot.grant, hshort, hcommitment n hocc, hfinal n hocc, ← hcommitments]
  have hgrants : total grant = x.grants := Snapshot.sum8_occupied hgrant fun _ => Snapshot.grant_of_vacant
  have hflags (n) (hocc : x.occupied n = true) : x.flags n = flags n := by
    rw [Snapshot.flags, Snapshot.sought_eq, howed, hshort, hpooled n hocc, hwant n hocc, hfinal n hocc]; rfl
  refine ⟨fun n hocc => ⟨hgrant n hocc, hburst n, hflags n hocc, ?record⟩,
    fun n hvac => ⟨Snapshot.grant_of_vacant hvac, Snapshot.records_get_of_vacant hvac⟩, hshort, hgrants.symm, rfl,
    hgrants.symm, hshort, fun n hocc => ⟨?ceiling, ?scaled⟩, hgrants ▸ Snapshot.grants_le_cap, ?spare, ?spent⟩
  case record =>
    rw [Snapshot.records_get_of_occupied hocc, hgrant n hocc, hburst, hflags n hocc]; rfl
  case ceiling => exact hgrant n hocc ▸ Snapshot.grant_le_ceiling
  case scaled =>
    rw [← hshort, ← hgrant n hocc, ← hcommitment n hocc]
    exact Snapshot.grant_le_commitment_of_short
  case spare =>
    rw [← hshort, ← hcontended, hgrants, hcommitments, hpooledSum]
    exact Snapshot.grants_of_not_contended
  case spent =>
    rw [← hshort, ← hcontended, hgrants]
    exact Snapshot.grants_of_contended

end Sys2Proof.Machine
end

section
/-! PROOFS. ASK BURST: the checks of its table in order, and the entry that joins the queue (Chapter 6). -/

namespace Sys2Proof.Machine

/-! ### A service for a selector's bay, as its request arrives (R160 to R162) -/

/-- The answer whose service has taken effect on the part as an idle link's request finds it. -/
def Answer.atService (a : Answer) (k : LinkId) (t : Nat) (r : Request) : Answer :=
  ⟨a.state.atService k t r, a.status, a.data⟩

section Selector
variable {s : State} {k : LinkId} {sel : Byte} {n : Bay} {t : Nat} {r : Request}

theorem refuse_atService (status : Status) : refuse (s.atService k t r) status = (refuse s status).atService k t r := rfl

theorem withBay_of_reaches {service : Bay → Answer} (hreach : s.reaches k sel n) :
    withBay s k sel service = service n := by
  rw [withBay, hreach.relocate]

/-- A bay above 7 from the shelf link (R162). -/
theorem withBay_shelf_of_above {service : Bay → Answer} (habove : 7 < sel.toNat) :
    withBay s .shelf sel service = refuse s .param := by
  have hrelocate : s.relocate .shelf sel = .error .param := by
    simp only [State.relocate, bayOfNat, dif_neg (show ¬sel.toNat < 8 by omega)]
  rw [withBay, hrelocate]

theorem withBay_atService {service arrived : Bay → Answer} (h : ∀ n, arrived n = (service n).atService k t r) :
    withBay (s.atService k t r) k sel arrived = (withBay s k sel service).atService k t r := by
  rw [withBay, withBay, State.atService_relocate]
  cases s.relocate k sel with
  | ok n => exact h n
  | error status => exact refuse_atService status

end Selector

section AskBurst
variable {s : State} {n : Bay} {amount duration wait : Nat} {tag : Byte}

/-! ### The checks of R106, in the terms of the statements -/

theorem State.hasEntry_iff_queued : s.burst.hasEntry n = true ↔ s.queued n := by
  simp only [BurstUnit.hasEntry, State.queued, List.any_eq_true, beq_iff_eq]

theorem inRange_one_eq_false_iff {hi v : Nat} : inRange 1 hi v = false ↔ v = 0 ∨ hi < v := by
  rw [inRange, decide_eq_false_iff_not]
  omega

theorem State.badAsk_iff : s.badAsk n amount duration = true ↔
    (s.bayBlock n).occupied = false ∨ amount = 0 ∨ 511 < amount ∨ duration = 0 ∨ 4095 < duration ∨
      (s.burst.pools.get (s.bayBlock n).pool).reserve < amount := by
  simp only [State.badAsk, State.occupied, Bool.or_eq_true, Bool.not_eq_true', inRange_one_eq_false_iff,
    decide_eq_true_eq, or_assoc]

/-! ### The service, by the first check that fails (R106, R107) -/

theorem serveAskBurst_of_stopped (hstopped : s.alloc.engine = .stopped) :
    serveAskBurst s n amount duration wait tag = refuse s .state := if_pos hstopped

theorem serveAskBurst_of_running (hrunning : s.alloc.engine = .running) :
    serveAskBurst s n amount duration wait tag =
      if s.badAsk n amount duration then refuse s .param
      else if (s.alloc.pin.get n).isSome then refuse s .pinned
      else if s.burst.hasEntry n then refuse s .busy
      else ⟨s.setBurst { s.burst with queue := s.burst.queue ++ [s.newEntry n amount duration wait tag] }, .ok,
        [byte1 (s.burst.queue.length + 1)]⟩ := by
  rw [serveAskBurst, if_neg (by simp [hrunning])]
  simp only [List.length_append, List.length_singleton]

theorem serveAskBurst_of_bad (hrunning : s.alloc.engine = .running) (hbad : s.badAsk n amount duration = true) :
    serveAskBurst s n amount duration wait tag = refuse s .param := by
  rw [serveAskBurst_of_running hrunning, if_pos hbad]

theorem serveAskBurst_of_pinned (hrunning : s.alloc.engine = .running) (hgood : ¬s.badAsk n amount duration = true)
    (hpin : s.alloc.pin.get n ≠ none) : serveAskBurst s n amount duration wait tag = refuse s .pinned := by
  rw [serveAskBurst_of_running hrunning, if_neg hgood, if_pos (Option.isSome_iff_ne_none.mpr hpin)]

theorem serveAskBurst_of_queued (hrunning : s.alloc.engine = .running) (hgood : ¬s.badAsk n amount duration = true)
    (hpin : s.alloc.pin.get n = none) (hqueued : s.queued n) :
    serveAskBurst s n amount duration wait tag = refuse s .busy := by
  rw [serveAskBurst_of_running hrunning, if_neg hgood, if_neg (by simp [hpin]),
    if_pos (State.hasEntry_iff_queued.mpr hqueued)]

theorem serveAskBurst_of_passed (hrunning : s.alloc.engine = .running) (hgood : ¬s.badAsk n amount duration = true)
    (hpin : s.alloc.pin.get n = none) (hqueued : ¬s.queued n) :
    serveAskBurst s n amount duration wait tag =
      ⟨s.setBurst { s.burst with queue := s.burst.queue ++ [s.newEntry n amount duration wait tag] }, .ok,
        [byte1 (s.burst.queue.length + 1)]⟩ := by
  rw [serveAskBurst_of_running hrunning, if_neg hgood, if_neg (by simp [hpin]),
    if_neg (mt State.hasEntry_iff_queued.mp hqueued)]

/-! ### The whole request on an idle link -/

/-- The service looks at nothing that the arrival of its request has changed. -/
theorem serveAskBurst_atService (k : LinkId) (t : Nat) (r : Request) :
    serveAskBurst (s.atService k t r) n amount duration wait tag =
      (serveAskBurst s n amount duration wait tag).atService k t r := by
  simp only [serveAskBurst, apply_ite (Answer.atService · k t r)]
  rfl

end AskBurst

/-- On an idle link whose requests are bound, ASK BURST is answered as its service in the state before says. -/
theorem exec_askBurst_of_service {s : State} {k : LinkId} {t : Nat} {tag sel : Byte} {amount duration : BitVec 16}
    {wait burstTag : Byte} {a : Answer} (hidle : s.linkIdle k 7 t) (hbound : s.unbound k = false)
    (hservice : withBay s k sel
      (fun n => serveAskBurst s n amount.toNat duration.toNat wait.toNat burstTag) = a) :
    exec (.askBurst t k tag sel amount duration wait burstTag) s =
      .next (a.state.replied t k
        ⟨0x12, tag, sel :: (bytes2 amount.toNat ++ bytes2 duration.toNat ++ [wait, burstTag])⟩ a.status a.data) := by
  have hport : a.state.port k = s.port k :=
    hservice ▸ (withBay_keeps s k sel _ fun n => serveAskBurst_keeps s k n _ _ _ _).2
  have hlen : (sel :: (bytes2 amount.toNat ++ bytes2 duration.toNat ++ [wait, burstTag])).length = 7 := rfl
  refine requestEvent_replied (kind := .askBurst) (hlen ▸ hidle) (by rw [hlen]; decide) ?_ hport
  rw [answer_known, State.atService_unbound, hbound]
  simp only [Kind.shelfOnly, Bool.false_and, Bool.and_false, Bool.false_eq_true, if_false, bytes2, List.cons_append,
    List.nil_append, dispatch_askBurst, value2_byte1]
  rw [withBay_atService fun n => serveAskBurst_atService k t _, hservice]
  rfl

/-- Settles O27: a selector that reaches a bay hands the request to the bay's service, whose equation is that of the first
check of R106 that fails, or of R107 when none does. -/
theorem askBurstChecksThenJoinsTheTail : Obligations.AskBurstChecksThenJoinsTheTail := by
  intro t k tag sel amount duration wait burstTag s hidle r asked refused
  refine ⟨fun hshelf habove => ?above, fun n hreach => ?reached⟩
  case above =>
    subst hshelf
    exact exec_askBurst_of_service hidle rfl (withBay_shelf_of_above habove)
  case reached =>
    intro b bad
    have hbad : s.badAsk n amount.toNat duration.toNat = true ↔ bad := State.badAsk_iff
    have hasked {a : Answer} (h : serveAskBurst s n amount.toNat duration.toNat wait.toNat burstTag = a) :
        asked = .next (a.state.replied t k r a.status a.data) :=
      exec_askBurst_of_service hidle hreach.bound ((withBay_of_reaches hreach).trans h)
    refine ⟨fun hstopped => ?_, fun hrunning h => ?_, fun hrunning h hpin => ?_, fun hrunning h hpin hqueued => ?_,
      fun hrunning h hpin hqueued => ?_⟩
    · exact hasked (serveAskBurst_of_stopped hstopped)
    · exact hasked (serveAskBurst_of_bad hrunning (hbad.mpr h))
    · exact hasked (serveAskBurst_of_pinned hrunning (mt hbad.mp h) hpin)
    · exact hasked (serveAskBurst_of_queued hrunning (mt hbad.mp h) hpin hqueued)
    · exact hasked (serveAskBurst_of_passed hrunning (mt hbad.mp h) hpin hqueued)

end Sys2Proof.Machine
end

section
/-! PROOFS. The patterns: the open slots of a run are counted by a difference of rounded-down shares, so any run holds its
own share or one more (Chapter 7). -/

namespace Sys2Proof.Machine

/-! ### One slot (R127) -/

section Pattern
variable {count len : Nat}

/-- From one slot to the next the rounded-down share advances by 1 at an open slot and stands still at a closed one. -/
theorem succ_mul_div_eq_add_openSlot (hpos : 0 < len) (hle : count ≤ len) (i : Nat) :
    (i + 1) * count / len = i * count / len + (openSlot count len i).toNat := by
  have hlow : i * count / len ≤ (i + 1) * count / len :=
    Nat.div_le_div_right (Nat.mul_le_mul_right count i.le_succ)
  have hhigh : (i + 1) * count / len ≤ i * count / len + 1 :=
    calc (i + 1) * count / len ≤ (i * count + len) / len :=
          Nat.div_le_div_right (Nat.succ_mul i count ▸ Nat.add_le_add_left hle _)
      _ = i * count / len + 1 := Nat.add_div_right _ hpos
  cases h : openSlot count len i
  case false =>
    have hstill : (i + 1) * count / len - i * count / len ≠ 1 := ne_of_beq_false h
    rw [Bool.toNat_false]
    omega
  case true =>
    have hgain : (i + 1) * count / len - i * count / len = 1 := eq_of_beq h
    rw [Bool.toNat_true]
    omega

/-- A repetition adds the whole count to the share. -/
theorem add_mul_len_mul_div (hpos : 0 < len) (i q : Nat) :
    (i + q * len) * count / len = i * count / len + q * count := by
  rw [Nat.add_mul, Nat.mul_right_comm, Nat.add_mul_div_right _ _ hpos]

theorem openSlot_mod (hpos : 0 < len) (i : Nat) : openSlot count len (i % len) = openSlot count len i := by
  have hi : i = i % len + i / len * len := (Nat.mod_add_div' i len).symm
  have hshift : openSlot count len (i % len + i / len * len) = openSlot count len (i % len) := by
    simp only [openSlot, Nat.add_right_comm _ (i / len * len) 1, add_mul_len_mul_div hpos, Nat.add_sub_add_right]
  rw [← hshift, ← hi]

theorem openSlot_full (hpos : 0 < len) (i : Nat) : openSlot len len i = true := by
  simp [openSlot, Nat.mul_div_cancel _ hpos]

theorem openSlot_one_iff {i : Nat} (hi : i < len) : openSlot 1 len i = true ↔ i = len - 1 := by
  have hbefore : i / len = 0 := Nat.div_eq_of_lt hi
  rcases (Nat.succ_le_of_lt hi).lt_or_eq with hinner | hlast
  · have hafter : (i + 1) / len = 0 := Nat.div_eq_of_lt hinner
    simp only [openSlot, Nat.mul_one, hbefore, hafter]
    exact ⟨nofun, by omega⟩
  · have hafter : (i + 1) / len = 1 := hlast ▸ Nat.div_self i.succ_pos
    simp only [openSlot, Nat.mul_one, hbefore, hafter]
    exact ⟨fun _ => by omega, fun _ => rfl⟩

/-! ### A run of slots (R127) -/

theorem openSlots_succ (a m : Nat) :
    openSlots count len a (m + 1) = openSlots count len a m + (openSlot count len ((a + m) % len)).toNat := by
  cases h : openSlot count len ((a + m) % len) <;> simp [openSlots, List.range_succ, h]

/-- The open slots of a run are what the rounded-down share gains over the run. -/
theorem mul_div_add_openSlots (hpos : 0 < len) (hle : count ≤ len) (a m : Nat) :
    a * count / len + openSlots count len a m = (a + m) * count / len := by
  induction m with
  | zero => rfl
  | succ m ih =>
    rw [openSlots_succ, openSlot_mod hpos, ← Nat.add_assoc, ih, ← Nat.add_assoc,
      succ_mul_div_eq_add_openSlot hpos hle]

theorem openSlots_repetition (hpos : 0 < len) (hle : count ≤ len) : openSlots count len 0 len = count := by
  have hgain := mul_div_add_openSlots hpos hle 0 len
  rwa [Nat.zero_mul, Nat.zero_div, Nat.zero_add, Nat.zero_add, Nat.mul_div_cancel_left _ hpos] at hgain

/-- Rounding down a sum gives the sum of the rounded-down parts or one more: the run's start does not matter. -/
theorem openSlots_eq_or_succ (hpos : 0 < len) (hle : count ≤ len) (a m : Nat) :
    openSlots count len a m = m * count / len ∨ openSlots count len a m = m * count / len + 1 := by
  have hgain := mul_div_add_openSlots hpos hle a m
  rw [Nat.add_mul, Nat.add_div hpos, Nat.add_assoc] at hgain
  have hrun := Nat.add_left_cancel hgain
  split at hrun
  · exact .inr hrun
  · exact .inl hrun

end Pattern

/-- Settles O49: one slot's gain of the rounded-down share, summed along the run, and the four rows of R127's table evaluated. -/
theorem patternsAreEven : Obligations.PatternsAreEven := by
  refine ⟨fun count len hone hle => ?_, by decide, by decide, by decide, by decide⟩
  have hpos : 0 < len := Nat.lt_of_lt_of_le hone hle
  refine ⟨fun i _ => ?slot, openSlots_repetition hpos hle, fun a m _ => openSlots_eq_or_succ hpos hle a m,
    fun i _ => openSlot_full hpos i, fun i hi => openSlot_one_iff hi⟩
  case slot =>
    rw [succ_mul_div_eq_add_openSlot hpos hle, Nat.add_sub_cancel_left]
    cases openSlot count len i
    case false => exact .inl ⟨rfl, rfl⟩
    case true => exact .inr ⟨rfl, rfl⟩

end Sys2Proof.Machine
end

section
/-! PROOFS. The Request Handler's checks: the kind table as a function of the kind, one rule for each check of R161 on a
request's kind, and the statement read off by kinds (Chapter 9). -/

namespace Sys2Proof.Machine

/-! ### The kind table (R154) -/

/-- The number of parameter bytes of a kind; PROFILE BLOCK's follows its block. -/
def Kind.paramCount : Kind → Option Nat
  | .getAlert | .getShelf | .getPools | .shelfReset | .profileDiscard | .profileCommit => some 0
  | .getBay | .setAlertMask | .getHistory | .unpinBay | .releaseBayLink | .profileRead => some 1
  | .dropBurst | .getCaptureCounters | .getSensor | .getLinkCounters | .setAlertGroups => some 2
  | .setDemand | .pinBay => some 3
  | .setCap => some 4
  | .askBurst => some 7
  | .profileBlock => none

/-- The kinds open to bay links that carry a selector. -/
def Kind.carriesSelector : Kind → Bool
  | .getBay | .setDemand | .askBurst | .dropBurst => true
  | _ => false

section Kinds
variable {kind : Kind} {b : Byte} {n : Nat}

theorem Kind.mem_all (kind : Kind) : kind ∈ Kind.all := by cases kind <;> decide

/-- Chapter 8's table as the statements list it is the model's kinds with their codes and counts. -/
theorem kindTable_eq_filterMap :
    kindTable = Kind.all.filterMap fun kind => kind.paramCount.map fun n => (kind.code, n) := rfl

theorem mem_kindTable_iff : (b, n) ∈ kindTable ↔ ∃ kind : Kind, kind.paramCount = some n ∧ kind.code = b := by
  simp [kindTable_eq_filterMap, Kind.mem_all]

/-- PROFILE BLOCK is the one kind that the table does not list with a number. -/
theorem Kind.paramCount_eq_none_iff : kind.paramCount = none ↔ kind = .profileBlock := by
  cases kind <;> simp [Kind.paramCount]

/-- The codes that check 1 lets past are those of the kinds. -/
theorem code_known_iff : (b = 0x40 ∨ ∃ n, (b, n) ∈ kindTable) ↔ ∃ kind : Kind, kind.code = b := by
  simp only [mem_kindTable_iff]
  constructor
  · rintro (rfl | ⟨_, kind, -, hcode⟩)
    · exact ⟨.profileBlock, rfl⟩
    · exact ⟨kind, hcode⟩
  · rintro ⟨kind, rfl⟩
    cases hcount : kind.paramCount with
    | none => exact .inl (by rw [Kind.paramCount_eq_none_iff.mp hcount]; rfl)
    | some n => exact .inr ⟨n, kind, hcount, rfl⟩

theorem Kind.shelfOnly_iff : kind.shelfOnly = true ↔ 0x20 ≤ kind.code.toNat := by
  cases kind <;> decide

theorem Kind.shelfOnly_eq_false_iff : kind.shelfOnly = false ↔ kind.code.toNat < 0x20 := by
  rw [← Bool.not_eq_true, Kind.shelfOnly_iff, Nat.not_le]

theorem Kind.carriesSelector_iff : kind.carriesSelector = true ↔
    kind.code = 0x10 ∨ kind.code = 0x11 ∨ kind.code = 0x12 ∨ kind.code = 0x13 := by
  cases kind <;> decide

theorem Kind.needsBinding_iff : kind.needsBinding = true ↔ kind.carriesSelector = true ∨ kind.code = 0x16 := by
  cases kind <;> decide

theorem Kind.needsBinding_of_alert (halert : kind.code = 0x14 ∨ kind.code = 0x15) : kind.needsBinding = false := by
  cases kind <;> revert halert <;> decide

theorem Kind.shelfOnly_of_carriesSelector (hsel : kind.carriesSelector = true) : kind.shelfOnly = false := by
  cases kind <;> simp_all [Kind.carriesSelector, Kind.shelfOnly]

end Kinds

/-! ### The checks in order (R161) -/

section Checks
variable {s : State} {k : LinkId} {i : Fin 8} {kind : Kind} {code tag sel : Byte} {params rest : List Byte}

theorem State.unbound_iff : s.unbound k = true ↔ ∃ i, k = .bay i ∧ s.bindings.get i = [] := by
  cases k <;> simp [State.unbound]

/-- Check 1. -/
theorem answer_of_unknown (hunknown : ∀ kind : Kind, kind.code ≠ code) :
    answer s k ⟨code, tag, params⟩ = refuse s .kind := by
  have hnone : Kind.ofCode code = none := by simpa [Kind.ofCode, Kind.mem_all] using hunknown
  simp only [answer, hnone]

/-- Check 2. -/
theorem answer_of_shelfOnly (hshelf : kind.shelfOnly = true) (hlink : k ≠ .shelf) :
    answer s k ⟨kind.code, tag, params⟩ = refuse s .access := by
  simp [answer_known, hshelf, hlink]

/-- Check 3. -/
theorem answer_of_unbound (hopen : kind.shelfOnly = false) (hneeds : kind.needsBinding = true)
    (hunbound : s.unbound k = true) : answer s k ⟨kind.code, tag, params⟩ = refuse s .notBound := by
  simp [answer_known, hopen, hneeds, hunbound]

/-- Checks 1 to 3 passed. -/
theorem answer_of_passed (hlink : k = .shelf ∨ kind.shelfOnly = false)
    (hbound : kind.needsBinding = false ∨ s.unbound k = false) :
    answer s k ⟨kind.code, tag, params⟩ = dispatch s k kind params := by
  have haccess : (kind.shelfOnly && k != .shelf) = false := by
    rcases hlink with rfl | hopen
    · simp
    · simp [hopen]
  rw [answer_known, haccess, Bool.and_eq_false_iff.mpr hbound]
  rfl

/-- The links and kinds that R161 lets past checks 2 and 3, by the kind's code. -/
theorem answer_of_open (hopen : k = .shelf ∨ kind.code.toNat < 0x20 ∧
    (¬s.unbound k = true ∨ kind.code = 0x14 ∨ kind.code = 0x15)) :
    answer s k ⟨kind.code, tag, params⟩ = dispatch s k kind params := by
  rcases hopen with rfl | ⟨hopen, hbound | halert⟩
  · exact answer_of_passed (.inl rfl) (.inr rfl)
  · exact answer_of_passed (.inr (Kind.shelfOnly_eq_false_iff.mpr hopen)) (.inr (Bool.not_eq_true _ ▸ hbound))
  · exact answer_of_passed (.inr (Kind.shelfOnly_eq_false_iff.mpr hopen)) (.inl (Kind.needsBinding_of_alert halert))

/-- Check 4. -/
theorem dispatch_of_count_ne {n : Nat} (hcount : kind.paramCount = some n) (hlen : params.length ≠ n) :
    dispatch s k kind params = refuse s .param := by
  cases kind
  case profileBlock => cases hcount
  case getAlert | getShelf | getPools | shelfReset | profileDiscard | profileCommit =>
    match params with
    | [] => exact absurd (Option.some.inj hcount) hlen
    | _ :: _ => rfl
  case getBay | setAlertMask | getHistory | unpinBay | releaseBayLink | profileRead =>
    match params with
    | [_] => exact absurd (Option.some.inj hcount) hlen
    | [] | _ :: _ :: _ => rfl
  case dropBurst | getCaptureCounters | getSensor | getLinkCounters | setAlertGroups =>
    match params with
    | [_, _] => exact absurd (Option.some.inj hcount) hlen
    | [] | [_] | _ :: _ :: _ :: _ => rfl
  case setDemand | pinBay =>
    match params with
    | [_, _, _] => exact absurd (Option.some.inj hcount) hlen
    | [] | [_] | [_, _] | _ :: _ :: _ :: _ :: _ => rfl
  case setCap =>
    match params with
    | [_, _, _, _] => exact absurd (Option.some.inj hcount) hlen
    | [] | [_] | [_, _] | [_, _, _] | _ :: _ :: _ :: _ :: _ :: _ => rfl
  case askBurst =>
    match params with
    | [_, _, _, _, _, _, _] => exact absurd (Option.some.inj hcount) hlen
    | [] | [_] | [_, _] | [_, _, _] | [_, _, _, _] | [_, _, _, _, _] | [_, _, _, _, _, _]
    | _ :: _ :: _ :: _ :: _ :: _ :: _ :: _ :: _ => rfl

/-- Check 4 for PROFILE BLOCK, whose number of parameter bytes follows its block (R178). -/
theorem dispatch_profileBlock_of_size_ne (hsize : params = [] ∨ ∃ block body, params = block :: body ∧
    blockSize block.toNat ≠ some body.length) : dispatch s k .profileBlock params = refuse s .param := by
  rcases hsize with rfl | ⟨block, body, rfl, hsize⟩
  · rfl
  · rw [dispatch_profileBlock, serveProfileBlock, if_neg hsize]

/-- Past check 4, a kind that carries a selector has a service that sees the bay and neither link nor selector. -/
theorem exists_service_of_carriesSelector (s : State) (hsel : kind.carriesSelector = true)
    (hcount : kind.paramCount = some (rest.length + 1)) :
    ∃ service : Bay → Answer, ∀ k sel, dispatch s k kind (sel :: rest) = withBay s k sel service := by
  have hlen {m : Nat} (hm : kind.paramCount = some (m + 1)) : rest.length = m :=
    Nat.succ.inj (Option.some.inj (hcount.symm.trans hm))
  cases kind <;> cases hsel
  case getBay =>
    match rest, hlen rfl with
    | [], _ => exact ⟨_, fun _ _ => rfl⟩
  case setDemand =>
    match rest, hlen rfl with
    | [_, _], _ => exact ⟨_, fun _ _ => rfl⟩
  case askBurst =>
    match rest, hlen rfl with
    | [_, _, _, _, _, _], _ => exact ⟨_, fun _ _ => rfl⟩
  case dropBurst =>
    match rest, hlen rfl with
    | [_], _ => exact ⟨_, fun _ _ => rfl⟩

/-- Past checks 1 to 4, a request whose kind carries a selector waits only for the bay that its selector names. -/
theorem answer_of_carriesSelector (s : State) (tag : Byte) (hsel : kind.carriesSelector = true)
    (hcount : kind.paramCount = some (rest.length + 1)) :
    ∃ service : Bay → Answer, ∀ k sel, s.unbound k = false →
      answer s k ⟨kind.code, tag, sel :: rest⟩ = withBay s k sel service := by
  obtain ⟨service, hservice⟩ := exists_service_of_carriesSelector s hsel hcount
  exact ⟨service, fun k sel hbound =>
    (answer_of_passed (.inr (Kind.shelfOnly_of_carriesSelector hsel)) (.inr hbound)).trans (hservice k sel)⟩

/-- A selector that is not 0, or 1 on a link with two bays, names none (R160). -/
theorem boundBay_of_outside {bound : List Bay} {i : Nat} (hzero : i ≠ 0) (hone : i ≠ 1 ∨ bound.length < 2) :
    boundBay bound i = none := by
  fun_cases boundBay bound i
  case case1 => exact absurd rfl hzero
  case case2 => simp at hone
  case case3 => rfl

/-- Check 5. -/
theorem withBay_of_outside {service : Bay → Answer} (hzero : sel ≠ 0)
    (hone : sel ≠ 1 ∨ (s.bindings.get i).length < 2) : withBay s (.bay i) sel service = refuse s .access := by
  have hrelocate : s.relocate (.bay i) sel = .error .access := by
    rw [State.relocate, boundBay_of_outside (BitVec.toNat_ne.mp hzero) (hone.imp_left BitVec.toNat_ne.mp)]
  rw [withBay, hrelocate]

/-- The shelf link names every bay, by its own number (R162). -/
theorem reaches_shelf_byte1 (bay : Bay) : s.reaches .shelf (byte1 bay.val) bay := by
  simp [State.reaches, byte1]; omega

theorem serveGetAlert_status : (serveGetAlert s k).status = .ok := by
  simp only [serveGetAlert]
  split
  · rfl
  · split <;> rfl

end Checks

/-- Settles O22: each clause is the rule of its check, on the kind that the request's code names. -/
theorem requestHandlerChecksInOrder : Obligations.RequestHandlerChecksInOrder := by
  intro s k ⟨code, tag, params⟩
  simp only [code_known_iff, Nat.not_le, ← State.unbound_iff]
  refine ⟨?kind, ?access, ?notBound, ?count, ?selector, ?getAlert, ?setAlertMask⟩
  case kind => exact fun hunknown => answer_of_unknown (not_exists.mp hunknown)
  case access =>
    rintro ⟨kind, rfl⟩ hshelf hlink
    exact answer_of_shelfOnly (Kind.shelfOnly_iff.mpr hshelf) hlink
  case notBound =>
    rintro ⟨kind, rfl⟩ hopen hunbound hneeds
    exact answer_of_unbound (Kind.shelfOnly_eq_false_iff.mpr hopen)
      (Kind.needsBinding_iff.mpr (hneeds.imp_left Kind.carriesSelector_iff.mpr)) hunbound
  case count =>
    intro hopen
    have hdispatch {kind : Kind} (hcode : kind.code = code) :
        answer s k ⟨code, tag, params⟩ = dispatch s k kind params :=
      hcode ▸ answer_of_open (hcode ▸ hopen)
    refine ⟨fun n hmem hlen => ?_, fun hblock hsize => ?_⟩
    · obtain ⟨kind, hcount, hcode⟩ := mem_kindTable_iff.mp hmem
      exact (hdispatch hcode).trans (dispatch_of_count_ne hcount hlen)
    · exact (hdispatch (kind := .profileBlock) hblock.symm).trans (dispatch_profileBlock_of_size_ne hsize)
  case selector =>
    rintro i _ sel rest rfl hbay hbound hmem rfl rfl
    obtain ⟨kind, hcount, rfl⟩ := mem_kindTable_iff.mp hmem
    obtain ⟨service, hanswer⟩ := answer_of_carriesSelector s tag (Kind.carriesSelector_iff.mpr hbay) hcount
    refine ⟨fun hzero hone => ?_, fun bay hreach => ?_⟩
    · exact (hanswer _ _ (by simpa [State.unbound] using hbound)).trans (withBay_of_outside hzero hone)
    · rw [hanswer _ sel hreach.bound, hanswer .shelf _ rfl, withBay_of_reaches hreach,
        withBay_of_reaches (reaches_shelf_byte1 bay)]
  case getAlert =>
    rintro rfl rfl
    have hserved : answer s k ⟨Kind.getAlert.code, tag, []⟩ = serveGetAlert s k :=
      answer_of_passed (.inr rfl) (.inl rfl)
    exact (congrArg Answer.status hserved).trans serveGetAlert_status
  case setAlertMask =>
    rintro mask rfl rfl
    have hserved : answer s k ⟨Kind.setAlertMask.code, tag, [mask]⟩ = serveSetAlertMask s k mask :=
      answer_of_passed (.inr rfl) (.inl rfl)
    exact congrArg Answer.status hserved

end Sys2Proof.Machine
end

section
/-! PROOFS. SET ALERT GROUPS: the link its parameter names, its service at that link's alert state, and the ALT levels, which
no group mask enters (Chapter 10). -/

namespace Sys2Proof.Machine

/-! ### The link a byte names (R154) -/

theorem linkOfNat_val (i : Fin 8) : linkOfNat i.val = some (.bay i) := by
  simp [linkOfNat, bayOfNat, i.isLt.ne]

theorem linkOfNat_of_above {n : Nat} (habove : 8 < n) : linkOfNat n = none := by
  simp only [linkOfNat, bayOfNat, if_neg habove.ne', dif_neg (show ¬n < 8 by omega), Option.map_none]

/-! ### What ALT depends on (R173) -/

section Alt
variable {s : State} {j k : LinkId}

/-- A link's new alert state moves no ALT level unless it changes whether a pending cause is unmasked. -/
theorem State.setAlert_alt {a : AlertState} (hsame : a.unmasked = (s.alert j).unmasked) :
    (s.setAlert j a).alt k = s.alt k := by
  rw [State.alt, State.alt, State.setAlert_inReset, State.setAlert_alert]
  split
  case isTrue hlink => rw [hsame, hlink]
  case isFalse => rfl

/-- Neither a request's arrival nor its reply moves an ALT level. -/
@[simp] theorem State.replied_alt (t : Nat) (r : Request) (status : Status) (data : List Byte) :
    (s.replied t j r status data).alt k = s.alt k := rfl

end Alt

/-! ### The service (R175) -/

section AlertGroups
variable {s : State} {k : LinkId} {link groups : Byte} {t : Nat} {tag : Byte}

theorem serveSetAlertGroups_of_link (hlink : linkOfNat link.toNat = some k) :
    serveSetAlertGroups s link groups =
      ⟨s.setAlert k { s.alert k with groups := storedGroups k groups }, .ok, [link, storedGroups k groups]⟩ := by
  rw [serveSetAlertGroups, hlink]

theorem serveSetAlertGroups_of_none (hlink : linkOfNat link.toNat = none) :
    serveSetAlertGroups s link groups = refuse s .param := by
  rw [serveSetAlertGroups, hlink]

/-- The group mask takes no part in ALT. -/
theorem serveSetAlertGroups_alt : (serveSetAlertGroups s link groups).state.alt k = s.alt k := by
  cases hlink : linkOfNat link.toNat with
  | none => rw [serveSetAlertGroups_of_none hlink]; rfl
  | some j => rw [serveSetAlertGroups_of_link hlink]; exact State.setAlert_alt rfl

/-- The service looks at nothing that the arrival of its request has changed. -/
theorem serveSetAlertGroups_atService (r : Request) :
    serveSetAlertGroups (s.atService k t r) link groups = (serveSetAlertGroups s link groups).atService k t r := by
  cases hlink : linkOfNat link.toNat with
  | none => rw [serveSetAlertGroups_of_none hlink, serveSetAlertGroups_of_none hlink, refuse_atService]
  | some j => rw [serveSetAlertGroups_of_link hlink, serveSetAlertGroups_of_link hlink]; rfl

/-! ### The whole request on an idle link -/

theorem exec_setAlertGroups_bay {i : Fin 8} (hidle : s.linkIdle (.bay i) 2 t) :
    exec (.setAlertGroups t (.bay i) tag link groups) s =
      .next (s.replied t (.bay i) ⟨0x35, tag, [link, groups]⟩ .access []) :=
  requestEvent_replied (kind := .setAlertGroups) (params := [link, groups]) hidle (by simp)
    (answer_of_shelfOnly rfl nofun) rfl

/-- On the idle shelf link SET ALERT GROUPS is answered as its service in the state before says. -/
theorem exec_setAlertGroups_shelf {a : Answer} (hidle : s.linkIdle .shelf 2 t)
    (hservice : serveSetAlertGroups s link groups = a) :
    exec (.setAlertGroups t .shelf tag link groups) s =
      .next (a.state.replied t .shelf ⟨0x35, tag, [link, groups]⟩ a.status a.data) := by
  have hport : a.state.port .shelf = s.port .shelf := hservice ▸ (serveSetAlertGroups_keeps s .shelf link groups).2
  refine requestEvent_replied (kind := .setAlertGroups) (params := [link, groups]) hidle (by simp) ?_ hport
  rw [answer_of_passed (.inl rfl) (.inl rfl), dispatch_setAlertGroups, serveSetAlertGroups_atService, hservice]
  rfl

end AlertGroups

/-- Settles O31: a bay link fails the access check; on the shelf link the service goes by the link that its parameter
names, and changes a group mask, on which no ALT level depends. -/
theorem alertGroupsAreReplaced : Obligations.AlertGroupsAreReplaced := by
  intro t tag link groups s r
  refine ⟨fun i hidle => exec_setAlertGroups_bay hidle, fun hidle => ⟨?above, ?bay, ?shelf⟩, ?alt⟩
  case above =>
    exact fun habove => exec_setAlertGroups_shelf hidle (serveSetAlertGroups_of_none (linkOfNat_of_above habove))
  case bay =>
    exact fun i hlink =>
      exec_setAlertGroups_shelf hidle (serveSetAlertGroups_of_link (hlink ▸ linkOfNat_val i))
  case shelf =>
    exact fun hlink => exec_setAlertGroups_shelf hidle (serveSetAlertGroups_of_link (k := .shelf) (by rw [hlink]; rfl))
  case alt =>
    intro s' k hnext hidle
    rw [exec_setAlertGroups_shelf hidle rfl] at hnext
    cases hnext
    rw [State.replied_alt, serveSetAlertGroups_alt]

end Sys2Proof.Machine
end

section
/-! PROOFS. What a step can do, said once: which changes everything on a link, every service of a request and every command is
made of. An invariant that survives each of these changes survives every step. -/

namespace Sys2Proof.Machine

/-! ### What a service can change (R161 to R181) -/

/-- On link `k` some selector may name bay `n`: any bay on the shelf link, the bays of its list on a bay link (R160, R162). -/
def State.mayName (s : State) (k : LinkId) (n : Bay) : Prop := ∀ i, k = .bay i → n ∈ s.bindings.get i

/-- The states a service of a request on link `k` can leave, one case for each effect a kind can have. -/
inductive Served (s : State) (k : LinkId) : State → Prop
  | same : Served s k s
  | demand (n : Bay) (v : Nat) (hname : s.mayName k n) (hocc : s.occupied n = true) :
    Served s k (s.setAlloc { s.alloc with demand := s.alloc.demand.set n (some (min v (s.bayBlock n).peak)) })
  | pin (n : Bay) (v : Nat) (hshelf : k = .shelf) (hocc : s.occupied n = true) :
    Served s k
      ((s.setAlloc { s.alloc with pin := s.alloc.pin.set n (some (min v (s.bayBlock n).peak)) }).withdrawForPin n)
  | unpin (n : Bay) (hshelf : k = .shelf) :
    Served s k (s.setAlloc { s.alloc with pin := s.alloc.pin.set n none })
  | ask (n : Bay) (amount duration : Nat) (wait tag : Byte) (hname : s.mayName k n)
    (hrunning : s.alloc.engine = .running) (hgood : ¬s.badAsk n amount duration = true)
    (hpin : s.alloc.pin.get n = none) (hfree : ¬s.queued n) :
    Served s k (s.setBurst { s.burst with
      queue := s.burst.queue ++ [s.newEntry n amount duration wait.toNat tag] })
  | dropEntry (n : Bay) (hname : s.mayName k n) : Served s k (s.setBurst (s.burst.dropEntry n))
  | dropActive (n : Bay) (hname : s.mayName k n) : Served s k (s.setBurst (s.burst.dropActive n))
  | alertRead (c : Fin 8) :
    Served s k (s.setAlert k { s.alert k with pendingCauses := (s.alert k).pendingCauses.set c none })
  | mask (m : Byte) : Served s k (s.setAlert k { s.alert k with mask := storedMask k m })
  | groups (j : LinkId) (g : Byte) (hshelf : k = .shelf) :
    Served s k (s.setAlert j { s.alert j with groups := storedGroups j g })
  | sticky (hshelf : k = .shelf) : Served s k (s.setAlloc { s.alloc with stickyShort := false })
  | poolsRead (hshelf : k = .shelf) (hrunning : s.alloc.engine = .running) : Served s k (s.setBurst s.burst.clearExhausted)
  | causesCleared (n : Bay) (hshelf : k = .shelf) : Served s k (s.setDecoder n (s.capture.get n).clearCauses)
  | sensorCleared (n : Bay) (hshelf : k = .shelf) :
    Served s k (s.setSensor n { s.sensors.get n with implCount := 0, loss := 0 })
  | countersCleared (j : LinkId) (hshelf : k = .shelf) :
    Served s k (s.setPort j { s.port j with counters := LinkCounters.zero })
  | caps (p : Profile) (normal derated : Nat) (hshelf : k = .shelf) (hinstalled : s.store.installed = some p) :
    Served s k (s.setStore { s.store with installed := some (p.setCaps normal derated) })
  | linkReset (i : Fin 8) (hshelf : k = .shelf) : Served s k (s.bayLinkReset i)
  | armed (hshelf : k = .shelf) : Served s k (s.setArmed true)
  | staged (b : Profile) (w : BitVec 12) (hshelf : k = .shelf) :
    Served s k (s.setStore { s.store with staging := b, written := w })
  | waiting (hshelf : k = .shelf) (hwaiting : s.store.waiting = none) (hpass : s.store.firstFailure = none)
    (hrunning : s.alloc.engine = .running) :
    Served s k (s.setStore { s.store with waiting := some s.store.staging })
  | started (hshelf : k = .shelf) (hwaiting : s.store.waiting = none) (hpass : s.store.firstFailure = none)
    (hstopped : s.alloc.engine = .stopped) :
    Served s k ((s.setStore { s.store with waiting := some s.store.staging }).takeBoundary s.now)

section Services
variable {s : State} {k : LinkId}

theorem boundBay_mem {bound : List Bay} {i : Nat} {n : Bay} (h : boundBay bound i = some n) : n ∈ bound := by
  unfold boundBay at h
  split at h
  · cases h; exact List.mem_cons_self
  · cases h; exact List.mem_cons_of_mem _ List.mem_cons_self
  · cases h

/-- A selector that is relocated names a bay that its link may name. -/
theorem State.mayName_of_relocate {sel : Byte} {n : Bay} (h : s.relocate k sel = .ok n) : s.mayName k n := by
  rintro i rfl
  simp only [State.relocate] at h
  split at h
  · next hbound => cases h; exact boundBay_mem hbound
  · cases h

/-- A service for a selector's bay is refused, or is the bay's for one that the link may name. -/
theorem withBay_served {sel : Byte} {service : Bay → Answer}
    (h : ∀ n, s.mayName k n → Served s k (service n).state) : Served s k (withBay s k sel service).state := by
  unfold withBay
  split
  · next n hn => exact h n (State.mayName_of_relocate hn)
  · exact .same

theorem serveSetDemand_served {n : Bay} {v : Nat} (hname : s.mayName k n) : Served s k (serveSetDemand s n v).state := by
  unfold serveSetDemand
  split
  · next hocc => exact .demand n v hname hocc
  · exact .same

theorem servePinBay_served {n : Bay} {v : Nat} (hshelf : k = .shelf) : Served s k (servePinBay s n v).state := by
  unfold servePinBay
  split
  · next hocc => exact .pin n v hshelf hocc
  · exact .same

theorem serveUnpinBay_served {n : Bay} (hshelf : k = .shelf) : Served s k (serveUnpinBay s n).state := by
  unfold serveUnpinBay
  split
  · split
    · exact .unpin n hshelf
    · exact .same
  · exact .same

theorem serveAskBurst_served {n : Bay} {amount duration : Nat} {wait tag : Byte} (hname : s.mayName k n) :
    Served s k (serveAskBurst s n amount duration wait.toNat tag).state := by
  cases hengine : s.alloc.engine with
  | stopped => rw [serveAskBurst_of_stopped hengine]; exact .same
  | running =>
    by_cases hbad : s.badAsk n amount duration = true
    · rw [serveAskBurst_of_bad hengine hbad]; exact .same
    · by_cases hpin : s.alloc.pin.get n = none
      · by_cases hqueued : s.queued n
        · rw [serveAskBurst_of_queued hengine hbad hpin hqueued]; exact .same
        · rw [serveAskBurst_of_passed hengine hbad hpin hqueued]
          exact .ask n amount duration wait tag hname hengine hbad hpin hqueued
      · rw [serveAskBurst_of_pinned hengine hbad hpin]; exact .same

theorem serveDropBurst_served {n : Bay} {choice : Nat} (hname : s.mayName k n) :
    Served s k (serveDropBurst s n choice).state := by
  unfold serveDropBurst
  split
  · exact .same
  · split
    · split
      · exact .dropEntry n hname
      · exact .same
    · split
      · exact .dropActive n hname
      · exact .same

theorem serveGetAlert_served : Served s k (serveGetAlert s k).state := by
  simp only [serveGetAlert]
  split
  · exact .same
  · split
    · exact .same
    · exact .alertRead _

theorem serveGetHistory_state {count : Nat} : (serveGetHistory s k count).state = s := by
  unfold serveGetHistory; split <;> rfl

theorem serveGetPools_served (hshelf : k = .shelf) : Served s k (serveGetPools s).state := by
  unfold serveGetPools
  cases hengine : s.alloc.engine with
  | stopped => rw [if_pos rfl]; exact .same
  | running => rw [if_neg nofun]; exact .poolsRead hshelf hengine

theorem serveGetCaptureCounters_served {bay choice : Nat} (hshelf : k = .shelf) :
    Served s k (serveGetCaptureCounters s bay choice).state := by
  unfold serveGetCaptureCounters
  split
  · exact .same
  · next n _ =>
    split
    · exact .same
    · dsimp only
      split
      · exact .causesCleared n hshelf
      · exact .same

theorem serveGetSensor_served {bay choice : Nat} (hshelf : k = .shelf) :
    Served s k (serveGetSensor s bay choice).state := by
  unfold serveGetSensor
  split
  · exact .same
  · next n _ =>
    split
    · exact .same
    · dsimp only
      split
      · exact .sensorCleared n hshelf
      · exact .same

theorem serveGetLinkCounters_served {link choice : Nat} (hshelf : k = .shelf) :
    Served s k (serveGetLinkCounters s link choice).state := by
  unfold serveGetLinkCounters
  split
  · exact .same
  · next j _ =>
    split
    · exact .same
    · dsimp only
      split
      · exact .countersCleared j hshelf
      · exact .same

theorem serveSetCap_served {normal derated : Nat} (hshelf : k = .shelf) :
    Served s k (serveSetCap s normal derated).state := by
  unfold serveSetCap
  split
  · exact .same
  · exact .same
  · next p _ hinstalled =>
    split
    · exact .same
    · exact .caps p normal derated hshelf hinstalled

theorem serveReleaseBayLink_served {link : Nat} (hshelf : k = .shelf) :
    Served s k (serveReleaseBayLink s link).state := by
  unfold serveReleaseBayLink
  split
  · next i _ => exact .linkReset i hshelf
  · exact .same

theorem serveSetAlertGroups_served {link groups : Byte} (hshelf : k = .shelf) :
    Served s k (serveSetAlertGroups s link groups).state := by
  unfold serveSetAlertGroups
  split
  · next j _ => exact .groups j groups hshelf
  · exact .same

theorem serveProfileBlock_served {block : Nat} {body : List Byte} (hshelf : k = .shelf) :
    Served s k (serveProfileBlock s block body).state := by
  unfold serveProfileBlock
  split
  · split
    · exact .staged _ _ hshelf
    · exact .same
  · exact .same

theorem serveProfileDiscard_served (hshelf : k = .shelf) : Served s k (serveProfileDiscard s).state := by
  unfold serveProfileDiscard ProfileStore.discard
  split
  · exact .staged _ _ hshelf
  · exact .staged _ _ hshelf

theorem serveProfileRead_state {block : Nat} : (serveProfileRead s block).state = s := by
  unfold serveProfileRead
  repeat' split
  all_goals rfl

theorem serveProfileCommit_of_running (hwaiting : s.store.waiting = none) (hpass : s.store.firstFailure = none)
    (hrunning : s.alloc.engine = .running) :
    serveProfileCommit s =
      ⟨s.setStore { s.store with waiting := some s.store.staging }, .ok, bytes4 (s.alloc.epoch + 1).toNat⟩ := by
  rw [serveProfileCommit, if_neg (by simp [hwaiting]), hpass]
  simp only [hrunning]

theorem serveProfileCommit_of_stopped (hwaiting : s.store.waiting = none) (hpass : s.store.firstFailure = none)
    (hstopped : s.alloc.engine = .stopped) :
    serveProfileCommit s =
      ⟨(s.setStore { s.store with waiting := some s.store.staging }).takeBoundary s.now, .ok, bytes4 1⟩ := by
  rw [serveProfileCommit, if_neg (by simp [hwaiting]), hpass]
  simp only [hstopped]

theorem serveProfileCommit_served (hshelf : k = .shelf) : Served s k (serveProfileCommit s).state := by
  cases hwaiting : s.store.waiting with
  | some p => rw [serveProfileCommit, if_pos (by simp [hwaiting])]; exact .same
  | none =>
    cases hpass : s.store.firstFailure with
    | some failure => rw [serveProfileCommit, if_neg (by simp [hwaiting]), hpass]; exact .same
    | none =>
      cases hengine : s.alloc.engine with
      | running =>
        rw [serveProfileCommit_of_running hwaiting hpass hengine]
        exact .waiting hshelf hwaiting hpass hengine
      | stopped =>
        have hstate : (serveProfileCommit s).state =
            (s.setStore { s.store with waiting := some s.store.staging }).takeBoundary s.now := by
          rw [serveProfileCommit_of_stopped hwaiting hpass hengine]
        rw [hstate]
        exact Served.started hshelf hwaiting hpass hengine

/-- A number of parameter bytes that is not the kind's changes nothing, and each kind does what its service does. -/
theorem dispatch_served (kind : Kind) (params : List Byte) (hlink : kind.shelfOnly = true → k = .shelf) :
    Served s k (dispatch s k kind params).state := by
  by_cases hcount : kind.paramCount.elim False (params.length ≠ ·)
  · cases hn : kind.paramCount with
    | none => rw [hn] at hcount; exact hcount.elim
    | some n => rw [hn] at hcount; rw [dispatch_of_count_ne hn hcount]; exact .same
  · cases kind <;> simp only [Kind.paramCount, Option.elim, not_not, not_false_eq_true] at hcount
    case profileBlock =>
      cases params with
      | nil => exact .same
      | cons block body => exact serveProfileBlock_served (hlink rfl)
    case getBay => match params, hcount with | [_], _ => exact withBay_served fun _ _ => .same
    case setDemand => match params, hcount with | [_, _, _], _ => exact withBay_served fun _ => serveSetDemand_served
    case askBurst => match params, hcount with | [_, _, _, _, _, _, _], _ => exact withBay_served fun _ => serveAskBurst_served
    case dropBurst => match params, hcount with | [_, _], _ => exact withBay_served fun _ => serveDropBurst_served
    case getAlert => match params, hcount with | [], _ => exact serveGetAlert_served
    case setAlertMask => match params, hcount with | [_], _ => exact .mask _
    case getHistory => match params, hcount with | [_], _ => exact serveGetHistory_state ▸ .same
    case getShelf => match params, hcount with | [], _ => exact .sticky (hlink rfl)
    case getPools => match params, hcount with | [], _ => exact serveGetPools_served (hlink rfl)
    case getCaptureCounters => match params, hcount with | [_, _], _ => exact serveGetCaptureCounters_served (hlink rfl)
    case getSensor => match params, hcount with | [_, _], _ => exact serveGetSensor_served (hlink rfl)
    case getLinkCounters => match params, hcount with | [_, _], _ => exact serveGetLinkCounters_served (hlink rfl)
    case pinBay => match params, hcount with | [_, _, _], _ => exact withBay_served fun _ _ => servePinBay_served (hlink rfl)
    case unpinBay => match params, hcount with | [_], _ => exact withBay_served fun _ _ => serveUnpinBay_served (hlink rfl)
    case setCap => match params, hcount with | [_, _, _, _], _ => exact serveSetCap_served (hlink rfl)
    case releaseBayLink => match params, hcount with | [_], _ => exact serveReleaseBayLink_served (hlink rfl)
    case shelfReset => match params, hcount with | [], _ => exact .armed (hlink rfl)
    case setAlertGroups => match params, hcount with | [_, _], _ => exact serveSetAlertGroups_served (hlink rfl)
    case profileDiscard => match params, hcount with | [], _ => exact serveProfileDiscard_served (hlink rfl)
    case profileRead => match params, hcount with | [_], _ => exact serveProfileRead_state ▸ .same
    case profileCommit => match params, hcount with | [], _ => exact serveProfileCommit_served (hlink rfl)

/-- What the Request Handler can leave (R161). -/
theorem answer_served (r : Request) : Served s k (answer s k r).state := by
  unfold answer
  split
  · exact .same
  · next kind _ =>
    split
    · exact .same
    · next hopen =>
      split
      · exact .same
      · exact dispatch_served kind _ fun hshelf => by simpa [hshelf] using hopen

end Services

/-! ### What happens on a link (Chapter 8) -/

/-- What a predicate must survive to hold on through everything that happens on link `k`, the reset that a served SHELF RESET
arranged left aside. -/
structure KeptOnLink (k : LinkId) (P : State → Prop) : Prop where
  advance : ∀ {s : State} (t : Nat), P s → P (s.advance t)
  setPort : ∀ {s : State} (p : Port), P s → P (s.setPort k p)
  error : ∀ {s : State}, P s → P (s.raiseShelf .linkError (linkErrorVector k))
  linkReset : ∀ {s : State} (i : Fin 8) (t : Nat), k = .bay i → P s → P (s.bayLinkEffects i t)
  service : ∀ {s s' : State}, Served s k s' → P s → P s'

namespace KeptOnLink
variable {k : LinkId} {P : State → Prop} {s : State} (h : KeptOnLink k P)
include h

theorem linkError (c : LinkCause) (rx : RxState) (hs : P s) : P (s.linkError k c rx) := h.error (h.setPort _ hs)

theorem takeLinkGap (t : Nat) (hs : P s) : P (s.takeLinkGap k t) := by
  unfold State.takeLinkGap
  split
  · exact h.linkError _ _ hs
  · exact hs

theorem takeDiscardEnd (t : Nat) (hs : P s) : P (s.takeDiscardEnd k t) := by
  unfold State.takeDiscardEnd
  split
  · exact h.setPort _ hs
  · exact hs

theorem serveHead (hs : P s) : P (s.serveHead k) := by
  unfold State.serveHead
  split
  · exact hs
  · exact h.setPort _ (h.service (answer_served _) hs)

theorem join (r : Request) (hs : P s) : P (s.join k r) := by
  unfold State.join
  dsimp only
  split
  · exact h.serveHead (h.setPort _ hs)
  · exact h.setPort _ hs

theorem receive (b : Byte) (hs : P s) : P (s.receive k b) := by
  unfold State.receive
  split
  · split
    · unfold State.startFrame
      split
      · exact h.setPort _ hs
      · exact h.linkError _ _ hs
    · exact h.linkError _ _ hs
  · split
    · exact h.setPort _ hs
    · exact h.linkError _ _ hs
  · split <;> exact h.setPort _ hs
  · exact h.setPort _ hs
  · unfold State.endFrame
    split
    · exact h.join _ (h.setPort _ hs)
    · exact h.linkError _ _ hs
  · exact hs

theorem takeChar (t : Nat) (hs : P s) : P (s.takeChar k t) := by
  unfold State.takeChar
  split
  · exact hs
  · dsimp only
    split
    · exact h.receive _ (h.setPort _ (h.advance _ hs))
    · exact h.linkError _ _ (h.setPort _ (h.advance _ hs))

theorem breakEffects (t : Nat) (hs : P s) : P (s.breakEffects k t) := by
  unfold State.breakEffects
  dsimp only
  split
  · exact h.linkReset _ t rfl (h.setPort _ hs)
  · exact h.setPort _ (h.setPort _ hs)

theorem countBreak (t : Nat) (hs : P s) : P (s.countBreak k t) := by
  unfold State.countBreak
  split
  · exact h.breakEffects _ (h.linkError _ _ (h.advance _ hs))
  · exact hs

theorem seen (t : Nat) (hs : P s) : P (s.seen k t) := h.setPort _ hs

/-- What falls due on a line before a break: the end of a character and the gap after it. -/
theorem beforeBreak (t u : Nat) (hs : P s) : P ((((s.seen k t).takeChar k u).takeLinkGap k u).takeDiscardEnd k u) :=
  h.takeDiscardEnd _ (h.takeLinkGap _ (h.takeChar _ (h.seen _ hs)))

end KeptOnLink

/-- The same with the reset that a served SHELF RESET arranged, which the shelf link alone takes (R158, R171). -/
structure KeptOnLine (k : LinkId) (P : State → Prop) : Prop extends KeptOnLink k P where
  taken : ∀ {s : State}, k = .shelf → s.shelfResetArmed = true → P s → P s.takeShelfReset

namespace KeptOnLine
variable {k : LinkId} {P : State → Prop} {s : State} (h : KeptOnLine k P)
include h

theorem takeBreak (t : Nat) (hs : P s) : P (s.takeBreak k t) := by
  unfold State.takeBreak
  split
  · next hbreak =>
    simp only [Bool.and_eq_true, beq_iff_eq] at hbreak
    exact h.countBreak _ (h.seen _ (h.taken hbreak.1.2 (by simpa using hbreak.2) (h.countBreak _ hs)))
  · exact h.countBreak _ hs

theorem settleLink (t : Nat) (hs : P s) : P (s.settleLink k t) := h.takeBreak _ (h.beforeBreak t _ hs)

theorem lineChange (t : Nat) (hs : P s) : P (State.lineChange k s t) := h.setPort _ (h.settleLink _ hs)

theorem foldl_lineChange (changes : List Nat) (hs : P s) : P (changes.foldl (State.lineChange k) s) := by
  induction changes generalizing s with
  | nil => exact hs
  | cons x rest ih => exact ih (h.lineChange x hs)

theorem followLine (changes : List Nat) (t : Nat) (hs : P s) : P (s.followLine k changes t) :=
  h.settleLink _ (h.foldl_lineChange changes hs)

theorem charWhen (t : Nat) (condition : Port → RxChar → Bool) (hs : P s) : P (s.charWhen k t condition) := by
  unfold State.charWhen
  split
  · split
    · exact h.settleLink _ hs
    · exact hs
  · exact hs

theorem endBreak (t : Nat) (hs : P s) : P (s.endBreak k t) := by
  unfold State.endBreak
  split
  · exact h.lineChange _ hs
  · exact hs

theorem endReply (t : Nat) (hs : P s) : P (s.endReply k t) := by
  unfold State.endReply
  dsimp only
  split
  · exact hs
  · split
    · next harmed =>
      simp only [Bool.and_eq_true, beq_iff_eq] at harmed
      exact h.taken harmed.1 harmed.2 hs
    · exact h.serveHead (h.setPort _ (h.advance _ hs))

end KeptOnLine

/-! ### The commands of a link -/

section LinkCommands
variable {s s' : State} {k : LinkId} {t : Nat}

theorem event_of_released (effect : State → State) (hreset : s.inReset = false) :
    event t s effect = .next (effect (s.advance t)) := by simp [event, hreset]

theorem eventsUpTo_of_released (effect : State → State) (hreset : s.inReset = false) :
    eventsUpTo t s effect = .next ((effect s).advance t) := by simp [eventsUpTo, hreset]

/-- Every request command sends its request's frame, whatever the kind. -/
theorem exec_of_request {c : Instr} {r : Request} (hc : c.request = some (t, k, r)) (s : State) :
    exec c s = if s.inReset then .next ((s.advance t).lineInReset k true)
      else .next ((s.sendRequest k t r).advance t) := by
  cases c <;> cases hc <;> rfl

/-- What a command of link `k`'s receive or transmit line does out of reset, but for the clock's last move. -/
def lineEffect (c : Instr) (s : State) : State :=
  match c with
  | .requestFrame t k b => s.charWhen k t fun p c => c.is b && match p.rx with
    | .check _ (some _) => true
    | _ => false
  | .noise t k b => s.charWhen k t fun p c => c.is b && p.rx == .hunt && b != startByte
  | .lengthError t k b => s.charWhen k t fun p c => c.is b && p.rx == .length && !lengthGood b.toNat
  | .overrun t k => s.charWhen k t fun p c => c.is startByte && p.rx == .hunt && decide (2 ≤ p.inbox.length)
  | .framing t k => s.charWhen k t fun _ c => !c.stop
  | .linkGap t k | .discardEnd t k | .lineBreak t k => s.settleLink k t
  | .breakEpisodeEnd t k => s.endBreak k t
  | .replyEnd t k => s.endReply k t
  | .characterTaken t k changes => s.followLine k changes t
  | _ => s

/-- What a link's command does: a request of its master, or what its receive or transmit line does. -/
def linkEffect (c : Instr) (s : State) : State :=
  match c.request with
  | some (t, k, r) => s.sendRequest k t r
  | none => lineEffect c s

theorem linkEffect_of_request {c : Instr} {r : Request} (hc : c.request = some (t, k, r)) (s : State) :
    linkEffect c s = s.sendRequest k t r := by
  rw [linkEffect, hc]

theorem linkEffect_of_line {c : Instr} (hc : c.request = none) (s : State) : linkEffect c s = lineEffect c s := by
  rw [linkEffect, hc]

theorem instant_of_request {c : Instr} {r : Request} (hc : c.request = some (t, k, r)) : c.instant = t := by
  cases c <;> cases hc <;> rfl

theorem onLink_of_request {c : Instr} {r : Request} (hc : c.request = some (t, k, r)) : c.onLink = some k := by
  cases c <;> cases hc <;> rfl

/-- A line's command out of reset: its effect, each thing at its own instant, and then the clock (log 1). -/
theorem exec_line {c : Instr} (hc : c.onLink = some k) (hline : c.request = none) (hreset : s.inReset = false) :
    exec c s = .next ((lineEffect c s).advance c.instant) := by
  cases c <;> cases hc <;> cases hline
  case characterTaken => simp [exec, execCharacterTaken, hreset, lineEffect, Instr.instant]
  all_goals
    simp only [exec, execRequestFrame, execNoise, execFraming, execLengthError, execOverrun, execLinkGap, execDiscardEnd,
      execLineBreak, execReplyEnd, execBreakEpisodeEnd, eventsUpTo_of_released _ hreset]
    rfl

/-- A link's command out of reset: its effect and then the clock. -/
theorem exec_onLink {c : Instr} (hc : c.onLink = some k) (hreset : s.inReset = false) :
    exec c s = .next ((linkEffect c s).advance c.instant) := by
  cases hr : c.request with
  | some x =>
    obtain ⟨t, j, r⟩ := x
    rw [exec_of_request hr, linkEffect_of_request hr, instant_of_request hr, hreset]; rfl
  | none => rw [linkEffect_of_line hr, exec_line hc hr hreset]

/-- A link's command in reset moves the clock, and at most the level of the link's receive line (R159; log 7). -/
theorem exec_onLink_inReset {c : Instr} (hc : c.onLink = some k) (hreset : s.inReset = true) :
    exec c s = .next (s.advance c.instant) ∨ ∃ high, exec c s = .next ((s.advance c.instant).lineInReset k high) := by
  cases c <;> cases hc
  case characterTaken => exact .inr ⟨_, if_pos hreset⟩
  case requestFrame | noise | framing | lengthError | overrun | linkGap | discardEnd | lineBreak | replyEnd |
      breakEpisodeEnd => exact .inl (if_pos hreset)
  all_goals exact .inr ⟨true, (exec_of_request rfl s).trans (if_pos hreset)⟩

theorem KeptOnLine.lineEffect {P : State → Prop} (h : KeptOnLine k P) {c : Instr} (hc : c.onLink = some k)
    (hline : c.request = none) (hs : P s) : P (lineEffect c s) := by
  cases c <;> cases hc <;> cases hline
  case requestFrame | noise | framing | lengthError | overrun => simp only [Machine.lineEffect]; exact h.charWhen _ _ hs
  case linkGap | discardEnd | lineBreak => exact h.settleLink _ hs
  case breakEpisodeEnd => exact h.endBreak _ hs
  case replyEnd => exact h.endReply _ hs
  case characterTaken => exact h.followLine _ _ hs

/-- What survives everything on a link survives the effect of its commands. -/
theorem KeptOnLine.linkEffect {P : State → Prop} (h : KeptOnLine k P) {c : Instr} (hc : c.onLink = some k) (hs : P s) :
    P (linkEffect c s) := by
  cases hr : c.request with
  | some x =>
    obtain ⟨t, j, r⟩ := x
    cases (onLink_of_request hr).symm.trans hc
    rw [linkEffect_of_request hr]
    exact h.followLine _ _ hs
  | none => rw [linkEffect_of_line hr]; exact h.lineEffect hc hr hs

/-- What survives everything on a link survives its commands. -/
theorem KeptOnLine.exec {P : State → Prop} (h : KeptOnLine k P) {c : Instr} (hc : c.onLink = some k)
    (hnext : exec c s = .next s') (hs : P s) : P s' := by
  cases hreset : s.inReset with
  | false => rw [exec_onLink hc hreset] at hnext; cases hnext; exact h.advance _ (h.linkEffect hc hs)
  | true =>
    obtain hsame | ⟨high, hline⟩ := exec_onLink_inReset hc hreset
    · rw [hsame] at hnext; cases hnext; exact h.advance _ hs
    · rw [hline] at hnext; cases hnext; exact h.setPort _ (h.advance _ hs)

end LinkCommands

/-! ### The commands of the rail sense lines and of the sensor timers -/

/-- The commands of the Sense Capture Unit and of the Sensor Monitor's timers (Chapters 1 and 2). -/
def senses : Instr → Bool
  | .quietLow _ _ | .captureMarkerError _ _ | .captureGapError _ _ | .captureWidthError _ _ | .captureTailError _ _
  | .stuck _ _ | .tailComplete _ _ | .staleTimer _ _ | .lostTimer _ _ | .runSilence _ _ | .acceptedEdge _ _ => true
  | _ => false

/-- What a predicate that looks at no decoder must survive to hold on through everything that happens on a rail sense line. -/
structure KeptBySensing (P : State → Prop) : Prop where
  advance : ∀ {s : State} (t : Nat), P s → P (s.advance t)
  decoder : ∀ {s : State} (n : Bay) (d : Decoder), P s → P (s.setDecoder n d)
  sensor : ∀ {s : State} (n : Bay) (r : SensorRec) (jump : Bool), P s → P (s.updateSensor n r jump)
  overtemp : ∀ {s : State} (n : Bay), P s → P (s.overtemp n)
  captured : ∀ {s : State} (n : Bay), P s → P (s.raiseShelf .captureError (flagBit n))

namespace KeptBySensing
variable {P : State → Prop} {s s' : State} (h : KeptBySensing P) (n : Bay) (t : Nat)
include h

theorem captureError (d : Decoder) (c : CaptureCause) (hs : P s) : P (s.captureError n d c t) :=
  h.captured _ (h.sensor _ _ _ (h.decoder _ _ hs))

theorem deliverSample (x : Sample) (hs : P s) : P (s.deliverSample n x) := by
  unfold State.deliverSample State.overtempTest
  dsimp only
  split
  · split
    · split
      · exact h.overtemp _ (h.sensor _ _ _ hs)
      · exact h.sensor _ _ _ hs
    · exact h.sensor _ _ _ hs
  · exact h.sensor _ _ _ hs

theorem takeQuiet (hs : P s) : P (s.takeQuiet n t) := by
  unfold State.takeQuiet
  split
  · exact h.decoder _ _ hs
  · exact hs

theorem takeGap (hs : P s) : P (s.takeGap n t) := by
  unfold State.takeGap
  split
  · exact h.captureError _ _ _ _ hs
  · exact hs

theorem takePulse (hs : P s) : P (s.takePulse n t) := by
  unfold State.takePulse
  split
  · exact h.captureError _ _ _ _ hs
  · exact hs

theorem takeTail (hs : P s) : P (s.takeTail n t) := by
  unfold State.takeTail
  split
  · exact h.deliverSample _ _ (h.decoder _ _ hs)
  · exact hs

theorem takeStuck (hs : P s) : P (s.takeStuck n t) := by
  unfold State.takeStuck
  split
  · exact h.captureError _ _ _ _ hs
  · exact hs

theorem settleLine (hs : P s) : P (s.settleLine n t) :=
  h.takeStuck _ _ (h.takeQuiet _ _ (h.takePulse _ _ (h.takeGap _ _ (h.takeTail _ _ hs))))

theorem lineEdge (hs : P s) : P (s.lineEdge n t) := by
  unfold State.lineEdge State.takeEdge
  split
  · exact h.decoder _ _ (h.settleLine _ _ hs)
  · exact h.captureError _ _ _ _ (h.settleLine _ _ hs)

theorem acceptEdge (hs : P s) : P (s.acceptEdge n) := by
  unfold State.acceptEdge
  split
  · exact h.lineEdge _ _ hs
  · exact hs

theorem rawChange (hs : P s) : P (State.rawChange n s t) :=
  h.settleLine _ _ (h.decoder _ _ (h.acceptEdge _ (h.advance _ hs)))

theorem followRaw (raw : RawTrace) (hs : P s) : P (s.followRaw n raw) := by
  have hfold : P (raw.changes.foldl (State.rawChange n) s) := by
    induction raw.changes generalizing s with
    | nil => exact hs
    | cons x rest ih => exact ih (h.rawChange n x hs)
  exact h.acceptEdge _ (h.advance _ hfold)

theorem takeBadEdge (c : CaptureCause) (hs : P s) : P (s.takeBadEdge n c) := by
  unfold State.takeBadEdge
  split
  · exact h.acceptEdge _ hs
  · exact hs

/-- An event that survives out of reset survives. -/
theorem event {effect : State → State} (heffect : ∀ s, P s → P (effect s)) (hnext : event t s effect = .next s')
    (hs : P s) : P s' := by
  unfold Machine.event at hnext
  split at hnext
  · cases hnext; exact h.advance _ hs
  · cases hnext; exact heffect _ (h.advance _ hs)

theorem exec {c : Instr} (hc : senses c = true) (hnext : exec c s = .next s') (hs : P s) : P s' := by
  cases c <;> cases hc <;>
    simp only [Machine.exec, execQuietLow, execCaptureMarkerError, execCaptureGapError, execCaptureWidthError,
      execCaptureTailError, execStuck, execTailComplete, execStaleTimer, execLostTimer, execRunSilence] at hnext
  case quietLow t n => exact h.event _ (fun _ => h.takeQuiet n _) hnext hs
  case captureMarkerError t n => exact h.event _ (fun _ => h.takeBadEdge n _) hnext hs
  case captureTailError t n => exact h.event _ (fun _ => h.takeBadEdge n _) hnext hs
  case captureGapError t n =>
    refine h.event _ (fun q hq => ?_) hnext hs
    split
    · exact h.acceptEdge n hq
    · exact h.takeGap n _ hq
  case captureWidthError t n =>
    refine h.event _ (fun q hq => ?_) hnext hs
    split
    · exact h.acceptEdge n hq
    · exact h.takePulse n _ hq
  case stuck t n => exact h.event _ (fun _ hq => h.takeStuck n _ (h.takePulse n _ hq)) hnext hs
  case tailComplete t n => exact h.event _ (fun _ => h.takeTail n _) hnext hs
  case staleTimer t n => exact h.event _ (fun _ => h.sensor n _ _) hnext hs
  case lostTimer t n => exact h.event _ (fun _ => h.sensor n _ _) hnext hs
  case runSilence t n => exact h.event _ (fun _ => h.sensor n _ _) hnext hs
  case acceptedEdge raw n =>
    simp only [execAcceptedEdge] at hnext
    split at hnext
    · cases hnext; exact h.decoder _ _ (h.advance _ hs)
    · cases hnext; exact h.followRaw n raw hs

end KeptBySensing

/-! ### Every command -/

/-- What a predicate must survive to hold on through every command, the queue left aside. -/
structure KeptBySteps (P : State → Prop) : Prop where
  advance : ∀ {s : State} (t : Nat), P s → P (s.advance t)
  sensing : ∀ {c : Instr} {s s' : State}, senses c = true → exec c s = .next s' → P s → P s'
  onLink : ∀ {c : Instr} {k : LinkId} {s s' : State}, c.onLink = some k → exec c s = .next s' → P s → P s'
  slot : ∀ {s : State} (n : Bay), P s → P (s.setLine n (s.lines.get n).nextSlot)
  asserted : ∀ {s : State} {t : Nat}, s.cycle.assertionDue t = true → P s → P s.assertDerate
  deasserted : ∀ {s : State} {t : Nat}, s.cycle.deassertionDue t = true → P s → P s.deassertDerate
  rawDrt : ∀ {s : State} (t : Nat) (high : Bool), s.inReset = false → P s → P (s.setCycle (s.cycle.raw t high))
  heldDrt : ∀ {s : State} (high : Bool), s.inReset = true → P s → P (s.setCycle { s.cycle with rawDrt := high })
  completed : ∀ {s : State} {x : Snapshot}, s.alloc.flight = some x → P s → P (s.complete x)
  boundary : ∀ {s : State} {d : Nat}, s.inReset = false → s.cycle.epochDue = some d → s.alloc.flight = none → P s →
    P (s.takeBoundary d)
  powerOn : ∀ {s : State}, P s → P ((s.atRelease s.now).setInReset true)
  release : ∀ {s : State}, P s → P (s.atRelease s.now)

theorem State.completeFlight_flight (s : State) : s.completeFlight.alloc.flight = none := by
  unfold State.completeFlight
  split
  · rfl
  · assumption

namespace KeptBySteps
variable {P : State → Prop} {s s' : State} (h : KeptBySteps P)
include h

theorem takeShelfReset (hs : P s) : P s.takeShelfReset := h.release (h.advance _ hs)

theorem completeFlight (hs : P s) : P s.completeFlight := by
  unfold State.completeFlight
  split
  · next x hx => exact h.completed hx hs
  · exact hs

theorem event {t : Nat} {effect : State → State} (heffect : ∀ s, s.inReset = false → P s → P (effect s))
    (hnext : event t s effect = .next s') (hs : P s) : P s' := by
  unfold Machine.event at hnext
  split at hnext
  · cases hnext; exact h.advance _ hs
  · next hreset => cases hnext; exact heffect _ (by simpa using hreset) (h.advance _ hs)

theorem settleDrt (t : Nat) (hs : P s) : P (s.settleDrt t) := by
  unfold State.settleDrt
  split
  · next hdue => exact h.asserted hdue hs
  · split
    · next hdue => exact h.deasserted hdue hs
    · exact hs

theorem execRawDrtChange {t : Nat} {high : Bool} (hnext : execRawDrtChange t high s = .next s') (hs : P s) : P s' := by
  simp only [Machine.execRawDrtChange] at hnext
  split at hnext
  · next hreset => cases hnext; exact h.heldDrt _ hreset (h.advance _ hs)
  · next hreset =>
    cases hnext
    exact h.rawDrt _ _ (by simpa using hreset) (h.settleDrt _ (h.advance _ hs))

theorem execBoundary {t : Nat} (hnext : execBoundary t s = .next s') (hs : P s) : P s' := by
  refine h.event (fun q hreset hq => ?_) hnext hs
  split
  · next d hd =>
    split
    · exact h.boundary (by simpa using hreset) (by simpa using hd) (State.completeFlight_flight q) (h.completeFlight hq)
    · exact hq
  · exact hq

/-- The commands that are neither a link's nor a rail sense line's: resets, the derate line, the cycle and the slots. -/
theorem execElsewhere {c : Instr} (hlink : c.onLink = none) (hsense : senses c = false) (hnext : exec c s = .next s')
    (hs : P s) : P s' := by
  cases c <;> cases hlink <;> cases hsense <;>
    simp only [Machine.exec, execDerateAssertion, execDerateDeassertion, execCompletion, execSlotExpiry,
      execShelfResetTaken, execReleaseOfReset] at hnext
  case powerOnReset t => cases hnext; exact h.powerOn (h.advance _ hs)
  case derateAssertion t =>
    refine h.event (fun q _ hq => ?_) hnext hs
    split
    · next hdue => exact h.asserted hdue hq
    · exact hq
  case derateDeassertion t =>
    refine h.event (fun q _ hq => ?_) hnext hs
    split
    · next hdue => exact h.deasserted hdue hq
    · exact hq
  case boundary t => exact h.execBoundary hnext hs
  case completion t => exact h.event (fun _ _ => h.completeFlight) hnext hs
  case slotExpiry t n =>
    refine h.event (fun q _ hq => ?_) hnext hs
    split
    · exact h.slot n hq
    · exact hq
  case shelfResetTaken t =>
    unfold eventsUpTo at hnext
    split at hnext
    · cases hnext; exact h.advance _ hs
    · cases hnext
      refine h.advance _ ?_
      dsimp only
      split
      · exact h.takeShelfReset hs
      · exact hs
  case rawDrtChange t high => exact h.execRawDrtChange hnext hs
  case releaseOfReset t =>
    split at hnext
    · cases hnext; exact h.release (h.advance _ hs)
    · cases hnext; exact h.advance _ hs

theorem exec {c : Instr} (hnext : exec c s = .next s') (hs : P s) : P s' := by
  cases hlink : c.onLink with
  | some k => exact h.onLink hlink hnext hs
  | none =>
    cases hsense : senses c with
    | true => exact h.sensing hsense hnext hs
    | false => exact h.execElsewhere hlink hsense hnext hs

/-- A predicate that does not look at the queue survives a step. -/
theorem step (hqueue : ∀ {s : State} (rest : List Instr), P s → P { s with pending := rest })
    (hnext : step s = .next s') (hs : P s) : P s' := by
  unfold Machine.step at hnext
  split at hnext
  · cases hnext; exact hs
  · next rest _ => exact h.exec hnext (hqueue rest hs)

end KeptBySteps

end Sys2Proof.Machine
end

section
/-! PROOFS. A step takes the front command; every command answers a next state, keeps the queue and never turns the clock back. -/

namespace Sys2Proof.Machine

/-- Settles O1: both clauses are the two branches of a step. -/
theorem stepTakesTheFrontCommand : Obligations.StepTakesTheFrontCommand := by
  refine ⟨fun c s rest => rfl, fun s hempty => ?_⟩
  unfold step
  rw [hempty]

theorem event_answers (t : Nat) (s : State) (effect : State → State) : ∃ s', event t s effect = .next s' := by
  unfold event; split <;> exact ⟨_, rfl⟩

theorem eventsUpTo_answers (t : Nat) (s : State) (effect : State → State) : ∃ s', eventsUpTo t s effect = .next s' := by
  unfold eventsUpTo; split <;> exact ⟨_, rfl⟩

theorem exec_senses_answers {c : Instr} (s : State) (hc : senses c = true) : ∃ s', exec c s = .next s' := by
  cases c <;> cases hc <;>
    simp only [exec, execQuietLow, execCaptureMarkerError, execCaptureGapError, execCaptureWidthError,
      execCaptureTailError, execStuck, execTailComplete, execStaleTimer, execLostTimer, execRunSilence, execAcceptedEdge,
      event_answers]
  case acceptedEdge => split <;> exact ⟨_, rfl⟩

/-- Every command answers a next state (R44). -/
theorem exec_answers (c : Instr) (s : State) : ∃ s', exec c s = .next s' := by
  cases hlink : c.onLink with
  | some k =>
    cases hreset : s.inReset with
    | false => exact ⟨_, exec_onLink hlink hreset⟩
    | true =>
      obtain h | ⟨_, h⟩ := exec_onLink_inReset hlink hreset
      · exact ⟨_, h⟩
      · exact ⟨_, h⟩
  | none =>
    cases hsense : senses c with
    | true => exact exec_senses_answers s hsense
    | false =>
      cases c <;> cases hlink <;> cases hsense <;>
        simp only [exec, execPowerOnReset, execDerateAssertion, execDerateDeassertion, execBoundary, execCompletion,
          execSlotExpiry, execShelfResetTaken, execRawDrtChange, execReleaseOfReset, event_answers, eventsUpTo_answers,
          Host.Outcome.next.injEq, exists_eq'] <;>
        split <;> exact ⟨_, rfl⟩

/-! ### The queue and the clock -/

/-- The queue is `q`, and the clock has not gone back before `t`. -/
def State.keepsQueue (q : List Instr) (t : Nat) (s : State) : Prop := s.pending = q ∧ t ≤ s.now

theorem served_keepsQueue {q : List Instr} {t : Nat} {k : LinkId} {s s' : State} (h : Served s k s')
    (hs : s.keepsQueue q t) : s'.keepsQueue q t := by
  cases h <;> simpa [State.keepsQueue] using hs

theorem keptOnLine_keepsQueue (q : List Instr) (t : Nat) (k : LinkId) : KeptOnLine k (State.keepsQueue q t) where
  advance u hs := ⟨hs.1, hs.2.trans (Nat.le_max_left _ _)⟩
  setPort _ hs := hs
  error hs := hs
  linkReset i u _ hs := by simpa [State.keepsQueue] using hs
  service h hs := served_keepsQueue h hs
  taken _ _ hs := ⟨hs.1, hs.2.trans (Nat.le_max_left _ _)⟩

theorem keptBySensing_keepsQueue (q : List Instr) (t : Nat) : KeptBySensing (State.keepsQueue q t) where
  advance u hs := ⟨hs.1, hs.2.trans (Nat.le_max_left _ _)⟩
  decoder _ _ hs := hs
  sensor n r jump hs := by simpa [State.keepsQueue] using hs
  overtemp n hs := by simpa [State.keepsQueue] using hs
  captured _ hs := hs

theorem keptBySteps_keepsQueue (q : List Instr) (t : Nat) : KeptBySteps (State.keepsQueue q t) where
  advance u hs := ⟨hs.1, hs.2.trans (Nat.le_max_left _ _)⟩
  sensing hc hnext hs := (keptBySensing_keepsQueue q t).exec hc hnext hs
  onLink hc hnext hs := (keptOnLine_keepsQueue q t _).exec hc hnext hs
  slot _ hs := hs
  asserted _ hs := by simpa [State.keepsQueue] using hs
  deasserted _ hs := by simpa [State.keepsQueue] using hs
  rawDrt _ _ _ hs := hs
  heldDrt _ _ hs := hs
  completed _ hs := by simpa [State.keepsQueue] using hs
  boundary _ _ _ hs := by simpa [State.keepsQueue] using hs
  powerOn hs := hs
  release hs := hs

/-- Settles O2: a command's next state, and what is kept by each change that a command is made of. -/
theorem everyCommandAnswersANextState : Obligations.EveryCommandAnswersANextState := by
  intro c s
  obtain ⟨s', hnext⟩ := exec_answers c s
  exact ⟨s', hnext, (keptBySteps_keepsQueue s.pending s.now).exec hnext ⟨rfl, le_rfl⟩⟩

end Sys2Proof.Machine
end

section
/-! PROOFS. Every step keeps the alert states sound (R172 to R175): each raising has the form its cause asks for. -/

namespace Sys2Proof.Machine

/-! ### Raisings, resets and the services of the alert requests -/

section Raisings
variable {s : State}

/-- The alert states alone decide. -/
theorem State.alertsSound.congr {s' : State} (hs : s.alertsSound) (h : s'.alerts = s.alerts) : s'.alertsSound := by
  simpa only [State.alertsSound, State.alert, h] using hs

/-- The vector a shelf-link cause may be raised with: empty for DERATE, CAP_SHORT and PROFILE_INSTALLED, a pool's for
POOL_EXHAUSTED (Chapter 10). -/
def ShelfCause.admits (c : ShelfCause) (v : Flags8) : Prop :=
  (c.number = 1 ∨ c.number = 2 ∨ c.number = 7 → v = 0) ∧ (c.number = 6 → ∀ b, 4 ≤ b → v.getLsbD b = false)

theorem ShelfCause.admits_empty (c : ShelfCause) : c.admits 0 := ⟨fun _ => rfl, fun _ b _ => by simp⟩

/-- The other causes may be raised with any vector. -/
theorem ShelfCause.admits_any {c : ShelfCause} (h : c.number ∉ [1, 2, 6, 7]) (v : Flags8) : c.admits v := by
  refine ⟨fun hc => absurd hc ?_, fun hc => absurd hc ?_⟩
  · rintro (hc | hc | hc) <;> exact h (by simp [hc])
  · exact fun hc => h (by simp [hc])

theorem State.alertsSound.raiseShelf (hs : s.alertsSound) {c : ShelfCause} {v : Flags8} (hv : c.admits v) :
    (s.raiseShelf c v).alertsSound := by
  obtain ⟨hbays, hshelf, hmask, hgroups⟩ := hs
  refine ⟨fun i => by simpa using hbays i, fun d r hr => ?_, by simpa using hmask, by simpa using hgroups⟩
  rw [State.raiseShelf_alert, if_pos rfl, AlertState.raise_pending] at hr
  split at hr
  · next hd =>
    subst hd
    cases hr
    cases hheld : (s.alert .shelf).pendingCauses.get c.number with
    | none => exact ⟨rfl, hv⟩
    | some x =>
      obtain ⟨hreasons, hempty, hpools⟩ := hshelf _ x hheld
      refine ⟨by simp [Raised.merge, hreasons], fun h => ?_, fun h b hb => ?_⟩
      · simp [Raised.merge, hempty h, hv.1 h]
      · simp [Raised.merge, hpools h b hb, hv.2 h b hb]
  · exact hshelf d r hr

/-- A selector's flag is bit 0 or bit 1. -/
theorem selectorBit_high (sel : Fin 2) (b : Nat) (hb : 2 ≤ b) : (1#8 <<< sel.val).getLsbD b = false := by
  rw [BitVec.getLsbD_shiftLeft]
  simp
  omega

theorem State.alertsSound.raiseServing (hs : s.alertsSound) (bindings : Row8 (List Bay)) (n : Bay) {c : BayCause}
    {reasons : BitVec 2} (h : c.number ≠ 5 → reasons = 0) : (s.raiseServing bindings n c reasons).alertsSound := by
  obtain ⟨hbays, hshelf⟩ := hs
  refine ⟨fun i d r hr => ?_, ?_⟩
  · rw [State.raiseServing_alert] at hr
    split at hr
    · next j sel _ =>
      split at hr
      · next hij =>
        cases hij
        rw [AlertState.raise_pending] at hr
        split at hr
        · next hd =>
          subst hd
          cases hr
          cases hheld : (s.alert (.bay i)).pendingCauses.get c.number with
          | none => exact ⟨selectorBit_high sel, h⟩
          | some x =>
            obtain ⟨hbits, hreasons⟩ := hbays i _ x hheld
            refine ⟨fun b hb => ?_, fun hc => ?_⟩
            · simp only [Raised.merge, BitVec.getLsbD_or, hbits b hb, selectorBit_high sel b hb, Bool.or_self]
            · simp [Raised.merge, hreasons hc, h hc]
        · exact hbays i d r hr
      · exact hbays i d r hr
    · exact hbays i d r hr
  · have hsame : (s.raiseServing bindings n c reasons).alert .shelf = s.alert .shelf := by
      rw [State.raiseServing_alert]; split <;> simp
    rw [hsame]; exact hshelf

theorem State.alertsSound.raiseEach (hs : s.alertsSound) (bindings : Row8 (List Bay)) (l : List Bay) {c : BayCause}
    {reasons : BitVec 2} (h : c.number ≠ 5 → reasons = 0) : (s.raiseEach bindings l c reasons).alertsSound := by
  induction l generalizing s with
  | nil => exact hs
  | cons n l ih => rw [State.raiseEach_cons]; exact ih (hs.raiseServing bindings n h)

/-- An alert state whose causes are among those held, on a link whose mask and groups stay admissible. -/
theorem State.alertsSound.setAlert (hs : s.alertsSound) {k : LinkId} {a : AlertState}
    (hheld : ∀ c r, a.pendingCauses.get c = some r → (s.alert k).pendingCauses.get c = some r)
    (hmask : k = .shelf → a.mask.getLsbD 0 = false) (hgroups : k = .shelf → a.groups.getLsbD 0 = true) :
    (s.setAlert k a).alertsSound := by
  obtain ⟨hbays, hshelf, hm, hg⟩ := hs
  refine ⟨fun i c r hr => ?_, fun c r hr => ?_, ?_, ?_⟩
  · rw [State.setAlert_alert] at hr
    split at hr
    · next hk => exact hbays i c r (by rw [hk]; exact hheld c r hr)
    · exact hbays i c r hr
  · rw [State.setAlert_alert] at hr
    split at hr
    · next hk => exact hshelf c r (by rw [hk]; exact hheld c r hr)
    · exact hshelf c r hr
  · rw [State.setAlert_alert]
    split
    · next hk => exact hmask hk.symm
    · exact hm
  · rw [State.setAlert_alert]
    split
    · next hk => exact hgroups hk.symm
    · exact hg

theorem State.alertsSound.bayLinkEffects (hs : s.alertsSound) (i : Fin 8) (t : Nat) : (s.bayLinkEffects i t).alertsSound := by
  have hreset : (s.setAlert (.bay i) (s.alert (.bay i)).linkReset).alertsSound :=
    hs.setAlert (fun c r h => by simp [AlertState.linkReset] at h) nofun nofun
  exact hreset.congr rfl

theorem State.alertsSound.withdrawForPin (hs : s.alertsSound) (n : Bay) : (s.withdrawForPin n).alertsSound := by
  unfold State.withdrawForPin
  split
  · have hset : (s.setBurst (s.burst.withdraw n)).alertsSound := hs.congr rfl
    exact hset.raiseServing _ _ (c := .burstWithdrawn) fun h => absurd rfl h
  · exact hs

end Raisings

/-! ### The sensors and the allocation cycle -/

section Cycle
variable {s : State}

theorem State.alertsSound.updateSensor (hs : s.alertsSound) (n : Bay) (r : SensorRec) (jump : Bool) :
    (s.updateSensor n r jump).alertsSound := by
  have hset : (s.setSensor n r).alertsSound := hs.congr rfl
  unfold State.updateSensor State.raiseSensor
  split
  · exact (hset.raiseServing _ _ fun _ => rfl).raiseShelf (ShelfCause.admits_any (by decide) _)
  · exact hset

theorem State.alertsSound.overtemp (hs : s.alertsSound) (n : Bay) : (s.overtemp n).alertsSound := by
  have hset : (s.setLine n ((s.lines.get n).overtemp (s.bayBlock n).countMin)).alertsSound := hs.congr rfl
  exact (hset.raiseServing _ _ fun _ => rfl).raiseShelf (ShelfCause.admits_any (by decide) _)

theorem State.alertsSound.installSensors (hs : s.alertsSound) (p : Profile) : (s.installSensors p).alertsSound := by
  have hfold (l : List Bay) {q : State} (hq : q.alertsSound) :
      (l.foldl (fun s n => s.updateSensor n ((s.sensors.get n).remeasure p.sensorParams s.now) false) q).alertsSound := by
    induction l generalizing q with
    | nil => exact hq
    | cons n l ih => exact ih (hq.updateSensor n _ _)
  exact hfold numbers8 (hs.congr rfl)

theorem State.alertsSound.install (hs : s.alertsSound) (p : Profile) (start : Nat) : (s.install p start).alertsSound := by
  have hwithdrawn : (s.installBurst s.bindings p).alertsSound :=
    (hs.raiseEach s.bindings s.burst.holders (c := .burstWithdrawn) fun h => absurd rfl h).congr rfl
  unfold State.install
  dsimp only
  refine State.alertsSound.raiseShelf (State.alertsSound.installSensors ?_ p) (ShelfCause.admits_empty _)
  exact hwithdrawn.congr rfl

theorem State.alertsSound.installWaiting (hs : s.alertsSound) (start : Nat) : (s.installWaiting start).alertsSound := by
  unfold State.installWaiting
  split
  · exact hs.install _ _
  · exact hs

theorem State.alertsSound.derateCheck (hs : s.alertsSound) (first : Bool) : (s.derateCheck first).alertsSound := by
  unfold State.derateCheck
  split
  · refine State.alertsSound.raiseShelf ?_ (ShelfCause.admits_empty _)
    exact hs.congr rfl
  · split
    · exact hs.raiseShelf (ShelfCause.admits_empty _)
    · exact hs

/-- A pool's flag is one of bits 0 to 3. -/
theorem poolBit_high (p : Pool) (b : Nat) (hb : 4 ≤ b) : (1#8 <<< p.val).getLsbD b = false := by
  rw [BitVec.getLsbD_shiftLeft]
  simp
  omega

theorem State.alertsSound.raiseRound (hs : s.alertsSound) (r : RoundResult) : (s.raiseRound r).alertsSound := by
  have heach := ((hs.raiseEach s.bindings r.ended (c := .burstEnded) (reasons := 0) fun _ => rfl).raiseEach s.bindings r.admitted
    (c := .burstAdmitted) (reasons := 0) fun _ => rfl).raiseEach s.bindings r.expired (c := .burstExpired) (reasons := 0)
    fun _ => rfl
  unfold State.raiseRound
  dsimp only
  split
  · refine heach.raiseShelf ⟨fun h => absurd h (by decide), fun _ => poolBit_high _⟩
  · exact heach

theorem State.alertsSound.beginOperation (hs : s.alertsSound) (clamped : Bool) : (s.beginOperation clamped).alertsSound := by
  unfold State.beginOperation
  split
  · exact hs
  · next p _ =>
    have hset : (s.setBurst (s.round p).unit).alertsSound := hs.congr rfl
    exact (hset.raiseRound (s.round p)).congr rfl

theorem State.alertsSound.takeBoundary (hs : s.alertsSound) (start : Nat) : (s.takeBoundary start).alertsSound := by
  have hbegun : ((s.transfer start).nextEpoch).alertsSound := hs.congr rfl
  have hchecked := (hbegun.installWaiting start).derateCheck (s.alloc.engine == .stopped)
  unfold State.takeBoundary
  dsimp only
  exact State.alertsSound.beginOperation (hchecked.congr (by simp)) _

theorem State.alertsSound.complete (hs : s.alertsSound) (x : Snapshot) : (s.complete x).alertsSound := by
  have hstaged : (s.stageCounts x).alertsSound := hs.congr rfl
  have hraised : ((s.stageCounts x).raiseCompletion x s.alloc.records).alertsSound := by
    unfold State.raiseCompletion
    dsimp only
    split
    · exact ((hstaged.raiseEach _ _ fun _ => rfl).raiseEach _ _ fun _ => rfl).raiseShelf (ShelfCause.admits_empty _)
    · exact (hstaged.raiseEach _ _ fun _ => rfl).raiseEach _ _ fun _ => rfl
  exact hraised.congr rfl

theorem State.alertsSound.assertDerate (hs : s.alertsSound) : s.assertDerate.alertsSound := by
  unfold State.assertDerate
  dsimp only
  split
  · refine State.alertsSound.raiseShelf ?_ (ShelfCause.admits_empty _)
    exact hs.congr rfl
  · exact hs.congr rfl

theorem State.alertsSound.deassertDerate (hs : s.alertsSound) : s.deassertDerate.alertsSound := by
  unfold State.deassertDerate
  split <;> exact hs.congr rfl

/-- After a reset nothing is pending and OVERTEMP_ANY is unmasked and in the high group (R176). -/
theorem State.atRelease_alertsSound (s : State) (t : Nat) : (s.atRelease t).alertsSound := by
  have hshelf : (s.atRelease t).alert .shelf = AlertState.resetShelf := rfl
  refine ⟨fun i c r hr => ?_, fun c r hr => ?_, by rw [hshelf]; decide, by rw [hshelf]; decide⟩
  · simp [State.atRelease, State.reset, State.alert, PerLink.get, AlertState.resetBay] at hr
  · simp [State.atRelease, State.reset, State.alert, PerLink.get, AlertState.resetShelf] at hr

end Cycle

/-! ### Services and steps -/

theorem served_alertsSound {s s' : State} {k : LinkId} (h : Served s k s') (hs : s.alertsSound) : s'.alertsSound := by
  obtain ⟨-, -, hmask, hgroups⟩ := id hs
  cases h
  case pin n v _ _ =>
    refine State.alertsSound.withdrawForPin ?_ n
    exact hs.congr rfl
  case alertRead c =>
    refine hs.setAlert (fun d r h => ?_) (fun hk => hk ▸ hmask) (fun hk => hk ▸ hgroups)
    rw [Row8.get_set] at h
    split at h
    · cases h
    · exact h
  case mask m =>
    refine hs.setAlert (fun _ _ h => h) (fun hk => ?_) (fun hk => hk ▸ hgroups)
    subst hk
    simp [storedMask]
  case groups j g _ =>
    refine hs.setAlert (fun _ _ h => h) (fun hk => hk ▸ hmask) (fun hk => ?_)
    subst hk
    simp [storedGroups]
  case linkReset i _ =>
    refine State.alertsSound.bayLinkEffects ?_ i _
    exact hs.congr rfl
  case started =>
    refine State.alertsSound.takeBoundary ?_ _
    exact hs.congr rfl
  all_goals exact hs.congr rfl

theorem keptOnLine_alertsSound (k : LinkId) : KeptOnLine k State.alertsSound where
  advance _ hs := hs.congr rfl
  setPort _ hs := hs.congr rfl
  error hs := hs.raiseShelf (ShelfCause.admits_any (by decide) _)
  linkReset i t _ hs := hs.bayLinkEffects i t
  service h hs := served_alertsSound h hs
  taken _ _ _ := State.atRelease_alertsSound _ _

theorem keptBySensing_alertsSound : KeptBySensing State.alertsSound where
  advance _ hs := hs.congr rfl
  decoder _ _ hs := hs.congr rfl
  sensor n r jump hs := hs.updateSensor n r jump
  overtemp n hs := hs.overtemp n
  captured _ hs := hs.raiseShelf (ShelfCause.admits_any (by decide) _)

theorem keptBySteps_alertsSound : KeptBySteps State.alertsSound where
  advance _ hs := hs.congr rfl
  sensing hc hnext hs := keptBySensing_alertsSound.exec hc hnext hs
  onLink hc hnext hs := (keptOnLine_alertsSound _).exec hc hnext hs
  slot _ hs := hs.congr rfl
  asserted _ hs := hs.assertDerate
  deasserted _ hs := hs.deassertDerate
  rawDrt _ _ _ hs := hs.congr rfl
  heldDrt _ _ hs := hs.congr rfl
  completed _ hs := hs.complete _
  boundary _ _ _ hs := hs.takeBoundary _
  powerOn {s} _ := (State.atRelease_alertsSound s s.now).congr rfl
  release _ := State.atRelease_alertsSound _ _

/-- Settles O54: each change that a command is made of keeps the alert states sound. -/
theorem stepsKeepTheAlertsSound : Obligations.StepsKeepTheAlertsSound :=
  fun _ _ hs hnext => keptBySteps_alertsSound.step (fun _ h => h.congr rfl) hnext hs

end Sys2Proof.Machine
end

section
/-! PROOFS. The Burst Unit's operations, each said once (R102 to R120): which records and entries they leave and what they credit and
charge. -/

namespace Sys2Proof.Machine

/-! ### What a record has borrowed (R104) -/

/-- The amount that a place of the active table has borrowed from a pool. -/
def lentBy (r : Option ActiveBurst) (p : Pool) : Nat :=
  match r with
  | some a => if a.pool = p then a.amount else 0
  | none => 0

@[simp] theorem lentBy_none (p : Pool) : lentBy none p = 0 := rfl

@[simp] theorem lentBy_some (a : ActiveBurst) (p : Pool) : lentBy (some a) p = if a.pool = p then a.amount else 0 := rfl

/-- The amount that the active table has borrowed from a pool. -/
def lent (t : Row8 (Option ActiveBurst)) (p : Pool) : Nat := sum8 fun n => lentBy (t.get n) p

/-- One place of a row changed: a sum over the row loses what stood there and gains what stands there now. -/
theorem sum8_set {α : Type} (g : α → Nat) (r : Row8 α) (n : Fin 8) (v : α) :
    (sum8 fun m => g ((r.set n v).get m)) + g (r.get n) = (sum8 fun m => g (r.get m)) + g v := by
  fin_cases n <;> simp [sum8] <;> omega

theorem lent_set (t : Row8 (Option ActiveBurst)) (n : Bay) (v : Option ActiveBurst) (p : Pool) :
    lent (t.set n v) p + lentBy (t.get n) p = lent t p + lentBy v p :=
  sum8_set (lentBy · p) t n v

@[simp] theorem lent_const_none (p : Pool) : lent (Row8.const none) p = 0 := by simp [lent, sum8]

/-! ### Leaving the structures (R102, R104) -/

section Leaving
variable (b : BurstUnit) (n m : Bay) (p : Pool)

@[simp] theorem BurstUnit.dropEntry_active : (b.dropEntry n).active = b.active := rfl

@[simp] theorem BurstUnit.dropEntry_pools : (b.dropEntry n).pools = b.pools := rfl

@[simp] theorem BurstUnit.dropEntry_queue : (b.dropEntry n).queue = b.queue.filter fun e => e.bay != n := rfl

@[simp] theorem BurstUnit.dropActive_queue : (b.dropActive n).queue = b.queue := by
  unfold BurstUnit.dropActive; split <;> rfl

@[simp] theorem BurstUnit.dropActive_active :
    (b.dropActive n).active.get m = if m = n then none else b.active.get m := by
  unfold BurstUnit.dropActive
  split
  · simp
  · next h => split <;> simp_all

@[simp] theorem BurstUnit.dropActive_pools :
    (b.dropActive n).pools.get p = (b.pools.get p).credit (lentBy (b.active.get n) p) := by
  unfold BurstUnit.dropActive
  split
  · next r h =>
    rw [h, Row4.get_modify, lentBy_some]
    by_cases hp : p = r.pool
    · simp [hp]
    · simp [hp, Ne.symm hp, PoolAccount.credit]
  · next h => simp [h, PoolAccount.credit]

theorem BurstUnit.withdraw_queue : (b.withdraw n).queue = b.queue.filter fun e => e.bay != n := by
  simp [BurstUnit.withdraw]

theorem BurstUnit.withdraw_active : (b.withdraw n).active.get m = if m = n then none else b.active.get m := by
  simp [BurstUnit.withdraw]

theorem BurstUnit.withdraw_pools :
    (b.withdraw n).pools.get p = (b.pools.get p).credit (lentBy (b.active.get n) p) := by
  simp [BurstUnit.withdraw]

/-- A bay with neither an entry nor an active burst has nothing to withdraw. -/
theorem BurstUnit.withdraw_of_not_holds (h : b.holds n = false) : b.withdraw n = b := by
  simp only [BurstUnit.holds, BurstUnit.hasEntry, Bool.or_eq_false_iff, Option.isSome_eq_false_iff, List.any_eq_false,
    beq_iff_eq] at h
  have hqueue : b.dropEntry n = b := by
    simp only [BurstUnit.dropEntry]
    rw [List.filter_eq_self.mpr fun e he => by simpa using h.1 e he]
  rw [BurstUnit.withdraw, hqueue, BurstUnit.dropActive, Option.isNone_iff_eq_none.mp h.2]

end Leaving

/-! ### Step 1: ageing (R111) -/

/-- What ageing leaves at a place of the table. -/
def agedRecord (r : Option ActiveBurst) : Option ActiveBurst :=
  r.bind fun a => if a.remaining ≤ 1 then none else some { a with remaining := a.remaining - 1 }

/-- What ageing credits for a place of the table. -/
def endedCredit (r : Option ActiveBurst) (p : Pool) : Nat :=
  match r with
  | some a => if a.remaining ≤ 1 ∧ a.pool = p then a.amount else 0
  | none => 0

section Ageing
variable (b : BurstUnit) (n m : Bay) (p : Pool)

@[simp] theorem BurstUnit.ageBay_queue : (b.ageBay n).queue = b.queue := by
  unfold BurstUnit.ageBay
  split
  · split
    · simp
    · rfl
  · rfl

@[simp] theorem BurstUnit.ageBay_active :
    (b.ageBay n).active.get m = if m = n then agedRecord (b.active.get n) else b.active.get m := by
  unfold BurstUnit.ageBay
  split
  · next r h =>
    split
    · next hends => simp [h, agedRecord, hends]
    · next hends => simp [h, agedRecord, hends]
  · next h =>
    by_cases hm : m = n
    · simp [hm, h, agedRecord]
    · simp [hm]

@[simp] theorem BurstUnit.ageBay_pools :
    (b.ageBay n).pools.get p = (b.pools.get p).credit (endedCredit (b.active.get n) p) := by
  unfold BurstUnit.ageBay
  split
  · next r h =>
    split
    · next hends => simp [h, endedCredit, hends]
    · next hends => simp [h, endedCredit, hends, PoolAccount.credit]
  · next h => simp [h, endedCredit, PoolAccount.credit]

@[simp] theorem BurstUnit.age_queue : b.age.queue = b.queue := by simp [BurstUnit.age, numbers8]

@[simp] theorem BurstUnit.age_active : b.age.active.get n = agedRecord (b.active.get n) := by
  simp only [BurstUnit.age, numbers8, List.foldl_cons, List.foldl_nil, BurstUnit.ageBay_active]
  fin_cases n <;> simp

@[simp] theorem BurstUnit.age_pools :
    b.age.pools.get p = (b.pools.get p).credit (sum8 fun n => endedCredit (b.active.get n) p) := by
  simp [BurstUnit.age, numbers8, PoolAccount.credit, sum8, Nat.add_assoc]

/-- What is still lent after ageing, and what ageing credited, is what was lent before. -/
theorem lentBy_agedRecord (r : Option ActiveBurst) (p : Pool) : lentBy (agedRecord r) p + endedCredit r p = lentBy r p := by
  cases r with
  | none => rfl
  | some a => by_cases h : a.remaining ≤ 1 <;> simp [agedRecord, endedCredit, h]

end Ageing

/-! ### Step 2: admission (R112, R113) -/

/-- The record with which an entry enters the table (R112). -/
def QueueEntry.record (e : QueueEntry) : ActiveBurst := ⟨e.pool, e.amount, e.duration, e.tag⟩

section Admission
variable {cap : Nat} {w : RoundWork} {e : QueueEntry}

/-- A head that nothing blocks finds its bay free and its pool able to pay, and fits under the cap. -/
theorem RoundWork.blocks_eq_none_iff :
    w.blocks cap e = none ↔ w.active.get e.bay = none ∧ e.amount ≤ (w.pools.get e.pool).remaining ∧
      w.total + e.amount ≤ cap := by
  unfold RoundWork.blocks
  split_ifs with hover hbusy hpoor hfull
  · exact iff_of_false nofun fun h => by omega
  · exact iff_of_false nofun fun h => by simp [h.1] at hbusy
  · exact iff_of_false nofun fun h => by omega
  · exact iff_of_false nofun fun h => by omega
  · exact iff_of_true rfl ⟨by simpa using hbusy, by omega, by omega⟩

/-- A property of the working values and of what is left of the queue that every admission keeps holds of the round's end. -/
theorem RoundWork.run_induction {P : RoundWork → List QueueEntry → Prop} (w : RoundWork) (q : List QueueEntry)
    (hadmit : ∀ w e rest, w.blocks cap e = none → P w (e :: rest) → P (w.admitHead e) rest) (h : P w q) :
    P (w.run cap q).1 (w.run cap q).2.1 := by
  induction q generalizing w with
  | nil => exact h
  | cons e rest ih =>
    unfold RoundWork.run
    split
    · exact h
    · next hfree => exact ih _ (hadmit w e rest hfree h)

theorem RoundWork.run_rest_suffix (cap : Nat) (w : RoundWork) (q : List QueueEntry) : (w.run cap q).2.1 <:+ q :=
  RoundWork.run_induction (P := fun _ l => l <:+ q) w q
    (fun _ e rest _ h => (List.suffix_cons e rest).trans h) List.suffix_rfl

theorem RoundEnd.marks_get (r : RoundEnd) (pools : Row4 PoolAccount) (p : Pool) :
    (r.marks pools).get p = if r = .blockedByPool p then (pools.get p).mark else pools.get p := by
  unfold RoundEnd.marks
  split
  · next q =>
    rw [Row4.get_modify]
    by_cases h : p = q
    · simp [h]
    · simp [h, Ne.symm h]
  · next hother => rw [if_neg (hother p)]

theorem RoundEnd.marks_remaining (r : RoundEnd) (pools : Row4 PoolAccount) (p : Pool) :
    ((r.marks pools).get p).remaining = (pools.get p).remaining := by
  rw [RoundEnd.marks_get]; split <;> rfl

theorem RoundEnd.marks_reserve (r : RoundEnd) (pools : Row4 PoolAccount) (p : Pool) :
    ((r.marks pools).get p).reserve = (pools.get p).reserve := by
  rw [RoundEnd.marks_get]; split <;> rfl

end Admission

/-! ### Step 3: expiry (R114) -/

/-- What expiry leaves came from an entry that had more than one round left. -/
theorem mem_expireQueue {q : List QueueEntry} {e : QueueEntry} (h : e ∈ expireQueue q) :
    ∃ f ∈ q, 1 < f.roundsLeft ∧ e = { f with roundsLeft := f.roundsLeft - 1 } := by
  simp only [expireQueue, List.mem_map, List.mem_filter, decide_eq_true_eq] at h
  obtain ⟨f, ⟨hf, hrounds⟩, rfl⟩ := h
  exact ⟨f, hf, hrounds, rfl⟩

theorem expireQueue_bays_sublist (q : List QueueEntry) :
    ((expireQueue q).map QueueEntry.bay).Sublist (q.map QueueEntry.bay) := by
  have hbays : (expireQueue q).map QueueEntry.bay = (q.filter fun e => decide (1 < e.roundsLeft)).map QueueEntry.bay := by
    simp [expireQueue, Function.comp_def]
  rw [hbays]
  exact List.filter_sublist.map _

end Sys2Proof.Machine
end

section
/-! PROOFS. Every step keeps each pool's remaining plus its active bursts equal to its reserve (R104). -/

namespace Sys2Proof.Machine

/-! ### Balanced accounts -/

/-- Under the reserves `z`, what each account holds and what the table has borrowed from it make up its reserve. -/
def balanced (z : Pool → Nat) (t : Row8 (Option ActiveBurst)) (a : Row4 PoolAccount) : Prop :=
  ∀ p, (a.get p).remaining + lent t p = z p ∧ (a.get p).reserve = z p

section Balance
variable {z : Pool → Nat} {t : Row8 (Option ActiveBurst)} {a : Row4 PoolAccount} {b : BurstUnit} {n : Bay}

/-- An account that has the same remaining and reserve is as balanced as before. -/
theorem balanced.of_same (h : balanced z t a) {a' : Row4 PoolAccount}
    (hremaining : ∀ p, (a'.get p).remaining = (a.get p).remaining) (hreserve : ∀ p, (a'.get p).reserve = (a.get p).reserve) :
    balanced z t a' := fun p => by rw [hremaining, hreserve]; exact h p

theorem balanced.dropActive (h : balanced z b.active b.pools) : balanced z (b.dropActive n).active (b.dropActive n).pools := by
  intro p
  have hlent := lent_set b.active n none p
  have htable : (b.dropActive n).active = b.active.set n none := Row8.ext_get fun m => by simp
  rw [htable, BurstUnit.dropActive_pools]
  obtain ⟨hsum, hreserve⟩ := h p
  refine ⟨?_, hreserve⟩
  simp only [PoolAccount.credit, lentBy_none] at hlent ⊢
  omega

theorem balanced.withdraw (h : balanced z b.active b.pools) : balanced z (b.withdraw n).active (b.withdraw n).pools :=
  balanced.dropActive (b := b.dropEntry n) h

/-- Ageing credits what it takes from the table. -/
theorem balanced.age (h : balanced z b.active b.pools) : balanced z b.age.active b.age.pools := by
  intro p
  obtain ⟨hsum, hreserve⟩ := h p
  have hlent : lent b.age.active p + (sum8 fun n => endedCredit (b.active.get n) p) = lent b.active p := by
    simp only [lent, BurstUnit.age_active, ← sum8_add, lentBy_agedRecord]
  rw [BurstUnit.age_pools]
  refine ⟨?_, hreserve⟩
  simp only [PoolAccount.credit]
  omega

theorem balanced.admitHead {w : RoundWork} {e : QueueEntry} (hfree : w.active.get e.bay = none)
    (hpays : e.amount ≤ (w.pools.get e.pool).remaining) (h : balanced z w.active w.pools) :
    balanced z (w.admitHead e).active (w.admitHead e).pools := by
  intro p
  have hlent := lent_set w.active e.bay (some e.record) p
  obtain ⟨hsum, hreserve⟩ := h p
  simp only [hfree, lentBy_none, lentBy_some, QueueEntry.record, Nat.add_zero] at hlent
  simp only [RoundWork.admitHead, Row4.get_modify]
  by_cases hp : p = e.pool
  · subst hp
    simp only [if_pos, PoolAccount.charge] at hlent ⊢
    exact ⟨by omega, hreserve⟩
  · simp only [if_neg hp, if_neg (Ne.symm hp)] at hlent ⊢
    exact ⟨by omega, hreserve⟩

theorem balanced.round (h : balanced z b.active b.pools) (cap base : Nat) :
    balanced z (b.round cap base).unit.active (b.round cap base).unit.pools := by
  have hrun := RoundWork.run_induction (cap := cap) (P := fun w _ => balanced z w.active w.pools)
    ⟨b.age.active, b.age.pools, base + b.age.activeSum, []⟩ b.age.queue (fun w e _ hblocks hw => by
      obtain ⟨hfree, hpays, -⟩ := RoundWork.blocks_eq_none_iff.mp hblocks
      exact hw.admitHead hfree hpays) h.age
  exact hrun.of_same (fun p => RoundEnd.marks_remaining _ _ p) fun p => RoundEnd.marks_reserve _ _ p

theorem balanced_install (b : BurstUnit) (p : Profile) :
    balanced (fun i => (p.pools.get i).reserve) (b.install p).active (b.install p).pools := fun i => by
  simp [BurstUnit.install]

theorem balanced.withdrawn (h : balanced z b.active b.pools) (l : List Bay) :
    balanced z (l.foldl BurstUnit.withdraw b).active (l.foldl BurstUnit.withdraw b).pools := by
  induction l generalizing b with
  | nil => exact h
  | cons n l ih => exact ih h.withdraw

end Balance

/-! ### Sound pools -/

section PoolsSound
variable {s s' : State}

/-- The pools are sound when they balance under reserves that are the installed profile's. -/
theorem State.poolsSound_iff : s.poolsSound ↔ ∃ z, balanced z s.burst.active s.burst.pools ∧
    ∀ p, s.store.installed = some p → ∀ i, z i = (p.pools.get i).reserve := by
  constructor
  · intro h
    exact ⟨fun i => (s.burst.pools.get i).reserve, fun i => ⟨(h i).1, rfl⟩, fun p hp i => (h i).2 p hp⟩
  · rintro ⟨z, hz, hinstalled⟩ i
    obtain ⟨hsum, hreserve⟩ := hz i
    exact ⟨hsum.trans hreserve.symm, fun p hp => hreserve.trans (hinstalled p hp i)⟩

/-- A change that keeps the accounts balanced and the installed pools. -/
theorem State.poolsSound.of_balanced (hs : s.poolsSound)
    (hunit : ∀ z, balanced z s.burst.active s.burst.pools → balanced z s'.burst.active s'.burst.pools)
    (hstore : ∀ p', s'.store.installed = some p' → ∃ p, s.store.installed = some p ∧ p'.pools = p.pools) :
    s'.poolsSound := by
  obtain ⟨z, hz, hinstalled⟩ := State.poolsSound_iff.mp hs
  refine State.poolsSound_iff.mpr ⟨z, hunit z hz, fun p' hp' i => ?_⟩
  obtain ⟨p, hp, hpools⟩ := hstore p' hp'
  rw [hpools]
  exact hinstalled p hp i

theorem State.poolsSound.congr (hs : s.poolsSound) (hburst : s'.burst = s.burst) (hstore : s'.store = s.store) :
    s'.poolsSound :=
  hs.of_balanced (fun z h => by rwa [hburst]) fun p h => ⟨p, by rwa [hstore] at h, rfl⟩

/-- A change of the Burst Unit alone. -/
theorem State.poolsSound.setBurst (hs : s.poolsSound) {b : BurstUnit}
    (h : ∀ z, balanced z s.burst.active s.burst.pools → balanced z b.active b.pools) : (s.setBurst b).poolsSound :=
  hs.of_balanced h fun p hp => ⟨p, hp, rfl⟩

theorem State.poolsSound.bayLinkEffects (hs : s.poolsSound) (i : Fin 8) (t : Nat) : (s.bayLinkEffects i t).poolsSound :=
  hs.of_balanced (fun _ h => h.withdrawn _) fun p hp => ⟨p, hp, rfl⟩

theorem State.poolsSound.withdrawForPin (hs : s.poolsSound) (n : Bay) : (s.withdrawForPin n).poolsSound := by
  unfold State.withdrawForPin
  split
  · have hset : (s.setBurst (s.burst.withdraw n)).poolsSound := hs.setBurst fun _ h => h.withdraw
    exact hset.congr (by simp) (by simp)
  · exact hs

/-- An install fills the accounts to the new reserves, whatever they held. -/
theorem State.install_poolsSound (s : State) (p : Profile) (start : Nat) : (s.install p start).poolsSound := by
  refine State.poolsSound_iff.mpr ⟨fun i => (p.pools.get i).reserve, ?_, fun q hq i => ?_⟩
  · have hburst : (s.install p start).burst = s.burst.install p := by simp [State.install, State.installBurst]
    rw [hburst]
    exact balanced_install _ _
  · have hstore : (s.install p start).store.installed = some p := by simp [State.install]
    cases hstore.symm.trans hq
    rfl

theorem State.poolsSound.installWaiting (hs : s.poolsSound) (start : Nat) : (s.installWaiting start).poolsSound := by
  unfold State.installWaiting
  split
  · exact State.install_poolsSound _ _ _
  · exact hs

theorem State.poolsSound.beginOperation (hs : s.poolsSound) (clamped : Bool) : (s.beginOperation clamped).poolsSound := by
  unfold State.beginOperation
  split
  · exact hs
  · next p _ =>
    have hset : (s.setBurst (s.round p).unit).poolsSound := hs.setBurst fun _ h => h.round _ _
    exact hset.congr (by simp) (by simp)

theorem State.poolsSound.takeBoundary (hs : s.poolsSound) (start : Nat) : (s.takeBoundary start).poolsSound := by
  have hbegun : ((s.transfer start).nextEpoch).poolsSound := hs.congr rfl rfl
  unfold State.takeBoundary
  dsimp only
  exact State.poolsSound.beginOperation ((hbegun.installWaiting start).congr (by simp) (by simp)) _

theorem State.atRelease_poolsSound (s : State) (t : Nat) : (s.atRelease t).poolsSound :=
  State.poolsSound_iff.mpr ⟨fun _ => 0, fun p => by simp [State.atRelease, State.reset, BurstUnit.reset], nofun⟩

theorem served_poolsSound {k : LinkId} (h : Served s k s') (hs : s.poolsSound) : s'.poolsSound := by
  cases h
  case pin n v _ _ =>
    refine State.poolsSound.withdrawForPin ?_ n
    exact hs.congr rfl rfl
  case ask => exact hs.setBurst fun _ h => h
  case dropEntry => exact hs.setBurst fun _ h => h
  case dropActive => exact hs.setBurst fun _ h => h.dropActive
  case poolsRead =>
    exact hs.setBurst fun _ h => h.of_same (fun _ => by simp [BurstUnit.clearExhausted])
      fun _ => by simp [BurstUnit.clearExhausted]
  case caps p normal derated _ hp =>
    refine hs.of_balanced (fun _ h => h) fun q hq => ⟨p, hp, ?_⟩
    cases hq; rfl
  case linkReset i _ =>
    refine State.poolsSound.bayLinkEffects ?_ i _
    exact hs.congr rfl rfl
  case staged => exact hs.of_balanced (fun _ h => h) fun p hp => ⟨p, hp, rfl⟩
  case waiting => exact hs.of_balanced (fun _ h => h) fun p hp => ⟨p, hp, rfl⟩
  case started =>
    refine State.poolsSound.takeBoundary ?_ _
    exact hs.of_balanced (fun _ h => h) fun p hp => ⟨p, hp, rfl⟩
  all_goals exact hs.congr rfl rfl

end PoolsSound

theorem keptOnLine_poolsSound (k : LinkId) : KeptOnLine k State.poolsSound where
  advance _ hs := hs.congr rfl rfl
  setPort _ hs := hs.congr rfl rfl
  error hs := hs.congr rfl rfl
  linkReset i t _ hs := hs.bayLinkEffects i t
  service h hs := served_poolsSound h hs
  taken _ _ _ := State.atRelease_poolsSound _ _

theorem keptBySensing_poolsSound : KeptBySensing State.poolsSound where
  advance _ hs := hs.congr rfl rfl
  decoder _ _ hs := hs.congr rfl rfl
  sensor _ _ _ hs := hs.congr (by simp) (by simp)
  overtemp _ hs := hs.congr (by simp) (by simp)
  captured _ hs := hs.congr rfl rfl

theorem keptBySteps_poolsSound : KeptBySteps State.poolsSound where
  advance _ hs := hs.congr rfl rfl
  sensing hc hnext hs := keptBySensing_poolsSound.exec hc hnext hs
  onLink hc hnext hs := (keptOnLine_poolsSound _).exec hc hnext hs
  slot _ hs := hs.congr rfl rfl
  asserted _ hs := hs.congr (by simp) (by simp)
  deasserted _ hs := hs.congr (by simp) (by simp)
  rawDrt _ _ _ hs := hs.congr rfl rfl
  heldDrt _ _ hs := hs.congr rfl rfl
  completed _ hs := hs.congr (by simp) (by simp)
  boundary _ _ _ hs := hs.takeBoundary _
  powerOn {s} _ := (State.atRelease_poolsSound s s.now).congr rfl rfl
  release _ := State.atRelease_poolsSound _ _

/-- Settles O55: each change that a command is made of keeps the accounts balanced. -/
theorem stepsKeepThePoolsSound : Obligations.StepsKeepThePoolsSound :=
  fun _ _ hs hnext => keptBySteps_poolsSound.step (fun _ h => h.congr rfl rfl) hnext hs

end Sys2Proof.Machine
end

section
/-! PROOFS. Every step keeps queue, active table, demands and pins within their bounds (R79 to R81, R102, R103, R105). -/

namespace Sys2Proof.Machine

/-! ### The bounds of the Burst Unit -/

/-- An entry belongs to a bay that may hold bursts and to that bay's pool, and its fields lie in their ranges (R102). -/
def entrySound (may : Bay → Prop) (poolOf : Bay → Pool) (z : Pool → Nat) (e : QueueEntry) : Prop :=
  may e.bay ∧ e.pool = poolOf e.bay ∧ 1 ≤ e.amount ∧ e.amount ≤ 511 ∧ e.amount ≤ z e.pool ∧ 1 ≤ e.duration ∧
    e.duration ≤ 4095 ∧ 1 ≤ e.roundsLeft ∧ e.roundsLeft ≤ 256

/-- So does an active burst (R103). -/
def recordSound (may : Bay → Prop) (poolOf : Bay → Pool) (n : Bay) (r : ActiveBurst) : Prop :=
  may n ∧ r.pool = poolOf n ∧ 1 ≤ r.amount ∧ r.amount ≤ 511 ∧ 1 ≤ r.remaining ∧ r.remaining ≤ 4095

/-- Every active burst of a table does. -/
def tableSound (may : Bay → Prop) (poolOf : Bay → Pool) (t : Row8 (Option ActiveBurst)) : Prop :=
  ∀ n r, t.get n = some r → recordSound may poolOf n r

/-- The Burst Unit under the reserves `z`: at most one entry for each bay, sound entries and sound records. -/
def unitSound (may : Bay → Prop) (poolOf : Bay → Pool) (z : Pool → Nat) (b : BurstUnit) : Prop :=
  (b.queue.map QueueEntry.bay).Nodup ∧ (∀ e ∈ b.queue, entrySound may poolOf z e) ∧ tableSound may poolOf b.active ∧
    ∀ p, (b.pools.get p).reserve = z p

section Units
variable {may may' : Bay → Prop} {poolOf : Bay → Pool} {z : Pool → Nat} {b : BurstUnit} {n : Bay}

theorem entrySound.mono {e : QueueEntry} (h : entrySound may poolOf z e) (hmay : may e.bay → may' e.bay) :
    entrySound may' poolOf z e := ⟨hmay h.1, h.2⟩

theorem recordSound.mono {r : ActiveBurst} (h : recordSound may poolOf n r) (hmay : may n → may' n) :
    recordSound may' poolOf n r := ⟨hmay h.1, h.2⟩

theorem unitSound.dropEntry (h : unitSound may poolOf z b) : unitSound may poolOf z (b.dropEntry n) := by
  obtain ⟨hnodup, hqueue, htable, hreserve⟩ := h
  exact ⟨hnodup.sublist (List.filter_sublist.map _), fun e he => hqueue e (List.mem_of_mem_filter he), htable, hreserve⟩

theorem unitSound.dropActive (h : unitSound may poolOf z b) : unitSound may poolOf z (b.dropActive n) := by
  obtain ⟨hnodup, hqueue, htable, hreserve⟩ := h
  refine ⟨by simpa using hnodup, by simpa using hqueue, fun m r hr => ?_, fun p => ?_⟩
  · rw [BurstUnit.dropActive_active] at hr
    split at hr
    · cases hr
    · exact htable m r hr
  · rw [BurstUnit.dropActive_pools]; exact hreserve p

theorem unitSound.withdraw (h : unitSound may poolOf z b) : unitSound may poolOf z (b.withdraw n) := h.dropEntry.dropActive

/-- Once a bay's entry and its burst have left, nothing stands for that bay. -/
theorem unitSound.withdraw_mono (h : unitSound may poolOf z b) (hmay : ∀ m, m ≠ n → may m → may' m) :
    unitSound may' poolOf z (b.withdraw n) := by
  obtain ⟨hnodup, hqueue, htable, hreserve⟩ := h.withdraw (n := n)
  refine ⟨hnodup, fun e he => (hqueue e he).mono (hmay _ ?_), fun m r hr => (htable m r hr).mono (hmay m ?_), hreserve⟩
  · rw [BurstUnit.withdraw_queue, List.mem_filter] at he
    simpa using he.2
  · rintro rfl
    simp [BurstUnit.withdraw_active] at hr

theorem unitSound.withdrawn (h : unitSound may poolOf z b) (l : List Bay) :
    unitSound may poolOf z (l.foldl BurstUnit.withdraw b) := by
  induction l generalizing b with
  | nil => exact h
  | cons n l ih => exact ih h.withdraw

/-- An entry that joins the tail for a bay that has none. -/
theorem unitSound.join (h : unitSound may poolOf z b) {e : QueueEntry} (he : entrySound may poolOf z e)
    (hfree : ∀ f ∈ b.queue, f.bay ≠ e.bay) : unitSound may poolOf z { b with queue := b.queue ++ [e] } := by
  obtain ⟨hnodup, hqueue, htable, hreserve⟩ := h
  refine ⟨?_, fun f hf => ?_, htable, hreserve⟩
  · rw [List.map_append, List.nodup_append]
    refine ⟨hnodup, by simp, ?_⟩
    simpa using hfree
  · rw [List.mem_append, List.mem_singleton] at hf
    obtain hf | rfl := hf
    · exact hqueue f hf
    · exact he

theorem unitSound.clearExhausted (h : unitSound may poolOf z b) : unitSound may poolOf z b.clearExhausted :=
  ⟨h.1, h.2.1, h.2.2.1, fun p => by simpa [BurstUnit.clearExhausted] using h.2.2.2 p⟩

theorem tableSound.age (h : tableSound may poolOf b.active) : tableSound may poolOf b.age.active := by
  intro n r hr
  rw [BurstUnit.age_active, agedRecord, Option.bind_eq_some_iff] at hr
  obtain ⟨a, ha, hr⟩ := hr
  split at hr
  · cases hr
  · cases hr
    obtain ⟨hmay, hpool, hlow, hhigh, hleft, hmost⟩ := h n a ha
    exact ⟨hmay, hpool, hlow, hhigh, by dsimp only; omega, by dsimp only; omega⟩

theorem tableSound.admitHead {w : RoundWork} {e : QueueEntry} (he : entrySound may poolOf z e)
    (h : tableSound may poolOf w.active) : tableSound may poolOf (w.admitHead e).active := by
  intro n r hr
  simp only [RoundWork.admitHead, Row8.get_set] at hr
  split at hr
  · next hn =>
    subst hn
    cases hr
    obtain ⟨hmay, hpool, hlow, hhigh, -, hshort, hlong, -⟩ := he
    exact ⟨hmay, hpool, hlow, hhigh, hshort, hlong⟩
  · exact h n r hr

/-- What the round's admissions keep: sound entries left, sound records, the same reserves. -/
theorem unitSound.run (h : unitSound may poolOf z b) (cap total : Nat) :
    let r := RoundWork.run cap ⟨b.age.active, b.age.pools, total, []⟩ b.age.queue
    (∀ e ∈ r.2.1, entrySound may poolOf z e) ∧ tableSound may poolOf r.1.active ∧ ∀ p, (r.1.pools.get p).reserve = z p := by
  obtain ⟨-, hqueue, htable, hreserve⟩ := h
  refine RoundWork.run_induction
    (P := fun w l => (∀ e ∈ l, entrySound may poolOf z e) ∧ tableSound may poolOf w.active ∧
      ∀ p, (w.pools.get p).reserve = z p) _ _ (fun w e rest _ hw => ?_) ⟨by simpa using hqueue, htable.age, fun p => ?_⟩
  · obtain ⟨hentries, hrecords, hz⟩ := hw
    refine ⟨fun f hf => hentries f (List.mem_cons_of_mem _ hf), hrecords.admitHead (hentries e List.mem_cons_self),
      fun p => ?_⟩
    simp only [RoundWork.admitHead, Row4.get_modify]
    split
    · next hp => rw [hp]; exact hz e.pool
    · exact hz p
  · rw [BurstUnit.age_pools]; exact hreserve p

theorem unitSound.round (h : unitSound may poolOf z b) (cap base : Nat) : unitSound may poolOf z (b.round cap base).unit := by
  obtain ⟨hentries, hrecords, hz⟩ := h.run cap (base + b.age.activeSum)
  refine ⟨?_, fun e he => ?_, hrecords, fun p => ?_⟩
  · refine (h.1.sublist ?_).sublist (expireQueue_bays_sublist _)
    have hrest := RoundWork.run_rest_suffix cap ⟨b.age.active, b.age.pools, base + b.age.activeSum, []⟩ b.age.queue
    rw [BurstUnit.age_queue] at hrest
    simpa using hrest.sublist.map QueueEntry.bay
  · obtain ⟨f, hf, hrounds, rfl⟩ := mem_expireQueue he
    obtain ⟨hmay, hpool, hlow, hhigh, hres, hshort, hlong, hleft, hmost⟩ := hentries f hf
    exact ⟨hmay, hpool, hlow, hhigh, hres, hshort, hlong, by dsimp only; omega, by dsimp only; omega⟩
  · exact (RoundEnd.marks_reserve _ _ p).trans (hz p)

theorem unitSound_install (b : BurstUnit) (p : Profile) :
    unitSound may poolOf (fun i => (p.pools.get i).reserve) (b.install p) :=
  ⟨by simp [BurstUnit.install], by simp [BurstUnit.install], fun n r hr => by simp [BurstUnit.install] at hr,
    fun i => by simp [BurstUnit.install]⟩

end Units

/-! ### The bounds of demands and pins -/

/-- Each value of a row belongs to an occupied bay and is at most its peak (R79 to R81). -/
def limitsSound (blocks : Bay → BayBlock) (v : Row8 (Option Nat)) : Prop :=
  ∀ n x, v.get n = some x → (blocks n).occupied = true ∧ x ≤ (blocks n).peak

section Limits
variable {blocks : Bay → BayBlock} {v : Row8 (Option Nat)}

theorem limitsSound.set_min (h : limitsSound blocks v) {n : Bay} (hocc : (blocks n).occupied = true) (x : Nat) :
    limitsSound blocks (v.set n (some (min x (blocks n).peak))) := by
  intro m y hy
  rw [Row8.get_set] at hy
  split at hy
  · next hm => subst hm; cases hy; exact ⟨hocc, Nat.min_le_right _ _⟩
  · exact h m y hy

/-- A row with fewer values. -/
theorem limitsSound.sub (h : limitsSound blocks v) {v' : Row8 (Option Nat)} (hsub : ∀ n x, v'.get n = some x → v.get n = some x) :
    limitsSound blocks v' := fun n x hx => h n x (hsub n x hx)

theorem limitsSound_install (p : Profile) (v : Row8 (Option Nat)) :
    limitsSound (fun n => p.bays.get n) (installLimit p v) := by
  intro n x hx
  simp only [installLimit, Row8.get_mapIdx] at hx
  split at hx
  · next hocc =>
    obtain ⟨y, -, rfl⟩ := Option.map_eq_some_iff.mp hx
    exact ⟨hocc, Nat.min_le_right _ _⟩
  · cases hx

end Limits

/-! ### Sound bursts -/

section BurstsSound
variable {s s' : State}

/-- The bay is occupied and not pinned: it may hold bursts (R105). -/
def State.mayBurst (s : State) (n : Bay) : Prop := s.alloc.pin.get n = none ∧ s.occupied n = true

/-- The pool that a bay's block names. -/
def State.poolOf (s : State) (n : Bay) : Pool := (s.bayBlock n).pool

theorem State.burstsSound_iff : s.burstsSound ↔ (∃ z, unitSound s.mayBurst s.poolOf z s.burst) ∧
    limitsSound s.bayBlock s.alloc.demand ∧ limitsSound s.bayBlock s.alloc.pin := by
  constructor
  · rintro ⟨hnodup, hqueue, htable, hdemand, hpin⟩
    refine ⟨⟨fun p => (s.burst.pools.get p).reserve, hnodup, fun e he => ?_, fun n r hr => ?_, fun _ => rfl⟩, hdemand, hpin⟩
    · obtain ⟨hfree, hocc, hpool, hlow, hhigh, hres, hrest⟩ := hqueue e he
      exact ⟨⟨hfree, hocc⟩, hpool, hlow, hhigh, hres, hrest⟩
    · obtain ⟨hfree, hocc, hrest⟩ := htable n r hr
      exact ⟨⟨hfree, hocc⟩, hrest⟩
  · rintro ⟨⟨z, hnodup, hqueue, htable, hz⟩, hdemand, hpin⟩
    refine ⟨hnodup, fun e he => ?_, fun n r hr => ?_, hdemand, hpin⟩
    · obtain ⟨⟨hfree, hocc⟩, hpool, hlow, hhigh, hres, hrest⟩ := hqueue e he
      exact ⟨hfree, hocc, hpool, hlow, hhigh, (hz e.pool).symm ▸ hres, hrest⟩
    · obtain ⟨⟨hfree, hocc⟩, hrest⟩ := htable n r hr
      exact ⟨hfree, hocc, hrest⟩

/-- A change under which the bays' blocks stay, and unit, demands and pins stay sound. -/
theorem State.burstsSound.of_sound (hs : s.burstsSound) (hblocks : ∀ n, s'.bayBlock n = s.bayBlock n)
    (hunit : ∀ z, unitSound s.mayBurst s.poolOf z s.burst → unitSound s'.mayBurst s.poolOf z s'.burst)
    (hdemand : limitsSound s.bayBlock s.alloc.demand → limitsSound s.bayBlock s'.alloc.demand)
    (hpin : limitsSound s.bayBlock s.alloc.pin → limitsSound s.bayBlock s'.alloc.pin) : s'.burstsSound := by
  obtain ⟨⟨z, hz⟩, hd, hp⟩ := State.burstsSound_iff.mp hs
  have hblocks' : s'.bayBlock = s.bayBlock := funext hblocks
  have hpool : s'.poolOf = s.poolOf := funext fun n => by rw [State.poolOf, State.poolOf, hblocks n]
  refine State.burstsSound_iff.mpr ⟨⟨z, ?_⟩, ?_, ?_⟩
  · rw [hpool]; exact hunit z hz
  · rw [hblocks']; exact hdemand hd
  · rw [hblocks']; exact hpin hp

/-- The same where pins stay too, and with them the bays that may hold bursts. -/
theorem State.burstsSound.of_unit (hs : s.burstsSound) (hblocks : ∀ n, s'.bayBlock n = s.bayBlock n)
    (hpin : s'.alloc.pin = s.alloc.pin)
    (hunit : ∀ z, unitSound s.mayBurst s.poolOf z s.burst → unitSound s.mayBurst s.poolOf z s'.burst)
    (hdemand : limitsSound s.bayBlock s.alloc.demand → limitsSound s.bayBlock s'.alloc.demand) : s'.burstsSound := by
  have hmay : s'.mayBurst = s.mayBurst := funext fun n => by
    rw [State.mayBurst, State.mayBurst, State.occupied, State.occupied, hpin, hblocks n]
  exact hs.of_sound hblocks (fun z h => by rw [hmay]; exact hunit z h) hdemand fun h => by rwa [hpin]

theorem State.burstsSound.congr (hs : s.burstsSound) (hburst : s'.burst = s.burst) (hblocks : ∀ n, s'.bayBlock n = s.bayBlock n)
    (hdemand : s'.alloc.demand = s.alloc.demand) (hpin : s'.alloc.pin = s.alloc.pin) : s'.burstsSound :=
  hs.of_unit hblocks hpin (fun _ h => by rwa [hburst]) fun h => by rwa [hdemand]

theorem State.burstsSound.setBurst (hs : s.burstsSound) {b : BurstUnit}
    (h : ∀ z, unitSound s.mayBurst s.poolOf z s.burst → unitSound s.mayBurst s.poolOf z b) : (s.setBurst b).burstsSound :=
  hs.of_unit (fun _ => rfl) rfl h id

theorem State.burstsSound.bayLinkEffects (hs : s.burstsSound) (i : Fin 8) (t : Nat) : (s.bayLinkEffects i t).burstsSound := by
  refine hs.of_unit (by simp) rfl (fun _ h => h.withdrawn _) fun h => h.sub fun n x hx => ?_
  simp only [State.bayLinkEffects, State.withdrawSilently, State.setBurst_alloc, State.setAlloc_alloc, Allocator.undeclare,
    Row8.get_mapIdx] at hx
  split at hx
  · cases hx
  · exact hx

/-- A pin: the bay may hold no bursts from here on, and what it held has left. -/
theorem State.burstsSound.pinned (hs : s.burstsSound) {n : Bay} (hocc : s.occupied n = true) (v : Nat) :
    ((s.setAlloc { s.alloc with pin := s.alloc.pin.set n (some (min v (s.bayBlock n).peak)) }).withdrawForPin n).burstsSound := by
  have hburst : ((s.setAlloc { s.alloc with pin := s.alloc.pin.set n (some (min v (s.bayBlock n).peak)) }).withdrawForPin
      n).burst = s.burst.withdraw n := by
    unfold State.withdrawForPin
    split
    · simp
    · next h => exact (BurstUnit.withdraw_of_not_holds _ _ (by simpa using h)).symm
  refine hs.of_sound (by simp) (fun z h => ?_) (by simp) fun h => by simpa using h.set_min hocc v
  rw [hburst]
  refine h.withdraw_mono fun m hm hmay => ?_
  simpa [State.mayBurst, hm] using hmay

theorem State.install_burstsSound (s : State) (p : Profile) (start : Nat) : (s.install p start).burstsSound := by
  have hblocks : (s.install p start).bayBlock = fun n => p.bays.get n := by
    funext n; simp [State.install, State.bayBlock]
  have hburst : (s.install p start).burst = s.burst.install p := by simp [State.install, State.installBurst]
  refine State.burstsSound_iff.mpr ⟨⟨_, hburst ▸ unitSound_install _ _⟩, ?_, ?_⟩
  · rw [hblocks]; simpa [State.install] using limitsSound_install p s.alloc.demand
  · rw [hblocks]; simpa [State.install] using limitsSound_install p s.alloc.pin

theorem State.burstsSound.installWaiting (hs : s.burstsSound) (start : Nat) : (s.installWaiting start).burstsSound := by
  unfold State.installWaiting
  split
  · exact State.install_burstsSound _ _ _
  · exact hs

theorem State.burstsSound.beginOperation (hs : s.burstsSound) (clamped : Bool) : (s.beginOperation clamped).burstsSound := by
  unfold State.beginOperation
  split
  · exact hs
  · next p _ =>
    have hset : (s.setBurst (s.round p).unit).burstsSound := hs.setBurst fun _ h => h.round _ _
    exact hset.congr (by simp) (by simp) rfl rfl

theorem State.burstsSound.takeBoundary (hs : s.burstsSound) (start : Nat) : (s.takeBoundary start).burstsSound := by
  have hbegun : ((s.transfer start).nextEpoch).burstsSound := hs.congr rfl (fun _ => rfl) rfl rfl
  unfold State.takeBoundary
  dsimp only
  exact State.burstsSound.beginOperation ((hbegun.installWaiting start).congr (by simp) (by simp) (by simp) (by simp)) _

theorem State.atRelease_burstsSound (s : State) (t : Nat) : (s.atRelease t).burstsSound := by
  refine State.burstsSound_iff.mpr ⟨⟨fun _ => 0, ?_, ?_, ?_, ?_⟩, ?_, ?_⟩
  · exact List.nodup_nil
  · exact fun _ h => absurd h List.not_mem_nil
  · exact fun n r hr => by simp [State.atRelease, State.reset, BurstUnit.reset] at hr
  · exact fun p => by simp [State.atRelease, State.reset, BurstUnit.reset]
  · exact fun n x hx => by simp [State.atRelease, State.reset, Allocator.reset] at hx
  · exact fun n x hx => by simp [State.atRelease, State.reset, Allocator.reset] at hx

/-- An admissible ask makes a sound entry (R106, R107). -/
theorem State.newEntry_sound {n : Bay} {amount duration : Nat} {wait tag : Byte} {z : Pool → Nat}
    (hgood : ¬s.badAsk n amount duration = true) (hpin : s.alloc.pin.get n = none)
    (hz : ∀ p, (s.burst.pools.get p).reserve = z p) :
    entrySound s.mayBurst s.poolOf z (s.newEntry n amount duration wait.toNat tag) := by
  simp only [State.badAsk, Bool.or_eq_true, Bool.not_eq_true', decide_eq_true_eq, not_or, inRange,
    Bool.not_eq_false, decide_eq_false_iff_not, not_not, Nat.not_lt] at hgood
  obtain ⟨⟨⟨hocc, ham⟩, hdur⟩, hres⟩ := hgood
  have hwait : wait.toNat < 256 := wait.isLt
  simp only [entrySound, State.newEntry]
  exact ⟨⟨hpin, hocc⟩, rfl, ham.1, ham.2, hz _ ▸ hres, hdur.1, hdur.2, by omega, by omega⟩

theorem served_burstsSound {k : LinkId} (h : Served s k s') (hs : s.burstsSound) : s'.burstsSound := by
  cases h
  case demand n v _ hocc => exact hs.of_unit (fun _ => rfl) rfl (fun _ h => h) fun h => h.set_min hocc v
  case pin n v _ hocc => exact hs.pinned hocc v
  case unpin n _ =>
    refine hs.of_sound (fun _ => rfl) (fun z h => ?_) id fun h => h.sub fun m x hx => ?_
    · refine ⟨h.1, fun e he => (h.2.1 e he).mono ?_, fun m r hr => (h.2.2.1 m r hr).mono ?_, h.2.2.2⟩ <;>
        exact fun hmay => ⟨by simp [hmay.1], hmay.2⟩
    · simp only [State.setAlloc_alloc, Row8.get_set] at hx
      split at hx
      · cases hx
      · exact hx
  case ask n amount duration wait tag _ _ hgood hpin hfree =>
    exact hs.setBurst fun z h => h.join (State.newEntry_sound hgood hpin h.2.2.2) fun f hf hbay => hfree ⟨f, hf, hbay⟩
  case dropEntry => exact hs.setBurst fun _ h => h.dropEntry
  case dropActive => exact hs.setBurst fun _ h => h.dropActive
  case poolsRead => exact hs.setBurst fun _ h => h.clearExhausted
  case caps p normal derated _ hp =>
    refine hs.congr rfl (fun n => ?_) rfl rfl
    simp [State.bayBlock, hp, Profile.setCaps]
  case linkReset i _ =>
    refine State.burstsSound.bayLinkEffects ?_ i _
    exact hs.congr rfl (fun _ => rfl) rfl rfl
  case started =>
    refine State.burstsSound.takeBoundary ?_ _
    exact hs.congr rfl (fun _ => rfl) rfl rfl
  all_goals exact hs.congr rfl (fun _ => rfl) rfl rfl

end BurstsSound

theorem keptOnLine_burstsSound (k : LinkId) : KeptOnLine k State.burstsSound where
  advance _ hs := hs.congr rfl (fun _ => rfl) rfl rfl
  setPort _ hs := hs.congr rfl (fun _ => rfl) rfl rfl
  error hs := hs.congr rfl (by simp) rfl rfl
  linkReset i t _ hs := hs.bayLinkEffects i t
  service h hs := served_burstsSound h hs
  taken _ _ _ := State.atRelease_burstsSound _ _

theorem keptBySensing_burstsSound : KeptBySensing State.burstsSound where
  advance _ hs := hs.congr rfl (fun _ => rfl) rfl rfl
  decoder _ _ hs := hs.congr rfl (fun _ => rfl) rfl rfl
  sensor _ _ _ hs := hs.congr (by simp) (by simp) (by simp) (by simp)
  overtemp _ hs := hs.congr (by simp) (by simp) (by simp) (by simp)
  captured _ hs := hs.congr rfl (by simp) rfl rfl

theorem keptBySteps_burstsSound : KeptBySteps State.burstsSound where
  advance _ hs := hs.congr rfl (fun _ => rfl) rfl rfl
  sensing hc hnext hs := keptBySensing_burstsSound.exec hc hnext hs
  onLink hc hnext hs := (keptOnLine_burstsSound _).exec hc hnext hs
  slot _ hs := hs.congr rfl (fun _ => rfl) rfl rfl
  asserted _ hs := hs.congr (by simp) (by simp) (by simp) (by simp)
  deasserted _ hs := hs.congr (by simp) (by simp) (by simp) (by simp)
  rawDrt _ _ _ hs := hs.congr rfl (fun _ => rfl) rfl rfl
  heldDrt _ _ hs := hs.congr rfl (fun _ => rfl) rfl rfl
  completed _ hs := hs.congr (by simp) (by simp) rfl rfl
  boundary _ _ _ hs := hs.takeBoundary _
  powerOn {s} _ := (State.atRelease_burstsSound s s.now).congr rfl (fun _ => rfl) rfl rfl
  release _ := State.atRelease_burstsSound _ _

/-- Settles O56: each change that a command is made of keeps the structures, demands and pins within their bounds. -/
theorem stepsKeepTheBurstsSound : Obligations.StepsKeepTheBurstsSound :=
  fun _ _ hs hnext => keptBySteps_burstsSound.step (fun _ h => h.congr rfl (fun _ => rfl) rfl rfl) hnext hs

end Sys2Proof.Machine
end

section
/-! PROOFS. Every step keeps each throttle line in agreement with its bay (R125, R129, R145). -/

namespace Sys2Proof.Machine

/-! ### Counts and the pattern check (R132, R180) -/

theorem countMin_le_countOf {b : BayBlock} (h : b.countMin ≤ b.len) (g : Nat) : b.countMin ≤ countOf b g := by
  unfold countOf
  split
  · exact le_rfl
  · split
    · exact h
    · exact Nat.le_max_left _ _

theorem countOf_le_len {b : BayBlock} (h : b.countMin ≤ b.len) (g : Nat) : countOf b g ≤ b.len := by
  unfold countOf
  split
  · exact h
  · split
    · exact le_rfl
    · refine Nat.max_le.mpr ⟨h, Nat.div_le_of_le_mul ?_⟩
      exact Nat.mul_le_mul_right _ (by omega)

theorem lowestBay_eq_none {bad : Bay → Bool} (h : lowestBay bad = none) (n : Bay) : bad n = false := by
  rw [lowestBay, Option.map_eq_none_iff, List.find?_eq_none] at h
  have hmem : n ∈ numbers8 := by revert n; decide
  simpa using h n hmem

/-- The first failing check decides; where none fails, check 4 does not (R180). -/
theorem ProfileStore.patternsSound_of_passed {st : ProfileStore} (h : st.firstFailure = none) : st.staging.patternsSound := by
  intro n hocc
  simp only [ProfileStore.firstFailure, Option.orElse_eq_orElse, Option.orElse_eq_or, Option.or_eq_none_iff, failAt,
    Option.map_eq_none_iff] at h
  obtain ⟨-, -, -, hpattern, -⟩ := h
  have hgood := lowestBay_eq_none hpattern n
  simp only [badPattern, hocc, Bool.true_and, decide_eq_false_iff_not, not_or, Nat.not_lt] at hgood
  obtain ⟨h1, h2, h3, h4, h5⟩ := hgood
  exact ⟨h1, h2, h3, h4, by omega⟩

/-! ### One line -/

section OneLine
variable {l : Line} {b : BayBlock}

/-- An occupied bay's line. -/
theorem Line.soundFor_of_occupied (hocc : b.occupied = true) : l.soundFor b ↔ l.slotIndex < l.len ∧ l.mode = .profile ∧
    l.len = b.len ∧ l.phi = b.phi ∧ b.countMin ≤ l.live ∧ l.live ≤ b.len ∧
    ∀ x, l.staged = some x → b.countMin ≤ x.count ∧ x.count ≤ b.len := by
  rw [Line.soundFor, if_pos hocc]

/-- A vacant bay's line. -/
theorem Line.soundFor_of_vacant (hocc : b.occupied = false) : l.soundFor b ↔ l.slotIndex < l.len ∧ l.mode = .default ∧
    l.len = 16 ∧ l.live = 8 ∧ l.phi = 0 ∧ l.slotTimeUs = 100 ∧ l.staged = none ∧ l.hold = .free := by
  rw [Line.soundFor, if_neg (by simp [hocc])]

theorem Line.defaultAt_soundFor (hocc : b.occupied = false) (t : Nat) : (Line.defaultAt t).soundFor b := by
  rw [Line.soundFor_of_vacant hocc]
  exact ⟨Nat.zero_lt_succ 15, rfl, rfl, rfl, rfl, rfl, rfl, rfl⟩

/-- A line in DEFAULT mode belongs to a vacant bay, one in PROFILE mode to an occupied one. -/
theorem Line.soundFor.occupied_iff (h : l.soundFor b) : b.occupied = true ↔ l.mode = .profile := by
  cases hocc : b.occupied with
  | true => simp [((Line.soundFor_of_occupied hocc).mp h).2.1]
  | false => simp [((Line.soundFor_of_vacant hocc).mp h).2.1]

/-- A new slot within the pattern changes nothing of the pattern. -/
theorem Line.soundFor.startSlot (h : l.soundFor b) {start index : Nat} (hindex : index < l.len) :
    (l.startSlot start index).soundFor b := ⟨hindex, h.2⟩

theorem Line.soundFor.nextSlot (h : l.soundFor b) : l.nextSlot.soundFor b :=
  h.startSlot (Nat.mod_lt _ (Nat.zero_lt_of_lt h.1))

/-- A change of a line in PROFILE mode that keeps its pattern and leaves counts within it. -/
theorem Line.soundFor.of_profile (h : l.soundFor b) (hmode : l.mode = .profile) {live : Nat} {staged : Option Staged}
    {hold : Hold} (hlive : b.occupied = true → b.countMin ≤ live ∧ live ≤ b.len)
    (hstaged : b.occupied = true → ∀ x, staged = some x → b.countMin ≤ x.count ∧ x.count ≤ b.len) :
    Line.soundFor { l with live := live, staged := staged, hold := hold } b := by
  have hocc := h.occupied_iff.mpr hmode
  obtain ⟨hindex, -, hlen, hphi, -, -, -⟩ := (Line.soundFor_of_occupied hocc).mp h
  exact (Line.soundFor_of_occupied hocc).mpr
    ⟨hindex, hmode, hlen, hphi, (hlive hocc).1, (hlive hocc).2, hstaged hocc⟩

/-- The live count of an occupied bay's line. -/
theorem Line.soundFor.live (h : l.soundFor b) (hocc : b.occupied = true) : b.countMin ≤ l.live ∧ l.live ≤ b.len := by
  obtain ⟨-, -, -, -, hmin, hmax, -⟩ := (Line.soundFor_of_occupied hocc).mp h
  exact ⟨hmin, hmax⟩

/-- The staged count of an occupied bay's line. -/
theorem Line.soundFor.staged (h : l.soundFor b) (hocc : b.occupied = true) {x : Staged} (hx : l.staged = some x) :
    b.countMin ≤ x.count ∧ x.count ≤ b.len := by
  obtain ⟨-, -, -, -, -, -, hstaged⟩ := (Line.soundFor_of_occupied hocc).mp h
  exact hstaged x hx

variable (hb : b.occupied = true → b.patternSound)
include hb

theorem Line.soundFor.overtemp (h : l.soundFor b) : (l.overtemp b.countMin).soundFor b := by
  have hlow (hocc : b.occupied = true) : b.countMin ≤ b.countMin ∧ b.countMin ≤ b.len := by
    obtain ⟨h1, h2, -⟩ := hb hocc
    exact ⟨le_rfl, h1.trans h2⟩
  unfold Line.overtemp
  split
  · exact h
  · next hmode =>
    refine h.of_profile hmode hlow fun hocc x hx => ?_
    obtain ⟨y, -, rfl⟩ := Option.map_eq_some_iff.mp hx
    exact hlow hocc

theorem Line.soundFor.fastClamp (h : l.soundFor b) : (l.fastClamp b.countDerate).soundFor b := by
  unfold Line.fastClamp
  split
  · exact h
  · next hmode =>
    refine h.of_profile hmode (fun hocc => ?_) fun hocc x hx => h.staged hocc hx
    obtain ⟨h1, -⟩ := hb hocc
    obtain ⟨hmin, hmax⟩ := h.live hocc
    exact ⟨le_min hmin h1, (Nat.min_le_left _ _).trans hmax⟩

theorem Line.soundFor.transferred (h : l.soundFor b) (hocc : b.occupied = true) (derate : Bool) :
    b.countMin ≤ l.transferred derate b.countDerate ∧ l.transferred derate b.countDerate ≤ b.len := by
  unfold Line.transferred
  split
  · next x hx =>
    obtain ⟨hmin, hmax⟩ := h.staged hocc hx
    split
    · exact ⟨le_min hmin (hb hocc).1, (Nat.min_le_left _ _).trans hmax⟩
    · exact ⟨hmin, hmax⟩
  · exact h.live hocc

theorem Line.soundFor.transfer (h : l.soundFor b) (derate : Bool) (start : Nat) :
    (l.transfer derate b.countDerate start).soundFor b := by
  unfold Line.transfer
  split
  · exact h
  · next hmode =>
    have hmoved := h.of_profile (staged := none) (hold := l.hold.atTransfer) hmode
      (fun hocc => h.transferred hb hocc derate) nofun
    exact hmoved.startSlot (Nat.zero_lt_of_lt h.1)

omit hb in
theorem Line.soundFor.atSnapshot (h : l.soundFor b) : l.atSnapshot.soundFor b := by
  unfold Line.atSnapshot
  split
  · next hmode _ => exact h.of_profile hmode h.live fun hocc x hx => h.staged hocc hx
  · exact h

theorem Line.soundFor.stage (h : l.soundFor b) {count : Nat} (hcount : b.countMin ≤ count ∧ count ≤ b.len) (derated : Bool) :
    (l.stage count b.countMin derated).soundFor b := by
  unfold Line.stage
  split
  · exact h
  · next hmode =>
    refine h.of_profile hmode h.live fun hocc x hx => ?_
    cases hx
    obtain ⟨h1, h2, -⟩ := hb hocc
    dsimp only [Hold.stagedCount]
    split
    · exact ⟨le_rfl, h1.trans h2⟩
    · exact hcount

omit hb in
/-- The live count an install gives an occupied bay lies within its new pattern (R143). -/
theorem Line.installedCount_within {old new : BayBlock} (h : l.soundFor old) (hnew : new.patternSound) (derate : Bool) :
    new.countMin ≤ l.installedCount old new derate ∧ l.installedCount old new derate ≤ new.len := by
  obtain ⟨h1, h2, h3, h4, -⟩ := hnew
  unfold Line.installedCount
  split
  · split
    · next hsame =>
      simp only [BayBlock.samePattern, Bool.and_eq_true, beq_iff_eq] at hsame
      obtain ⟨hocc, ⟨⟨⟨hlen, hmin⟩, -⟩, -⟩, -⟩ := hsame
      obtain ⟨hlow, hhigh⟩ := h.live hocc
      exact ⟨hmin ▸ hlow, hlen ▸ hhigh⟩
    · split
      · exact ⟨le_min h3 h1, (Nat.min_le_left _ _).trans h4⟩
      · exact ⟨h3, h4⟩
  · exact ⟨le_rfl, h1.trans h2⟩

omit hb in
/-- An install brings every line to its bay's new pattern (R143, R144). -/
theorem Line.soundFor.install {old new : BayBlock} (h : l.soundFor old) (hnew : new.occupied = true → new.patternSound)
    (slotTimeUs : Nat) (derate : Bool) (start : Nat) : (l.install old new slotTimeUs derate start).soundFor new := by
  unfold Line.install
  split
  · next hocc =>
    obtain ⟨hlow, hhigh⟩ := l.installedCount_within h (hnew hocc) derate
    obtain ⟨-, -, -, -, hphi⟩ := hnew hocc
    exact (Line.soundFor_of_occupied hocc).mpr
      ⟨Nat.zero_lt_of_lt hphi, rfl, rfl, rfl, hlow, hhigh, nofun⟩
  · next hocc =>
    have hvacant : new.occupied = false := by simpa using hocc
    split
    · next hmode =>
      have hold : old.occupied = false := by
        cases ho : old.occupied with
        | false => rfl
        | true => rw [h.occupied_iff.mp ho] at hmode; cases hmode
      exact (Line.soundFor_of_vacant hvacant).mpr ((Line.soundFor_of_vacant hold).mp h)
    · exact Line.defaultAt_soundFor hvacant start

end OneLine

/-! ### The state's lines -/

section LinesSound
variable {s s' : State}

/-- The profiles installed and pending passed check 4, and every line agrees with its bay. -/
def State.linesAgree (s : State) : Prop :=
  (∀ p, s.store.installed = some p → p.patternsSound) ∧ (∀ p, s.store.waiting = some p → p.patternsSound) ∧
    ∀ n, (s.lines.get n).soundFor (s.bayBlock n)

/-- The operation in flight works on the installed bays. -/
def State.flightAgrees (s : State) : Prop :=
  ∀ x, s.alloc.flight = some x → ∃ p, s.store.installed = some p ∧ x.profile.bays = p.bays

theorem State.linesSound_iff : s.linesSound ↔ s.linesAgree ∧ s.flightAgrees := by
  constructor
  · rintro ⟨hinstalled, hwaiting, hflight, hlines⟩
    exact ⟨⟨hinstalled, hwaiting, hlines⟩, hflight⟩
  · rintro ⟨⟨hinstalled, hwaiting, hlines⟩, hflight⟩
    exact ⟨hinstalled, hwaiting, hflight, hlines⟩

/-- An occupied bay's block passed check 4. -/
theorem State.linesAgree.pattern (hs : s.linesAgree) (n : Bay) (hocc : (s.bayBlock n).occupied = true) :
    (s.bayBlock n).patternSound := by
  unfold State.bayBlock at hocc ⊢
  split at hocc
  · next p hp => exact hs.1 p hp n hocc
  · cases hocc

theorem State.linesAgree.of_lines (hs : s.linesAgree) (hstore : s'.store = s.store)
    (hlines : ∀ n, (s'.lines.get n).soundFor (s.bayBlock n)) : s'.linesAgree := by
  obtain ⟨hinstalled, hwaiting, -⟩ := hs
  have hblock : ∀ n, s'.bayBlock n = s.bayBlock n := fun n => by simp only [State.bayBlock, hstore]
  exact ⟨hstore ▸ hinstalled, hstore ▸ hwaiting, fun n => hblock n ▸ hlines n⟩

theorem State.linesAgree.congr (hs : s.linesAgree) (hstore : s'.store = s.store) (hlines : s'.lines = s.lines) :
    s'.linesAgree := hs.of_lines hstore fun n => hlines ▸ hs.2.2 n

theorem State.linesSound.of_lines (hs : s.linesSound) (hstore : s'.store = s.store) (hflight : s'.alloc.flight = s.alloc.flight)
    (hlines : ∀ n, (s'.lines.get n).soundFor (s.bayBlock n)) : s'.linesSound := by
  obtain ⟨hagree, hinstalled⟩ := State.linesSound_iff.mp hs
  refine State.linesSound_iff.mpr ⟨hagree.of_lines hstore hlines, fun x hx => ?_⟩
  rw [hstore]
  exact hinstalled x (hflight ▸ hx)

theorem State.linesSound.congr (hs : s.linesSound) (hstore : s'.store = s.store)
    (hflight : s'.alloc.flight = s.alloc.flight) (hlines : s'.lines = s.lines) : s'.linesSound :=
  hs.of_lines hstore hflight fun n => hlines ▸ hs.2.2.2 n

/-- One line changed. -/
theorem State.linesSound.setLine (hs : s.linesSound) {n : Bay} {l : Line} (hl : l.soundFor (s.bayBlock n)) :
    (s.setLine n l).linesSound := by
  refine hs.of_lines rfl rfl fun m => ?_
  simp only [State.setLine, State.setLines_lines, Row8.get_set]
  split
  · next hm => rw [hm]; exact hl
  · exact hs.2.2.2 m

theorem State.linesSound.overtemp (hs : s.linesSound) (n : Bay) : (s.overtemp n).linesSound := by
  obtain ⟨hagree, -⟩ := State.linesSound_iff.mp hs
  have hset := hs.setLine ((hagree.2.2 n).overtemp (hagree.pattern n))
  exact hset.congr (by simp [State.overtemp]) (by simp [State.overtemp]) (by simp [State.overtemp])

theorem State.linesSound.assertDerate (hs : s.linesSound) : s.assertDerate.linesSound := by
  obtain ⟨hagree, -⟩ := State.linesSound_iff.mp hs
  refine hs.of_lines (by simp) (by simp) fun n => ?_
  unfold State.assertDerate
  dsimp only
  split
  · simp only [State.raiseShelf_lines, State.fastClamp, State.setLines_lines, Row8.get_mapIdx, State.setCycle_lines]
    exact (hagree.2.2 n).fastClamp (hagree.pattern n)
  · exact hagree.2.2 n

/-- The counts that a completion stages lie within the installed patterns (R134). -/
theorem State.linesSound.complete (hs : s.linesSound) {x : Snapshot} (hx : s.alloc.flight = some x) :
    (s.complete x).linesSound := by
  obtain ⟨hagree, hflight⟩ := State.linesSound_iff.mp hs
  obtain ⟨p, hp, hbays⟩ := hflight x hx
  have hblock : ∀ n, s.bayBlock n = x.block n := fun n => by simp only [State.bayBlock, hp, Snapshot.block, hbays]
  refine State.linesSound_iff.mpr ⟨hagree.of_lines (by simp) fun n => ?_, fun y hy => by simp [State.complete, Allocator.publish] at hy⟩
  have hlines : (s.complete x).lines.get n =
      if x.occupied n then (s.lines.get n).stage (x.count n) (x.block n).countMin x.derated else s.lines.get n := by
    simp [State.complete, State.stageCounts]
  rw [hlines]
  split
  · next hocc =>
    have hpattern := hagree.pattern n (by rw [hblock]; exact hocc)
    have hlow : (s.bayBlock n).countMin ≤ (s.bayBlock n).len := hpattern.1.trans hpattern.2.1
    rw [Snapshot.count, ← hblock]
    exact (hagree.2.2 n).stage (fun _ => hpattern) ⟨countMin_le_countOf hlow _, countOf_le_len hlow _⟩ _
  · exact hagree.2.2 n

theorem State.linesAgree.install (hs : s.linesAgree) {p : Profile} (hp : p.patternsSound) (start : Nat) :
    (s.install p start).linesAgree := by
  have hblock (n : Bay) : (s.install p start).bayBlock n = p.bays.get n := by simp [State.install, State.bayBlock]
  have hline (n : Bay) : (s.install p start).lines.get n =
      (s.lines.get n).install (s.bayBlock n) (p.bays.get n) p.shelf.slotTimeUs s.cycle.derate start := by
    simp [State.install]
  refine ⟨fun q hq => ?_, fun q hq => ?_, fun n => ?_⟩
  · have hstore : (s.install p start).store.installed = some p := by simp [State.install]
    cases hstore.symm.trans hq
    exact hp
  · have hstore : (s.install p start).store.waiting = none := by simp [State.install]
    cases hstore.symm.trans hq
  · rw [hblock, hline]
    exact (hs.2.2 n).install (hp n) _ _ _

theorem State.linesAgree.installWaiting (hs : s.linesAgree) (start : Nat) : (s.installWaiting start).linesAgree := by
  unfold State.installWaiting
  split
  · next p hp => exact hs.install (hs.2.1 p hp) start
  · exact hs

/-- A boundary begins an operation on the installed profile; with none installed nothing is in flight. -/
theorem State.beginOperation_flightAgrees (clamped : Bool) (hnone : s.store.installed = none → s.alloc.flight = none) :
    (s.beginOperation clamped).flightAgrees := by
  intro x hx
  unfold State.beginOperation at hx ⊢
  split at hx
  · next hinstalled => rw [hnone hinstalled] at hx; cases hx
  · next p hp =>
    simp only [State.setAlloc_alloc, Option.some.injEq] at hx
    subst hx
    exact ⟨p, by simpa using hp, rfl⟩

theorem State.linesAgree.takeBoundary (hs : s.linesAgree) (start : Nat) : (s.takeBoundary start).linesAgree := by
  have htransferred : ((s.transfer start).nextEpoch).linesAgree := hs.of_lines rfl fun n => by
    have hline : (s.transfer start).nextEpoch.lines.get n =
        (s.lines.get n).transfer s.cycle.derate (s.bayBlock n).countDerate start := by
      simp [State.transfer, State.nextEpoch]
    rw [hline]
    exact (hs.2.2 n).transfer (hs.pattern n) _ _
  have hinstalled := htransferred.installWaiting start
  unfold State.takeBoundary
  dsimp only
  refine State.linesAgree.congr (s := ((s.transfer start).nextEpoch.installWaiting start).holdsAtSnapshot) ?_
    (by simp) (by simp [State.holdsAtSnapshot])
  exact hinstalled.of_lines rfl fun n => by
    simpa [State.holdsAtSnapshot] using (hinstalled.2.2 n).atSnapshot

/-- An install never leaves the store without a profile. -/
theorem State.installWaiting_installed_none (start : Nat) (h : (s.installWaiting start).store.installed = none) :
    s.store.installed = none ∧ (s.installWaiting start).alloc.flight = s.alloc.flight := by
  unfold State.installWaiting at h ⊢
  split at h
  · simp [State.install] at h
  · exact ⟨h, rfl⟩

theorem State.linesSound.takeBoundary (hs : s.linesSound) (start : Nat) : (s.takeBoundary start).linesSound := by
  obtain ⟨hagree, hflight⟩ := State.linesSound_iff.mp hs
  refine State.linesSound_iff.mpr ⟨hagree.takeBoundary start, ?_⟩
  unfold State.takeBoundary
  dsimp only
  refine State.beginOperation_flightAgrees _ fun hnone => ?_
  obtain ⟨hinstalled, hkept⟩ := State.installWaiting_installed_none (s := (s.transfer start).nextEpoch) start (by simpa using hnone)
  have hsame : s.alloc.flight = none := by
    cases hx : s.alloc.flight with
    | none => rfl
    | some x =>
      obtain ⟨p, hp, -⟩ := hflight x hx
      exact absurd (hp.symm.trans hinstalled) nofun
  simpa [State.nextEpoch, hsame] using hkept

theorem State.atRelease_linesSound (s : State) (t : Nat) : (s.atRelease t).linesSound := by
  have hstore : (s.atRelease t).store = ⟨Profile.empty, 0, none, none⟩ := rfl
  have halloc : (s.atRelease t).alloc = Allocator.reset := rfl
  refine ⟨fun p hp => ?_, fun p hp => ?_, fun x hx => ?_, fun n => ?_⟩
  · rw [hstore] at hp; cases hp
  · rw [hstore] at hp; cases hp
  · rw [halloc] at hx; cases hx
  · have hline : (s.atRelease t).lines.get n = Line.defaultAt t := by simp [State.atRelease]
    rw [hline, State.bayBlock, hstore]
    exact Line.defaultAt_soundFor rfl t

theorem served_linesSound {k : LinkId} (h : Served s k s') (hs : s.linesSound) : s'.linesSound := by
  obtain ⟨hinstalled, hwaiting, hflight, hlines⟩ := id hs
  have hwaits (hpass : s.store.firstFailure = none) :
      (s.setStore { s.store with waiting := some s.store.staging }).linesSound := by
    refine ⟨hinstalled, fun p hp => ?_, hflight, hlines⟩
    cases hp
    exact ProfileStore.patternsSound_of_passed hpass
  cases h
  case caps p normal derated _ hp =>
    have hblock (n : Bay) :
        (s.setStore { s.store with installed := some (p.setCaps normal derated) }).bayBlock n = s.bayBlock n := by
      simp [State.bayBlock, hp, Profile.setCaps]
    refine ⟨fun q hq => ?_, hwaiting, fun x hx => ?_, fun n => hblock n ▸ hlines n⟩
    · cases hq; exact hinstalled p hp
    · obtain ⟨q, hq, hbays⟩ := hflight x hx
      cases hp.symm.trans hq
      exact ⟨_, rfl, hbays⟩
  case staged => exact ⟨hinstalled, hwaiting, hflight, hlines⟩
  case waiting _ _ hpass _ => exact hwaits hpass
  case started _ _ hpass _ => exact (hwaits hpass).takeBoundary _
  case linkReset => exact hs.congr (by simp) rfl (by simp)
  all_goals exact hs.congr (by simp) (by simp) (by simp)

end LinesSound

theorem keptOnLine_linesSound (k : LinkId) : KeptOnLine k State.linesSound where
  advance _ hs := hs.congr rfl rfl rfl
  setPort _ hs := hs.congr rfl rfl rfl
  error hs := hs.congr rfl rfl rfl
  linkReset _ _ _ hs := hs.congr (by simp) rfl (by simp)
  service h hs := served_linesSound h hs
  taken _ _ _ := State.atRelease_linesSound _ _

theorem keptBySensing_linesSound : KeptBySensing State.linesSound where
  advance _ hs := hs.congr rfl rfl rfl
  decoder _ _ hs := hs.congr rfl rfl rfl
  sensor _ _ _ hs := hs.congr (by simp) (by simp) (by simp)
  overtemp n hs := hs.overtemp n
  captured _ hs := hs.congr rfl rfl rfl

theorem keptBySteps_linesSound : KeptBySteps State.linesSound where
  advance _ hs := hs.congr rfl rfl rfl
  sensing hc hnext hs := keptBySensing_linesSound.exec hc hnext hs
  onLink hc hnext hs := (keptOnLine_linesSound _).exec hc hnext hs
  slot n hs := hs.setLine (hs.2.2.2 n).nextSlot
  asserted _ hs := hs.assertDerate
  deasserted _ hs := hs.congr (by simp) (by simp) (by simp)
  rawDrt _ _ _ hs := hs.congr rfl rfl rfl
  heldDrt _ _ hs := hs.congr rfl rfl rfl
  completed hx hs := hs.complete hx
  boundary _ _ _ hs := hs.takeBoundary _
  powerOn {s} _ := (State.atRelease_linesSound s s.now).congr rfl rfl rfl
  release _ := State.atRelease_linesSound _ _

/-- Settles O57: each change that a command is made of keeps the lines in agreement with their bays. -/
theorem stepsKeepTheLinesSound : Obligations.StepsKeepTheLinesSound :=
  fun _ _ hs hnext => keptBySteps_linesSound.step (fun _ h => h.congr rfl rfl rfl) hnext hs

end Sys2Proof.Machine
end

section
/-! PROOFS. An install and a boundary, each block said once (R39 to R50, R181). -/

namespace Sys2Proof.Machine

/-! ### The install of a profile (R181) -/

section Install
variable (s : State) (p : Profile) (start : Nat)

@[simp] theorem State.install_store :
    (s.install p start).store = { s.store with installed := some p, waiting := none } := by simp [State.install]

@[simp] theorem State.install_alloc : (s.install p start).alloc =
    { s.alloc with demand := installLimit p s.alloc.demand, pin := installLimit p s.alloc.pin } := by simp [State.install]

@[simp] theorem State.install_burst : (s.install p start).burst = s.burst.install p := by
  simp [State.install, State.installBurst]

@[simp] theorem State.install_lines : (s.install p start).lines = s.lines.mapIdx fun n l =>
    l.install (s.bayBlock n) (p.bays.get n) p.shelf.slotTimeUs s.cycle.derate start := by simp [State.install]

@[simp] theorem State.install_bindings : (s.install p start).bindings = p.bindings := by simp [State.bindings]

@[simp] theorem State.install_bayBlock (n : Bay) : (s.install p start).bayBlock n = p.bays.get n := by
  simp [State.bayBlock]

end Install

/-! ### The boundary (R44 to R47) -/

section Boundary
variable (s : State) (start : Nat)

/-- The state at a boundary once the transfer is done, the epoch number counted and the pending profile installed. -/
def State.atBoundary (s : State) (start : Nat) : State := ((s.transfer start).nextEpoch).installWaiting start

/-- The state that the snapshot of a boundary is taken of. -/
def State.beforeSnapshot (s : State) (start : Nat) : State :=
  (((s.atBoundary start).derateCheck (s.alloc.engine == .stopped)).restartEpochTimer start).holdsAtSnapshot

theorem State.takeBoundary_eq : s.takeBoundary start = (s.beforeSnapshot start).beginOperation s.takesClamp := rfl

theorem State.atBoundary_of_none (hwaiting : s.store.waiting = none) :
    s.atBoundary start = (s.transfer start).nextEpoch := by
  have h : (s.transfer start).nextEpoch.store.waiting = none := hwaiting
  rw [State.atBoundary, State.installWaiting, h]

theorem State.atBoundary_of_some {p : Profile} (hwaiting : s.store.waiting = some p) :
    s.atBoundary start = ((s.transfer start).nextEpoch).install p start := by
  have h : (s.transfer start).nextEpoch.store.waiting = some p := hwaiting
  rw [State.atBoundary, State.installWaiting, h]

/-- The profile in force from a boundary on is the pending one, if any. -/
theorem State.atBoundary_store : (s.atBoundary start).store =
    { s.store with installed := s.store.waiting.or s.store.installed, waiting := none } := by
  cases h : s.store.waiting with
  | none =>
    have hsame : s.store = { s.store with waiting := none } := by rw [← h]
    rw [s.atBoundary_of_none start h]
    exact hsame
  | some p => rw [s.atBoundary_of_some start h]; simp [State.nextEpoch, State.transfer]

@[simp] theorem State.atBoundary_cycle : (s.atBoundary start).cycle = s.cycle := by simp [State.atBoundary]

/-- A boundary counts the epoch; of the rest it touches demands and pins alone. -/
theorem State.atBoundary_alloc : ∃ demand pin, (s.atBoundary start).alloc =
    { s.alloc with engine := .running, epoch := s.alloc.epoch + 1, demand := demand, pin := pin } := by
  cases h : s.store.waiting with
  | none =>
    rw [s.atBoundary_of_none start h]
    exact ⟨s.alloc.demand, s.alloc.pin, by simp [State.nextEpoch]⟩
  | some p =>
    rw [s.atBoundary_of_some start h]
    exact ⟨installLimit p s.alloc.demand, installLimit p s.alloc.pin, by simp [State.nextEpoch]⟩

@[simp] theorem State.beforeSnapshot_store : (s.beforeSnapshot start).store = (s.atBoundary start).store := by
  simp [State.beforeSnapshot]

@[simp] theorem State.beforeSnapshot_alloc : (s.beforeSnapshot start).alloc = (s.atBoundary start).alloc := by
  simp [State.beforeSnapshot]

@[simp] theorem State.beforeSnapshot_burst : (s.beforeSnapshot start).burst = (s.atBoundary start).burst := by
  simp [State.beforeSnapshot]

/-- The derate check leaves the flag set only where the level stands high too (R43, R45). -/
theorem State.derateCheck_cycle (first : Bool) :
    (s.derateCheck first).cycle = { s.cycle with derate := s.cycle.derate && s.cycle.debounced } := by
  obtain ⟨_, _, _, _, _, _, _, ⟨_, _, _, debounced, derate⟩, _, _, _, _, _, _⟩ := s
  cases derate <;> cases debounced <;> cases first <;> rfl

/-- The derate line at the snapshot, and the epoch timer set by the profile in force (R40, R45). -/
theorem State.beforeSnapshot_cycle {p : Profile} (hp : (s.atBoundary start).store.installed = some p) :
    (s.beforeSnapshot start).cycle =
      { s.cycle with derate := s.cycle.derate && s.cycle.debounced, epochDue := some (start + ms p.shelf.epochMs) } := by
  simp [State.beforeSnapshot, State.restartEpochTimer, hp, State.holdsAtSnapshot, State.derateCheck_cycle]

/-- Snapshot and admission round under the installed profile. -/
theorem State.beginOperation_of_installed {p : Profile} (hp : s.store.installed = some p) (clamped : Bool) :
    s.beginOperation clamped = ((s.setBurst (s.round p).unit).raiseRound (s.round p)).setAlloc
      { s.alloc with flight := some (s.snapshot p clamped (s.round p)) } := by
  unfold State.beginOperation
  rw [hp]

/-- The Grant Allocator after a boundary. -/
theorem State.takeBoundary_alloc {p : Profile} (hp : (s.atBoundary start).store.installed = some p) :
    (s.takeBoundary start).alloc = { (s.atBoundary start).alloc with
      flight := some ((s.beforeSnapshot start).snapshot p s.takesClamp ((s.beforeSnapshot start).round p)) } := by
  rw [State.takeBoundary_eq, State.beginOperation_of_installed _ (by simpa using hp)]
  simp

/-- The Burst Unit after a boundary is what the admission round left. -/
theorem State.takeBoundary_burst {p : Profile} (hp : (s.atBoundary start).store.installed = some p) :
    (s.takeBoundary start).burst = ((s.beforeSnapshot start).round p).unit := by
  rw [State.takeBoundary_eq, State.beginOperation_of_installed _ (by simpa using hp)]
  simp

@[simp] theorem State.takeBoundary_store : (s.takeBoundary start).store = (s.atBoundary start).store := by
  simp [State.takeBoundary_eq]

@[simp] theorem State.takeBoundary_cycle : (s.takeBoundary start).cycle = (s.beforeSnapshot start).cycle := by
  simp [State.takeBoundary_eq]

end Boundary

end Sys2Proof.Machine
end

section
/-! PROOFS. Every step keeps engine, derate line, epoch numbers and history ring coherent (R38 to R43, R54, R58, R98). -/

namespace Sys2Proof.Machine

/-! ### The history ring (R54) -/

/-- At most eight summaries, consecutive up to the last completed allocation, none with grants above its cap; the operation in
flight carries the current epoch number. -/
def Allocator.ringSound (a : Allocator) : Prop :=
  a.ring.length ≤ 8 ∧ (∀ i x y, a.ring[i]? = some x → a.ring[i + 1]? = some y → y.epoch = x.epoch + 1) ∧
  (∀ x, a.flight = some x → x.epoch = a.epoch) ∧
  (∀ y, a.ring.getLast? = some y → y.epoch + (if a.flight.isSome = true then 1 else 0) = a.epoch) ∧
  ∀ y ∈ a.ring, y.grants ≤ y.cap

section Ring
variable {a a' : Allocator}

theorem Allocator.ringSound.congr (h : a.ringSound) (hring : a'.ring = a.ring) (hflight : a'.flight = a.flight)
    (hepoch : a'.epoch = a.epoch) : a'.ringSound := by
  simpa only [Allocator.ringSound, hring, hflight, hepoch] using h

theorem Allocator.reset_ringSound : Allocator.reset.ringSound := by simp [Allocator.ringSound, Allocator.reset]

theorem pushSummary_length (ring : List Summary) (x : Summary) (h : ring.length ≤ 8) : (pushSummary ring x).length ≤ 8 := by
  simp only [pushSummary, List.length_drop, List.length_append, List.length_singleton]
  omega

theorem mem_pushSummary {ring : List Summary} {x y : Summary} (h : y ∈ pushSummary ring x) : y ∈ ring ∨ y = x := by
  have hmem := List.mem_of_mem_drop h
  simpa using hmem

theorem pushSummary_getLast? (ring : List Summary) (x : Summary) : (pushSummary ring x).getLast? = some x := by
  rw [pushSummary, List.getLast?_drop]
  simp

/-- Consecutive epoch numbers stay consecutive when the next one joins. -/
theorem pushSummary_consecutive {ring : List Summary} {x : Summary}
    (h : ∀ i x y, ring[i]? = some x → ring[i + 1]? = some y → y.epoch = x.epoch + 1)
    (hlast : ∀ y, ring.getLast? = some y → x.epoch = y.epoch + 1) (i : Nat) (y z : Summary)
    (hy : (pushSummary ring x)[i]? = some y) (hz : (pushSummary ring x)[i + 1]? = some z) : z.epoch = y.epoch + 1 := by
  rw [pushSummary, List.getElem?_drop] at hy hz
  generalize hj : ring.length - 7 + i = j at hy
  rw [← Nat.add_assoc, hj] at hz
  obtain hlt | heq | hgt := Nat.lt_trichotomy (j + 1) ring.length
  · rw [List.getElem?_append_left hlt] at hz
    rw [List.getElem?_append_left (Nat.lt_of_succ_lt hlt)] at hy
    exact h j y z hy hz
  · rw [List.getElem?_append_left (by omega)] at hy
    rw [List.getElem?_append_right heq.ge, heq, Nat.sub_self] at hz
    cases hz
    exact hlast y (by rw [List.getLast?_eq_getElem?, ← heq]; exact hy)
  · rw [List.getElem?_eq_none (by simp; omega)] at hz
    cases hz

/-- A completion appends the summary of the operation in flight. -/
theorem Allocator.ringSound.publish (h : a.ringSound) {x : Snapshot} (hx : a.flight = some x) : (a.publish x).ringSound := by
  obtain ⟨hlength, hconsecutive, hflight, hlast, hcap⟩ := h
  have hepoch := hflight x hx
  refine ⟨pushSummary_length _ _ hlength, pushSummary_consecutive hconsecutive fun y hy => ?_, fun y hy => ?_,
    fun y hy => ?_, fun y hy => ?_⟩
  · have hnext : y.epoch + 1 = a.epoch := by simpa [hx] using hlast y hy
    exact hepoch.trans hnext.symm
  · simp [Allocator.publish] at hy
  · simp only [Allocator.publish] at hy ⊢
    cases (pushSummary_getLast? _ _).symm.trans hy
    simpa [Snapshot.summary] using hepoch
  · obtain hy | rfl := mem_pushSummary hy
    · exact hcap y hy
    · exact x.grants_le_cap

end Ring

/-! ### Engine and derate line -/

section RingSound
variable {s s' : State}

/-- The derate flag covers the debounced level, and a debounce runs exactly while the raw line differs (R41 to R43). -/
def State.derateSound (s : State) : Prop :=
  (s.cycle.debounced = true → s.cycle.derate = true) ∧
    (s.inReset = false → (s.cycle.drtSince.isSome = true ↔ s.cycle.rawDrt ≠ s.cycle.debounced))

/-- The engine runs exactly while a profile is installed and the epoch timer is set (R38, R39). -/
def State.engineRuns (s : State) : Prop :=
  (s.alloc.engine = .running ↔ s.store.installed.isSome = true) ∧
    (s.alloc.engine = .running ↔ s.cycle.epochDue.isSome = true)

/-- Everything of the cycle at its reset value, as while STOPPED (R58). -/
def State.cycleAtReset (s : State) : Prop :=
  s.alloc = Allocator.reset ∧ s.store.waiting = none ∧ s.burst = BurstUnit.reset ∧ s.cycle.derate = s.cycle.debounced

theorem State.ringSound_iff : s.ringSound ↔ s.engineRuns ∧ (s.alloc.engine = .stopped → s.cycleAtReset) ∧ s.derateSound ∧
    s.alloc.ringSound := by
  constructor
  · rintro ⟨⟨hinstalled, htimer, hstopped, hderate, hdebounce⟩, hring⟩
    exact ⟨⟨hinstalled, htimer⟩, hstopped, ⟨hderate, hdebounce⟩, hring⟩
  · rintro ⟨⟨hinstalled, htimer⟩, hstopped, ⟨hderate, hdebounce⟩, hring⟩
    exact ⟨⟨hinstalled, htimer, hstopped, hderate, hdebounce⟩, hring⟩

theorem State.ringSound.congr (hs : s.ringSound) (halloc : s'.alloc = s.alloc) (hstore : s'.store = s.store)
    (hcycle : s'.cycle = s.cycle) (hburst : s'.burst = s.burst) (hreset : s'.inReset = s.inReset) : s'.ringSound := by
  simpa only [State.ringSound, State.engineSound, halloc, hstore, hcycle, hburst, hreset] using hs

/-- A change of demands, pins, records, bursts and profiles that keeps the engine, and while STOPPED changes nothing of the cycle. -/
theorem State.ringSound.of_service (hs : s.ringSound) (hengine : s'.alloc.engine = s.alloc.engine)
    (hring : s'.alloc.ring = s.alloc.ring) (hflight : s'.alloc.flight = s.alloc.flight)
    (hepoch : s'.alloc.epoch = s.alloc.epoch) (hinstalled : s'.store.installed.isSome = s.store.installed.isSome)
    (hcycle : s'.cycle = s.cycle) (hreset : s'.inReset = s.inReset)
    (hstopped : s.alloc.engine = .stopped → s.alloc = Allocator.reset → s.store.waiting = none → s.burst = BurstUnit.reset →
      s'.alloc = Allocator.reset ∧ s'.store.waiting = none ∧ s'.burst = BurstUnit.reset) : s'.ringSound := by
  obtain ⟨hruns, hidle, hderate, hsound⟩ := State.ringSound_iff.mp hs
  refine State.ringSound_iff.mpr ⟨?_, fun h => ?_, ?_, hsound.congr hring hflight hepoch⟩
  · simpa only [State.engineRuns, hengine, hinstalled, hcycle] using hruns
  · obtain ⟨halloc, hwaiting, hburst, hequal⟩ := hidle (hengine ▸ h)
    obtain ⟨halloc', hwaiting', hburst'⟩ := hstopped (hengine ▸ h) halloc hwaiting hburst
    exact ⟨halloc', hwaiting', hburst', by rw [hcycle]; exact hequal⟩
  · simpa only [State.derateSound, hcycle, hreset] using hderate

/-- An occupied bay tells that a profile is installed and the engine runs. -/
theorem State.ringSound.running_of_occupied (hs : s.ringSound) {n : Bay} (hocc : s.occupied n = true) :
    s.alloc.engine = .running := by
  obtain ⟨⟨hinstalled, -⟩, -⟩ := State.ringSound_iff.mp hs
  refine hinstalled.mpr ?_
  unfold State.occupied State.bayBlock at hocc
  split at hocc
  · next hp => rw [hp]; rfl
  · cases hocc

/-! ### What changes nothing while STOPPED -/

@[simp] theorem Row8.const_set {α : Type} (x : α) (n : Fin 8) : (Row8.const x).set n x = Row8.const x :=
  Row8.ext_get fun m => by simp

theorem Allocator.undeclare_reset (l : List Bay) : Allocator.reset.undeclare l = Allocator.reset := by
  have hdemand : (Row8.const none : Row8 (Option Nat)).mapIdx (fun n v => if l.contains n then none else v) =
      Row8.const none := Row8.ext_get fun n => by simp
  simp only [Allocator.undeclare, Allocator.reset, hdemand]

theorem BurstUnit.dropActive_reset (n : Bay) : BurstUnit.reset.dropActive n = BurstUnit.reset := by
  have hnone : BurstUnit.reset.active.get n = none := by simp [BurstUnit.reset]
  rw [BurstUnit.dropActive, hnone]

theorem BurstUnit.withdraw_reset (n : Bay) : BurstUnit.reset.withdraw n = BurstUnit.reset :=
  BurstUnit.dropActive_reset n

theorem BurstUnit.foldl_withdraw_reset (l : List Bay) : l.foldl BurstUnit.withdraw BurstUnit.reset = BurstUnit.reset := by
  induction l with
  | nil => rfl
  | cons n l ih => rw [List.foldl_cons, BurstUnit.withdraw_reset, ih]

theorem State.ringSound.bayLinkEffects (hs : s.ringSound) (i : Fin 8) (t : Nat) : (s.bayLinkEffects i t).ringSound := by
  refine hs.of_service rfl rfl rfl rfl rfl rfl rfl fun _ halloc hwaiting hburst => ⟨?_, hwaiting, ?_⟩
  · have h : (s.bayLinkEffects i t).alloc = s.alloc.undeclare (s.bindings.get i) := rfl
    rw [h, halloc, Allocator.undeclare_reset]
  · have h : (s.bayLinkEffects i t).burst = (s.bindings.get i).foldl BurstUnit.withdraw s.burst := rfl
    rw [h, hburst, BurstUnit.foldl_withdraw_reset]

/-! ### The cycle's own changes -/

theorem State.ringSound.assertDerate (hs : s.ringSound) {t : Nat} (hdue : s.cycle.assertionDue t = true) :
    s.assertDerate.ringSound := by
  obtain ⟨hruns, hidle, -, hring⟩ := State.ringSound_iff.mp hs
  have hraw : s.cycle.rawDrt = true := by
    simp only [CycleTimer.assertionDue, Bool.and_eq_true] at hdue
    exact hdue.1.1
  have hcycle : s.assertDerate.cycle = { s.cycle with debounced := true, drtSince := none, derate := true } := by
    unfold State.assertDerate
    dsimp only
    split <;> rfl
  refine State.ringSound_iff.mpr ⟨?_, fun h => ?_, ?_, ?_⟩
  · simpa [State.engineRuns, hcycle] using hruns
  · obtain ⟨halloc, hwaiting, hburst, -⟩ := hidle (by simpa using h)
    exact ⟨by simpa using halloc, by simpa using hwaiting, by simpa using hburst, by rw [hcycle]⟩
  · simp [State.derateSound, hcycle, hraw]
  · simpa using hring

theorem State.ringSound.deassertDerate (hs : s.ringSound) {t : Nat} (hdue : s.cycle.deassertionDue t = true) :
    s.deassertDerate.ringSound := by
  obtain ⟨hruns, hidle, -, hring⟩ := State.ringSound_iff.mp hs
  have hraw : s.cycle.rawDrt = false := by
    simp only [CycleTimer.deassertionDue, Bool.and_eq_true, Bool.not_eq_true'] at hdue
    exact hdue.1.1
  unfold State.deassertDerate
  split
  · next hengine =>
    refine State.ringSound_iff.mpr ⟨hruns, fun h => ?_, ?_, hring⟩
    · exact absurd (hengine.symm.trans h) nofun
    · simp [State.derateSound, hraw]
  · refine State.ringSound_iff.mpr ⟨hruns, fun h => ?_, ?_, hring⟩
    · obtain ⟨halloc, hwaiting, hburst, -⟩ := hidle h
      exact ⟨halloc, hwaiting, hburst, rfl⟩
    · simp [State.derateSound, hraw]

theorem State.ringSound.raw (hs : s.ringSound) (t : Nat) (high : Bool) : (s.setCycle (s.cycle.raw t high)).ringSound := by
  obtain ⟨hruns, hidle, ⟨hderate, hdebounce⟩, hring⟩ := State.ringSound_iff.mp hs
  unfold CycleTimer.raw
  split
  · exact hs.congr rfl rfl rfl rfl rfl
  · refine State.ringSound_iff.mpr ⟨hruns, hidle, ⟨hderate, fun _ => ?_⟩, hring⟩
    simp only [State.setCycle_cycle]
    split <;> simp_all

theorem State.ringSound.heldRaw (hs : s.ringSound) (hreset : s.inReset = true) (high : Bool) :
    (s.setCycle { s.cycle with rawDrt := high }).ringSound := by
  obtain ⟨hruns, hidle, ⟨hderate, -⟩, hring⟩ := State.ringSound_iff.mp hs
  exact State.ringSound_iff.mpr ⟨hruns, hidle, ⟨hderate, fun h => by simp [hreset] at h⟩, hring⟩

theorem State.ringSound.complete (hs : s.ringSound) {x : Snapshot} (hx : s.alloc.flight = some x) :
    (s.complete x).ringSound := by
  obtain ⟨hruns, hidle, hderate, hring⟩ := State.ringSound_iff.mp hs
  refine State.ringSound_iff.mpr ⟨?_, fun h => ?_, ?_, hring.publish hx⟩
  · simpa [State.engineRuns, State.complete, Allocator.publish] using hruns
  · obtain ⟨halloc, -⟩ := hidle h
    rw [halloc] at hx
    cases hx
  · simpa [State.derateSound] using hderate

/-- A boundary under an installed profile leaves the engine running with the next operation in flight. -/
theorem State.takeBoundary_ringSound {start : Nat} {p : Profile} (hp : (s.atBoundary start).store.installed = some p)
    (hflight : s.alloc.flight = none) (hderate : s.derateSound) (hring : s.alloc.ringSound) :
    (s.takeBoundary start).ringSound := by
  obtain ⟨demand, pin, halloc⟩ := s.atBoundary_alloc start
  have hafter := s.takeBoundary_alloc start hp
  have hcycle := s.beforeSnapshot_cycle start hp
  refine State.ringSound_iff.mpr ⟨⟨?_, ?_⟩, fun h => ?_, ⟨fun h => ?_, fun h => ?_⟩, ?_⟩
  · simp [hafter, halloc, hp]
  · simp [hafter, halloc, hcycle]
  · simp [hafter, halloc] at h
  · simp only [State.takeBoundary_cycle, hcycle, Bool.and_eq_true] at h ⊢
    exact ⟨hderate.1 h, h⟩
  · simpa [hcycle] using hderate.2 (by simpa using h)
  · obtain ⟨hlength, hconsecutive, -, hlast, hcap⟩ := hring
    rw [hafter, halloc]
    refine ⟨hlength, hconsecutive, fun x hx => ?_, fun y hy => ?_, hcap⟩
    · cases hx
      simp [State.snapshot, halloc]
    · have hbefore : y.epoch = s.alloc.epoch := by simpa [hflight] using hlast y hy
      simp [hbefore]

theorem State.atRelease_ringSound (s : State) (t : Nat) : (s.atRelease t).ringSound := by
  have hcycle : (s.atRelease t).cycle =
      ⟨none, s.cycle.rawDrt, if s.cycle.rawDrt then some t else none, false, false⟩ := rfl
  have halloc : (s.atRelease t).alloc = Allocator.reset := rfl
  refine State.ringSound_iff.mpr ⟨⟨?_, ?_⟩, fun _ => ⟨rfl, rfl, rfl, rfl⟩, ⟨?_, fun _ => ?_⟩, Allocator.reset_ringSound⟩
  · simp [Allocator.reset, State.atRelease, State.reset]
  · simp [halloc, Allocator.reset, hcycle]
  · simp [hcycle]
  · rw [hcycle]; cases s.cycle.rawDrt <;> simp

/-! ### Services and steps -/

theorem served_ringSound {k : LinkId} (h : Served s k s') (hs : s.ringSound) : s'.ringSound := by
  obtain ⟨hruns, hidle, hderate, hring⟩ := State.ringSound_iff.mp hs
  have hrunning {q : Prop} (hrun : s.alloc.engine = .running) (hstop : s.alloc.engine = .stopped) : q :=
    absurd (hrun.symm.trans hstop) nofun
  cases h
  case demand n v _ hocc =>
    exact hs.of_service rfl rfl rfl rfl rfl rfl rfl fun h _ _ _ => hrunning (hs.running_of_occupied hocc) h
  case pin n v _ hocc =>
    exact hs.of_service (by simp) (by simp) (by simp) (by simp) (by simp) (by simp) (by simp)
      fun h _ _ _ => hrunning (hs.running_of_occupied hocc) h
  case unpin n _ =>
    refine hs.of_service rfl rfl rfl rfl rfl rfl rfl fun _ halloc hwaiting hburst => ⟨?_, hwaiting, hburst⟩
    simp [halloc, Allocator.reset]
  case ask _ _ _ _ _ _ hrun _ _ _ => exact hs.of_service rfl rfl rfl rfl rfl rfl rfl fun h _ _ _ => hrunning hrun h
  case dropEntry n _ =>
    refine hs.of_service rfl rfl rfl rfl rfl rfl rfl fun _ halloc hwaiting hburst => ⟨halloc, hwaiting, ?_⟩
    simp only [State.setBurst_burst, hburst]
    rfl
  case dropActive n _ =>
    refine hs.of_service rfl rfl rfl rfl rfl rfl rfl fun _ halloc hwaiting hburst => ⟨halloc, hwaiting, ?_⟩
    simp only [State.setBurst_burst, hburst, BurstUnit.dropActive_reset]
  case sticky =>
    refine hs.of_service rfl rfl rfl rfl rfl rfl rfl fun _ halloc hwaiting hburst => ⟨?_, hwaiting, hburst⟩
    simp [halloc, Allocator.reset]
  case poolsRead _ hrun => exact hs.of_service rfl rfl rfl rfl rfl rfl rfl fun h _ _ _ => hrunning hrun h
  case caps p _ _ _ hp =>
    exact hs.of_service rfl rfl rfl rfl (by simp [hp]) rfl rfl fun h _ _ _ =>
      hrunning (hruns.1.mpr (by simp [hp])) h
  case linkReset i _ =>
    refine State.ringSound.bayLinkEffects ?_ i _
    exact hs.congr rfl rfl rfl rfl rfl
  case staged => exact hs.of_service rfl rfl rfl rfl rfl rfl rfl fun _ halloc hwaiting hburst => ⟨halloc, hwaiting, hburst⟩
  case waiting _ _ _ hrun => exact hs.of_service rfl rfl rfl rfl rfl rfl rfl fun h _ _ _ => hrunning hrun h
  case started _ _ _ hstopped =>
    obtain ⟨halloc, -⟩ := hidle hstopped
    refine State.takeBoundary_ringSound (p := s.store.staging) ?_ ?_ hderate hring
    · rw [State.atBoundary_store]; rfl
    · simp [halloc, Allocator.reset]
  all_goals exact hs.congr (by simp) (by simp) (by simp) (by simp) (by simp)

end RingSound

theorem keptOnLine_ringSound (k : LinkId) : KeptOnLine k State.ringSound where
  advance _ hs := hs.congr rfl rfl rfl rfl rfl
  setPort _ hs := hs.congr rfl rfl rfl rfl rfl
  error hs := hs.congr rfl rfl rfl rfl rfl
  linkReset i t _ hs := hs.bayLinkEffects i t
  service h hs := served_ringSound h hs
  taken _ _ _ := State.atRelease_ringSound _ _

theorem keptBySensing_ringSound : KeptBySensing State.ringSound where
  advance _ hs := hs.congr rfl rfl rfl rfl rfl
  decoder _ _ hs := hs.congr rfl rfl rfl rfl rfl
  sensor _ _ _ hs := hs.congr (by simp) (by simp) (by simp) (by simp) (by simp)
  overtemp _ hs := hs.congr (by simp) (by simp) (by simp) (by simp) (by simp)
  captured _ hs := hs.congr rfl rfl rfl rfl rfl

theorem keptBySteps_ringSound : KeptBySteps State.ringSound where
  advance _ hs := hs.congr rfl rfl rfl rfl rfl
  sensing hc hnext hs := keptBySensing_ringSound.exec hc hnext hs
  onLink hc hnext hs := (keptOnLine_ringSound _).exec hc hnext hs
  slot _ hs := hs.congr rfl rfl rfl rfl rfl
  asserted hdue hs := hs.assertDerate hdue
  deasserted hdue hs := hs.deassertDerate hdue
  rawDrt t high _ hs := hs.raw t high
  heldDrt high hreset hs := hs.heldRaw hreset high
  completed hx hs := hs.complete hx
  boundary {s d} _ hdue hflight hs := by
    obtain ⟨⟨hinstalled, htimer⟩, -, hderate, hring⟩ := State.ringSound_iff.mp hs
    obtain ⟨p, hp⟩ := Option.isSome_iff_exists.mp (hinstalled.mp (htimer.mpr (by simp [hdue])))
    have hforce : (s.atBoundary d).store.installed = some (s.store.waiting.getD p) := by
      rw [State.atBoundary_store, hp]
      cases s.store.waiting <;> rfl
    exact State.takeBoundary_ringSound hforce hflight hderate hring
  powerOn {s} _ := by
    obtain ⟨hruns, hidle, ⟨hderate, -⟩, hring⟩ := State.ringSound_iff.mp (State.atRelease_ringSound s s.now)
    exact State.ringSound_iff.mpr ⟨hruns, hidle, ⟨hderate, fun h => absurd h (by simp)⟩, hring⟩
  release _ := State.atRelease_ringSound _ _

/-- Settles O59: each change that a command is made of keeps engine, derate line and ring coherent. -/
theorem stepsKeepTheCycleAndRingSound : Obligations.StepsKeepTheCycleAndRingSound :=
  fun _ _ hs hnext => keptBySteps_ringSound.step (fun _ h => h.congr rfl rfl rfl rfl rfl) hnext hs

end Sys2Proof.Machine
end

section
/-! PROOFS. Every step keeps the sensor records and the glitch filters coherent (R2, R5, R20, R23 to R30). -/

namespace Sys2Proof.Machine

/-! ### The glitch filter of a decoder (R2) -/

section Filter
variable (d : Decoder) (s : State) (n : Bay) (t : Nat)

/-- What the glitch filter holds: the raw level, the open candidate and the filtered level. -/
def Decoder.filter (d : Decoder) : Bool × Option Nat × Bool := (d.raw, d.candidate, d.level)

@[simp] theorem Decoder.abandon_filter : (d.abandon t).filter = d.filter := by
  unfold Decoder.abandon; split <;> rfl

@[simp] theorem Decoder.count_filter (c : CaptureCause) : (d.count c).filter = d.filter := by cases c <;> rfl

@[simp] theorem Decoder.abandon_temp : (d.abandon t).temp = none := by unfold Decoder.abandon; split <;> rfl

@[simp] theorem Decoder.abandon_power : (d.abandon t).power = none := by unfold Decoder.abandon; split <;> rfl

@[simp] theorem Decoder.count_temp (c : CaptureCause) : (d.count c).temp = d.temp := by cases c <;> rfl

@[simp] theorem Decoder.count_power (c : CaptureCause) : (d.count c).power = d.power := by cases c <;> rfl

theorem State.setDecoder_filter (h : d.filter = (s.capture.get n).filter) :
    ((s.setDecoder n d).capture.get n).filter = (s.capture.get n).filter := by simpa [State.setDecoder] using h

theorem State.captureError_filter (c : CaptureCause) :
    ((s.captureError n d c t).capture.get n).filter = d.filter := by simp

theorem State.takeQuiet_filter : ((s.takeQuiet n t).capture.get n).filter = (s.capture.get n).filter := by
  unfold State.takeQuiet
  split
  · exact State.setDecoder_filter _ _ _ rfl
  · rfl

theorem State.takeGap_filter : ((s.takeGap n t).capture.get n).filter = (s.capture.get n).filter := by
  unfold State.takeGap
  split
  · exact State.captureError_filter _ _ _ _ _
  · rfl

theorem State.takePulse_filter : ((s.takePulse n t).capture.get n).filter = (s.capture.get n).filter := by
  unfold State.takePulse
  split
  · exact State.captureError_filter _ _ _ _ _
  · rfl

theorem State.takeStuck_filter : ((s.takeStuck n t).capture.get n).filter = (s.capture.get n).filter := by
  unfold State.takeStuck
  split
  · rw [State.captureError_filter]; rfl
  · rfl

theorem State.takeTail_filter : ((s.takeTail n t).capture.get n).filter = (s.capture.get n).filter := by
  unfold State.takeTail
  split
  · rw [State.deliverSample_capture]; exact State.setDecoder_filter _ _ _ rfl
  · rfl

/-- What falls due leaves the filter as it is (R3). -/
theorem State.settleLine_filter : ((s.settleLine n t).capture.get n).filter = (s.capture.get n).filter := by
  unfold State.settleLine
  rw [State.takeStuck_filter, State.takeQuiet_filter, State.takePulse_filter, State.takeGap_filter, State.takeTail_filter]

end Filter

/-! ### One decoder -/

/-- A decoder's partial values lie in range, and its candidate is no later than now and, unless RST holds it off, open exactly
while the raw level differs (R2, R5). -/
def Decoder.soundAt (d : Decoder) (inReset : Bool) (now : Nat) : Prop :=
  (∀ v, d.temp = some v → v ≤ 1023) ∧ (∀ v, d.power = some v → v ≤ 1023) ∧
    (inReset = false → (d.candidate.isSome = true ↔ d.raw ≠ d.level)) ∧ ∀ c, d.candidate = some c → c ≤ now

section OneDecoder
variable {d d' : Decoder} {inReset : Bool} {now : Nat}

/-- A change that leaves the filter and no new values. -/
theorem Decoder.soundAt.of_filter (h : d.soundAt inReset now) (hfilter : d'.filter = d.filter)
    (htemp : d'.temp = none ∨ d'.temp = d.temp) (hpower : d'.power = none ∨ d'.power = d.power) : d'.soundAt inReset now := by
  obtain ⟨ht, hp, hopen, hsince⟩ := h
  simp only [Decoder.filter, Prod.mk.injEq] at hfilter
  obtain ⟨hraw, hcandidate, hlevel⟩ := hfilter
  refine ⟨fun v hv => ?_, fun v hv => ?_, ?_, ?_⟩
  · obtain h | h := htemp
    · simp [h] at hv
    · exact ht v (h ▸ hv)
  · obtain h | h := hpower
    · simp [h] at hv
    · exact hp v (h ▸ hv)
  · rw [hraw, hcandidate, hlevel]; exact hopen
  · rw [hcandidate]; exact hsince

theorem Decoder.soundAt.abandoned (h : d.soundAt inReset now) (start : Nat) (c : CaptureCause) :
    ((d.abandon start).count c).soundAt inReset now :=
  h.of_filter (by simp) (.inl (by simp)) (.inl (by simp))

theorem Decoder.soundAt.later (h : d.soundAt inReset now) {t : Nat} (ht : now ≤ t) : d.soundAt inReset t :=
  ⟨h.1, h.2.1, h.2.2.1, fun c hc => (h.2.2.2 c hc).trans ht⟩

/-- The open candidate's edge brings the filtered level to the raw one. -/
theorem Decoder.soundAt.turn (h : d.soundAt inReset now) (hopen : d.candidate.isSome = true) (t : Nat) :
    (d.turn t).soundAt inReset now := by
  obtain ⟨ht, hp, hiff, -⟩ := h
  refine ⟨ht, hp, fun hreset => ?_, nofun⟩
  have hdiffers := (hiff hreset).mp hopen
  cases hr : d.raw <;> cases hl : d.level <;> simp_all [Decoder.turn]

/-- A raw change opens a candidate or drops the open one. -/
theorem Decoder.soundAt.toggle (h : d.soundAt inReset now) : (d.toggle now).soundAt inReset now := by
  obtain ⟨ht, hp, -, -⟩ := h
  refine ⟨ht, hp, fun _ => ?_, fun c hc => ?_⟩
  · cases hr : d.raw <;> cases hl : d.level <;> simp [Decoder.toggle, hr, hl]
  · simp only [Decoder.toggle] at hc
    split at hc
    · cases hc; exact le_rfl
    · cases hc

/-- A good edge moves the frame on: the filter stays, and a decoded value lies in range (R5). -/
theorem Decoder.edge_moves_sound (h : d.soundAt inReset now) {t : Nat} (hmoves : d.edge t = .moves d') :
    d'.soundAt inReset now ∧ d'.candidate = d.candidate := by
  have hvalue {w v : Nat} (hgood : pulseGood w = true) (hv : some (w - 50) = some v) : v ≤ 1023 := by
    simp only [pulseGood, decide_eq_true_eq] at hgood
    cases hv
    omega
  unfold Decoder.edge at hmoves
  split at hmoves
  · unfold Decoder.falling at hmoves
    split at hmoves
    case h_2 =>
      split at hmoves
      · next hgood =>
        cases hmoves
        exact ⟨⟨fun v hv => hvalue hgood hv, h.2⟩, rfl⟩
      · cases hmoves
    case h_3 =>
      split at hmoves
      · next hgood =>
        cases hmoves
        exact ⟨⟨h.1, fun v hv => hvalue hgood hv, h.2.2⟩, rfl⟩
      · cases hmoves
    case h_1 =>
      split at hmoves
      · cases hmoves; exact ⟨h, rfl⟩
      · cases hmoves
    all_goals cases hmoves; exact ⟨h, rfl⟩
  · unfold Decoder.rising at hmoves
    split at hmoves
    case h_2 | h_3 =>
      split at hmoves
      · cases hmoves; exact ⟨h, rfl⟩
      · cases hmoves
    case h_4 => cases hmoves
    all_goals cases hmoves; exact ⟨h, rfl⟩

/-- The sample of a complete frame lies in range. -/
theorem Decoder.soundAt.sample (h : d.soundAt inReset now) : d.sample.temp ≤ 1023 ∧ d.sample.power ≤ 1023 := by
  obtain ⟨ht, hp, -⟩ := h
  constructor
  · cases hv : d.temp with
    | none => simp [Decoder.sample, hv]
    | some v => simpa [Decoder.sample, hv] using ht v hv
  · cases hv : d.power with
    | none => simp [Decoder.sample, hv]
    | some v => simpa [Decoder.sample, hv] using hp v hv

end OneDecoder

/-! ### One record -/

section OneRecord
variable {r : SensorRec} {now : Nat} {x : Sample}

theorem SensorRec.sound.later (h : r.sound now) {t : Nat} (ht : now ≤ t) : r.sound t := by
  obtain ⟨hheld, hsame, hvalues, hmax, hsince, hrun, himpl⟩ := h
  refine ⟨hheld, hsame, hvalues, hmax, fun a ha => (hsince a ha).trans ht, fun run hr => ?_, himpl⟩
  obtain ⟨h1, h2, h3⟩ := hrun run hr
  exact ⟨h1, h2, h3.trans ht⟩

theorem SensorRec.sound.accept (h : r.sound now) (hx : x.temp ≤ 1023 ∧ x.power ≤ 1023) : (r.accept now x).sound now := by
  obtain ⟨-, -, -, hmax, -, -, -⟩ := h
  refine ⟨iff_of_false nofun id, iff_of_false nofun nofun, fun y hy => ?_, max_le hmax hx.1, fun a ha => ?_, nofun, fun _ => .inl rfl⟩
  · cases hy; exact ⟨Nat.le_max_right _ _, hx.2⟩
  · cases ha; exact le_rfl

/-- Outside VALID and STALE the implausible run is 0. -/
theorem SensorRec.sound.implRun (h : r.sound now) (hvalid : r.state ≠ .valid) (hstale : r.state ≠ .stale) : r.implRun = 0 := by
  obtain ⟨-, -, -, -, -, -, himpl⟩ := h
  by_contra hne
  obtain h | h := himpl hne
  · exact hvalid h
  · exact hstale h

/-- A change of state alone, to one that has taken a sample exactly where the old one had. -/
theorem SensorRec.sound.of_state (h : r.sound now) {state : SensorState} {implRun : Fin 3} {implCount : BitVec 8}
    {loss : BitVec 16} (hnever : state.neverAccepted ↔ r.state.neverAccepted)
    (hrun : ∀ run, state = .acquiring run → run.sample.temp ≤ 1023 ∧ run.sample.power ≤ 1023 ∧ run.lastAt ≤ now)
    (himpl : implRun ≠ 0 → state = .valid ∨ state = .stale) :
    SensorRec.sound { r with state := state, implRun := implRun, implCount := implCount, loss := loss } now := by
  obtain ⟨hheld, hsame, hvalues, hmax, hsince, -, -⟩ := h
  exact ⟨hheld.trans hnever.symm, hsame, hvalues, hmax, hsince, hrun, himpl⟩

/-- A run starts from, or goes on in, a state with the same past. -/
theorem SensorRec.sound.acquiring (h : r.sound now) (hx : x.temp ≤ 1023 ∧ x.power ≤ 1023) {origin : Origin} {count : RunCount}
    (hnever : origin = .absent ↔ r.state.neverAccepted) (hvalid : r.state ≠ .valid) (hstale : r.state ≠ .stale) :
    SensorRec.sound { r with state := .acquiring ⟨origin, count, x, now⟩ } now := by
  refine h.of_state hnever (fun run hr => ?_) fun hne => absurd (h.implRun hvalid hstale) hne
  cases hr
  exact ⟨hx.1, hx.2, le_rfl⟩

theorem SensorRec.sound.sampleInRun (h : r.sound now) (hx : x.temp ≤ 1023 ∧ x.power ≤ 1023) {run : Run}
    (hstate : r.state = .acquiring run) (p : SensorParams) : (r.sampleInRun p now run x).record.sound now := by
  have hnever : run.origin = .absent ↔ r.state.neverAccepted := by rw [hstate]; rfl
  have hvalid : r.state ≠ .valid := by rw [hstate]; nofun
  have hstale : r.state ≠ .stale := by rw [hstate]; nofun
  unfold SensorRec.sampleInRun
  split
  · split
    · exact h.acquiring hx hnever hvalid hstale
    · exact h.accept hx
  · exact h.acquiring hx hnever hvalid hstale

theorem SensorRec.sound.sampleHeld (h : r.sound now) (hx : x.temp ≤ 1023 ∧ x.power ≤ 1023)
    (hstate : r.state = .valid ∨ r.state = .stale) (p : SensorParams) : (r.sampleHeld p now x).record.sound now := by
  unfold SensorRec.sampleHeld
  split
  · exact h.accept hx
  · split
    · exact h.accept hx
    · refine h.of_state Iff.rfl (fun run hr => ?_) fun _ => hstate
      obtain hs | hs := hstate <;> simp [hs] at hr

/-- A delivered sample leaves a sound record (R23 to R28). -/
theorem SensorRec.sound.takeSample (h : r.sound now) (hx : x.temp ≤ 1023 ∧ x.power ≤ 1023) (p : SensorParams) :
    (r.takeSample p now x).record.sound now := by
  unfold SensorRec.takeSample
  split
  · next hs => exact h.acquiring hx (by simp [hs, SensorState.neverAccepted]) (by simp [hs]) (by simp [hs])
  · next hs => exact h.acquiring hx (by simp [hs, SensorState.neverAccepted]) (by simp [hs]) (by simp [hs])
  · next run hs => exact h.sampleInRun hx hs p
  · next hs => exact h.sampleHeld hx (.inl hs) p
  · next hs => exact h.sampleHeld hx (.inr hs) p

theorem SensorRec.sound.endRun (h : r.sound now) {run : Run} (hstate : r.state = .acquiring run) :
    (r.endRun run.origin).sound now := by
  unfold SensorRec.endRun
  split
  · next ho => exact h.of_state (by simp [hstate, SensorState.neverAccepted, ho]) nofun fun hne => absurd rfl hne
  · next ho => exact h.of_state (by simp [hstate, SensorState.neverAccepted, ho]) nofun fun hne => absurd rfl hne

theorem SensorRec.sound.notice (h : r.sound now) : r.notice.sound now := by
  unfold SensorRec.notice
  split
  · next run hs => exact h.endRun hs
  · exact h

theorem SensorRec.sound.staleExpiry (h : r.sound now) (p : SensorParams) (t : Nat) : (r.staleExpiry p t).sound now := by
  unfold SensorRec.staleExpiry
  split
  · next hs =>
    split
    · exact h.of_state (by simp [hs, SensorState.neverAccepted]) nofun fun _ => .inr rfl
    · exact h
  · exact h

theorem SensorRec.sound.lostExpiry (h : r.sound now) (p : SensorParams) (t : Nat) : (r.lostExpiry p t).sound now := by
  unfold SensorRec.lostExpiry
  split
  · next hs =>
    split
    · exact h.of_state (by simp [hs, SensorState.neverAccepted]) nofun fun hne => absurd rfl hne
    · exact h
  · exact h

theorem SensorRec.sound.silenceExpiry (h : r.sound now) (p : SensorParams) (t : Nat) : (r.silenceExpiry p t).sound now := by
  unfold SensorRec.silenceExpiry
  split
  · next run hs =>
    split
    · exact h.endRun hs
    · exact h
  · exact h

theorem SensorRec.sound.remeasure (h : r.sound now) (p : SensorParams) (t : Nat) : (r.remeasure p t).sound now :=
  ((h.staleExpiry p t).lostExpiry p t).silenceExpiry p t

theorem SensorRec.reset_sound (now : Nat) : SensorRec.reset.sound now := by
  simp [SensorRec.sound, SensorRec.reset, SensorState.neverAccepted]

end OneRecord

/-! ### The state's records and decoders -/

section SensorsSound
variable {s s' : State}

theorem State.sensorsSound_iff : s.sensorsSound ↔
    (∀ n, (s.sensors.get n).sound s.now) ∧ ∀ n, (s.capture.get n).soundAt s.inReset s.now := by
  constructor
  · exact fun h => ⟨fun n => (h n).1, fun n => (h n).2⟩
  · exact fun h n => ⟨h.1 n, h.2 n⟩

theorem State.sensorsSound.congr (hs : s.sensorsSound) (hcapture : s'.capture = s.capture) (hsensors : s'.sensors = s.sensors)
    (hreset : s'.inReset = s.inReset) (hnow : s'.now = s.now) : s'.sensorsSound := by
  simpa only [State.sensorsSound, hcapture, hsensors, hreset, hnow] using hs

theorem State.sensorsSound.advance (hs : s.sensorsSound) (t : Nat) : (s.advance t).sensorsSound := by
  obtain ⟨hrecords, hdecoders⟩ := State.sensorsSound_iff.mp hs
  have hle : s.now ≤ (s.advance t).now := Nat.le_max_left _ _
  exact State.sensorsSound_iff.mpr ⟨fun n => (hrecords n).later hle, fun n => (hdecoders n).later hle⟩

theorem State.sensorsSound.setDecoder (hs : s.sensorsSound) {n : Bay} {d : Decoder} (hd : d.soundAt s.inReset s.now) :
    (s.setDecoder n d).sensorsSound := by
  obtain ⟨hrecords, hdecoders⟩ := State.sensorsSound_iff.mp hs
  refine State.sensorsSound_iff.mpr ⟨hrecords, fun m => ?_⟩
  simp only [State.setDecoder, State.setCapture_capture, Row8.get_set]
  split
  · exact hd
  · exact hdecoders m

theorem State.sensorsSound.updateSensor (hs : s.sensorsSound) {n : Bay} {r : SensorRec} (hr : r.sound s.now) (jump : Bool) :
    (s.updateSensor n r jump).sensorsSound := by
  obtain ⟨hrecords, hdecoders⟩ := State.sensorsSound_iff.mp hs
  refine State.sensorsSound_iff.mpr ⟨fun m => ?_, fun m => by simpa using hdecoders m⟩
  rw [State.updateSensor_sensors, State.updateSensor_now, Row8.get_set]
  split
  · exact hr
  · exact hrecords m

theorem State.sensorsSound.deliverNotice (hs : s.sensorsSound) (n : Bay) : (s.deliverNotice n).sensorsSound :=
  hs.updateSensor (State.sensorsSound_iff.mp hs |>.1 n).notice false

theorem State.sensorsSound.deliverSample (hs : s.sensorsSound) (n : Bay) {x : Sample}
    (hx : x.temp ≤ 1023 ∧ x.power ≤ 1023) : (s.deliverSample n x).sensorsSound := by
  have hupdated := hs.updateSensor (n := n) ((State.sensorsSound_iff.mp hs |>.1 n).takeSample hx s.params)
    ((s.sensors.get n).takeSample s.params s.now x).jump
  unfold State.deliverSample
  dsimp only
  split
  · exact hupdated.congr (by simp) (by simp) (by simp) (by simp)
  · exact hupdated

theorem State.sensorsSound.captureError (hs : s.sensorsSound) (n : Bay) {d : Decoder} (hd : d.soundAt s.inReset s.now)
    (c : CaptureCause) (start : Nat) : (s.captureError n d c start).sensorsSound :=
  ((hs.setDecoder (hd.abandoned start c)).deliverNotice n).congr rfl rfl rfl rfl

theorem State.sensorsSound.decoder (hs : s.sensorsSound) (n : Bay) : (s.capture.get n).soundAt s.inReset s.now :=
  (State.sensorsSound_iff.mp hs).2 n

/-! ### What falls due, edges and raw changes -/

variable (n : Bay) (t : Nat)

theorem State.sensorsSound.takeQuiet (hs : s.sensorsSound) : (s.takeQuiet n t).sensorsSound := by
  unfold State.takeQuiet
  split
  · exact hs.setDecoder ((hs.decoder n).of_filter rfl (.inr rfl) (.inr rfl))
  · exact hs

theorem State.sensorsSound.takeGap (hs : s.sensorsSound) : (s.takeGap n t).sensorsSound := by
  unfold State.takeGap
  split
  · exact hs.captureError n (hs.decoder n) _ _
  · exact hs

theorem State.sensorsSound.takePulse (hs : s.sensorsSound) : (s.takePulse n t).sensorsSound := by
  unfold State.takePulse
  split
  · exact hs.captureError n (hs.decoder n) _ _
  · exact hs

theorem State.sensorsSound.takeStuck (hs : s.sensorsSound) : (s.takeStuck n t).sensorsSound := by
  unfold State.takeStuck
  split
  · have hcounted : Decoder.soundAt { s.capture.get n with stuckCounted := true } s.inReset s.now := hs.decoder n
    exact hs.captureError n hcounted _ _
  · exact hs

theorem State.sensorsSound.takeTail (hs : s.sensorsSound) : (s.takeTail n t).sensorsSound := by
  unfold State.takeTail
  split
  · have hcomplete : (s.capture.get n).complete.soundAt s.inReset s.now :=
      (hs.decoder n).of_filter rfl (.inl rfl) (.inl rfl)
    exact (hs.setDecoder hcomplete).deliverSample n (hs.decoder n).sample
  · exact hs

theorem State.sensorsSound.settleLine (hs : s.sensorsSound) : (s.settleLine n t).sensorsSound :=
  ((((hs.takeTail n t).takeGap n t).takePulse n t).takeQuiet n t).takeStuck n t

theorem State.sensorsSound.takeEdge (hs : s.sensorsSound) (hopen : (s.capture.get n).candidate.isSome = true) :
    (s.takeEdge n t).sensorsSound := by
  unfold State.takeEdge
  split
  · next d hmoves =>
    obtain ⟨hd, hcandidate⟩ := Decoder.edge_moves_sound (hs.decoder n) hmoves
    exact hs.setDecoder (hd.turn (hcandidate ▸ hopen) t)
  · exact hs.captureError n ((hs.decoder n).turn hopen t) _ _

theorem State.sensorsSound.acceptEdge (hs : s.sensorsSound) : (s.acceptEdge n).sensorsSound := by
  unfold State.acceptEdge
  split
  · next c haccepted =>
    refine (hs.settleLine n c).takeEdge n c ?_
    have hfilter := State.settleLine_filter s n c
    simp only [Decoder.filter, Prod.mk.injEq] at hfilter
    rw [hfilter.2.1, ((Decoder.accepted_eq_some _ _ _).mp haccepted).1]
    rfl
  · exact hs

theorem State.sensorsSound.rawChange (hs : s.sensorsSound) : (State.rawChange n s t).sensorsSound := by
  have haccepted := (hs.advance t).acceptEdge n
  exact (haccepted.setDecoder (haccepted.decoder n).toggle).settleLine n _

theorem State.sensorsSound.followRaw (hs : s.sensorsSound) (raw : RawTrace) : (s.followRaw n raw).sensorsSound := by
  have hfold : (raw.changes.foldl (State.rawChange n) s).sensorsSound := by
    induction raw.changes generalizing s with
    | nil => exact hs
    | cons x rest ih => exact ih (hs.rawChange n x)
  exact (hfold.advance _).acceptEdge n

theorem State.sensorsSound.takeBadEdge (hs : s.sensorsSound) (c : CaptureCause) : (s.takeBadEdge n c).sensorsSound := by
  unfold State.takeBadEdge
  split
  · exact hs.acceptEdge n
  · exact hs

theorem State.sensorsSound.event {effect : State → State} (heffect : ∀ s, State.sensorsSound s → (effect s).sensorsSound)
    (hnext : event t s effect = .next s') (hs : s.sensorsSound) : s'.sensorsSound := by
  unfold Machine.event at hnext
  split at hnext
  · cases hnext; exact hs.advance _
  · cases hnext; exact heffect _ (hs.advance _)

theorem exec_senses_sensorsSound {c : Instr} (hc : senses c = true) (hnext : exec c s = .next s') (hs : s.sensorsSound) :
    s'.sensorsSound := by
  have hrecord {q : State} (hq : q.sensorsSound) (m : Bay) : (q.sensors.get m).sound q.now := (hq m).1
  cases c <;> cases hc <;>
    simp only [exec, execQuietLow, execCaptureMarkerError, execCaptureGapError, execCaptureWidthError,
      execCaptureTailError, execStuck, execTailComplete, execStaleTimer, execLostTimer, execRunSilence] at hnext
  case quietLow u m => exact State.sensorsSound.event u (fun _ hq => hq.takeQuiet m _) hnext hs
  case captureMarkerError u m => exact State.sensorsSound.event u (fun _ hq => hq.takeBadEdge m _) hnext hs
  case captureTailError u m => exact State.sensorsSound.event u (fun _ hq => hq.takeBadEdge m _) hnext hs
  case captureGapError u m =>
    refine State.sensorsSound.event u (fun q hq => ?_) hnext hs
    split
    · exact hq.acceptEdge m
    · exact hq.takeGap m _
  case captureWidthError u m =>
    refine State.sensorsSound.event u (fun q hq => ?_) hnext hs
    split
    · exact hq.acceptEdge m
    · exact hq.takePulse m _
  case stuck u m => exact State.sensorsSound.event u (fun _ hq => (hq.takePulse m _).takeStuck m _) hnext hs
  case tailComplete u m => exact State.sensorsSound.event u (fun _ hq => hq.takeTail m _) hnext hs
  case staleTimer u m =>
    exact State.sensorsSound.event u (fun _ hq => hq.updateSensor ((hrecord hq m).staleExpiry _ _) _) hnext hs
  case lostTimer u m =>
    exact State.sensorsSound.event u (fun _ hq => hq.updateSensor ((hrecord hq m).lostExpiry _ _) _) hnext hs
  case runSilence u m =>
    exact State.sensorsSound.event u (fun _ hq => hq.updateSensor ((hrecord hq m).silenceExpiry _ _) _) hnext hs
  case acceptedEdge raw m =>
    simp only [execAcceptedEdge] at hnext
    split at hnext
    · next hreset =>
      cases hnext
      have hadvanced := hs.advance raw.upto
      obtain ⟨ht, hp, -, hsince⟩ := hadvanced.decoder m
      refine hadvanced.setDecoder ⟨ht, hp, fun h => ?_, hsince⟩
      simp [hreset] at h
    · cases hnext; exact hs.followRaw m raw

end SensorsSound

/-! ### The rest of the part -/

section Elsewhere
variable {s s' : State}

theorem State.sensorsSound.installSensors (hs : s.sensorsSound) (p : Profile) : (s.installSensors p).sensorsSound := by
  have hfold (l : List Bay) {q : State} (hq : q.sensorsSound) :
      (l.foldl (fun s n => s.updateSensor n ((s.sensors.get n).remeasure p.sensorParams s.now) false) q).sensorsSound := by
    induction l generalizing q with
    | nil => exact hq
    | cons n l ih => exact ih (hq.updateSensor ((hq n).1.remeasure _ _) _)
  refine hfold numbers8 ?_
  exact hs.congr rfl rfl rfl rfl

theorem State.sensorsSound.install (hs : s.sensorsSound) (p : Profile) (start : Nat) : (s.install p start).sensorsSound := by
  unfold State.install
  dsimp only
  refine State.sensorsSound.congr (State.sensorsSound.installSensors ?_ p) (State.raiseShelf_capture _ _ _)
    (State.raiseShelf_sensors _ _ _) (State.raiseShelf_inReset _ _ _) (State.raiseShelf_now _ _ _)
  exact hs.congr (by simp) (by simp) (by simp) (by simp)

theorem State.sensorsSound.installWaiting (hs : s.sensorsSound) (start : Nat) : (s.installWaiting start).sensorsSound := by
  unfold State.installWaiting
  split
  · exact hs.install _ _
  · exact hs

theorem State.sensorsSound.takeBoundary (hs : s.sensorsSound) (start : Nat) : (s.takeBoundary start).sensorsSound := by
  have hbegun : ((s.transfer start).nextEpoch).sensorsSound := hs.congr rfl rfl rfl rfl
  unfold State.takeBoundary
  dsimp only
  exact (hbegun.installWaiting start).congr (by simp) (by simp) (by simp) (by simp)

theorem Decoder.atRelease_soundAt (raw inReset : Bool) {t now : Nat} (ht : t ≤ now) :
    (Decoder.atRelease raw t).soundAt inReset now := by
  cases raw <;> simp [Decoder.soundAt, Decoder.atRelease, ht]

theorem State.atRelease_sensorsSound (s : State) : (s.atRelease s.now).sensorsSound := by
  have hsensors (n : Bay) : (s.atRelease s.now).sensors.get n = SensorRec.reset := by simp [State.atRelease, State.reset]
  have hcapture (n : Bay) : (s.atRelease s.now).capture.get n = Decoder.atRelease (s.capture.get n).raw s.now := by
    simp [State.atRelease]
  refine State.sensorsSound_iff.mpr ⟨fun n => ?_, fun n => ?_⟩
  · rw [hsensors]; exact SensorRec.reset_sound _
  · rw [hcapture]; exact Decoder.atRelease_soundAt _ _ le_rfl

/-- RST asserted asks no more of the filters. -/
theorem State.sensorsSound.inReset (hs : s.sensorsSound) : (s.setInReset true).sensorsSound := by
  obtain ⟨hrecords, hdecoders⟩ := State.sensorsSound_iff.mp hs
  refine State.sensorsSound_iff.mpr ⟨hrecords, fun n => ?_⟩
  obtain ⟨ht, hp, -, hsince⟩ := hdecoders n
  exact ⟨ht, hp, fun h => absurd h (by simp), hsince⟩

theorem served_sensorsSound {k : LinkId} (h : Served s k s') (hs : s.sensorsSound) : s'.sensorsSound := by
  cases h
  case causesCleared n _ => exact hs.setDecoder ((hs.decoder n).of_filter rfl (.inr rfl) (.inr rfl))
  case sensorCleared n _ =>
    obtain ⟨hrecords, hdecoders⟩ := State.sensorsSound_iff.mp hs
    refine State.sensorsSound_iff.mpr ⟨fun m => ?_, hdecoders⟩
    simp only [State.setSensor, State.setSensors_sensors, State.setSensors_now, Row8.get_set]
    split
    · exact hrecords n
    · exact hrecords m
  case started =>
    refine State.sensorsSound.takeBoundary ?_ _
    exact hs.congr rfl rfl rfl rfl
  all_goals exact hs.congr (by simp) (by simp) (by simp) (by simp)

end Elsewhere

theorem keptOnLine_sensorsSound (k : LinkId) : KeptOnLine k State.sensorsSound where
  advance t hs := hs.advance t
  setPort _ hs := hs.congr rfl rfl rfl rfl
  error hs := hs.congr rfl rfl rfl rfl
  linkReset _ _ _ hs := hs.congr (by simp) (by simp) (by simp) (by simp)
  service h hs := served_sensorsSound h hs
  taken _ _ _ := State.atRelease_sensorsSound _

theorem keptBySteps_sensorsSound : KeptBySteps State.sensorsSound where
  advance t hs := hs.advance t
  sensing hc hnext hs := exec_senses_sensorsSound hc hnext hs
  onLink hc hnext hs := (keptOnLine_sensorsSound _).exec hc hnext hs
  slot _ hs := hs.congr rfl rfl rfl rfl
  asserted _ hs := hs.congr (by simp) (by simp) (by simp) (by simp)
  deasserted _ hs := hs.congr (by simp) (by simp) (by simp) (by simp)
  rawDrt _ _ _ hs := hs.congr rfl rfl rfl rfl
  heldDrt _ _ hs := hs.congr rfl rfl rfl rfl
  completed _ hs := hs.congr (by simp) (by simp) (by simp) (by simp)
  boundary _ _ _ hs := hs.takeBoundary _
  powerOn _ := (State.atRelease_sensorsSound _).inReset
  release _ := State.atRelease_sensorsSound _

/-- Settles O58: each change that a command is made of keeps records and filters coherent. -/
theorem stepsKeepTheSensorsSound : Obligations.StepsKeepTheSensorsSound :=
  fun _ _ hs hnext => keptBySteps_sensorsSound.step (fun _ h => h.congr rfl rfl rfl rfl) hnext hs

end Sys2Proof.Machine
end

section
/-! PROOFS. Every step keeps the Link Ports coherent (R148 to R153, R157 to R159, R171): what falls due on a receive line is taken in
turn, and each thing taken leaves less overdue. -/

namespace Sys2Proof.Machine

/-! ### What a predicate of a link's events must survive -/

/-- A predicate that survives a link's line holding, changing, and the end of its replies survives the link's commands. -/
structure KeptByEvents (k : LinkId) (P : State → Prop) : Prop where
  settle : ∀ {s : State} (t : Nat), P s → P (s.settleLink k t)
  change : ∀ {s : State} (t : Nat), P s → P (State.lineChange k s t)
  replyEnds : ∀ {s : State} (t : Nat), P s → P (s.endReply k t)

namespace KeptByEvents
variable {k : LinkId} {P : State → Prop} {s : State} (h : KeptByEvents k P)
include h

theorem followLine (changes : List Nat) (t : Nat) (hs : P s) : P (s.followLine k changes t) := by
  refine h.settle t ?_
  induction changes generalizing s with
  | nil => exact hs
  | cons x rest ih => exact ih (h.change x hs)

theorem charWhen (t : Nat) (condition : Port → RxChar → Bool) (hs : P s) : P (s.charWhen k t condition) := by
  unfold State.charWhen
  split
  · split
    · exact h.settle _ hs
    · exact hs
  · exact hs

theorem endBreak (t : Nat) (hs : P s) : P (s.endBreak k t) := by
  unfold State.endBreak
  split
  · exact h.change _ hs
  · exact hs

theorem lineEffect {c : Instr} (hc : c.onLink = some k) (hline : c.request = none) (hs : P s) : P (lineEffect c s) := by
  cases c <;> cases hc <;> cases hline
  case requestFrame | noise | framing | lengthError | overrun => simp only [Machine.lineEffect]; exact h.charWhen _ _ hs
  case linkGap | discardEnd | lineBreak => exact h.settle _ hs
  case breakEpisodeEnd => exact h.endBreak _ hs
  case replyEnd => exact h.replyEnds _ hs
  case characterTaken => exact h.followLine _ _ hs

theorem linkEffect {c : Instr} (hc : c.onLink = some k) (hs : P s) : P (linkEffect c s) := by
  cases hr : c.request with
  | some x =>
    obtain ⟨t, j, r⟩ := x
    cases (onLink_of_request hr).symm.trans hc
    rw [linkEffect_of_request hr]
    exact h.followLine _ _ hs
  | none => rw [linkEffect_of_line hr]; exact h.lineEffect hc hr hs

end KeptByEvents

/-! ### The receive line, stage by stage (R148, R150, R157) -/

/-- What is known of the line lies no later than it has been followed; a break episode has the line low and no character in
progress; a character in progress stands low after an even number of changes. -/
def Port.lineSeen (p : Port) : Prop :=
  (∀ a, p.lowSince = some a → a ≤ p.seenTo) ∧ (p.inBreak = true → p.lowSince.isSome = true ∧ p.char = none) ∧
    ∀ c, p.char = some c → c.start ≤ p.seenTo ∧ (∀ e ∈ c.edges, c.start + e ≤ p.seenTo) ∧
      (p.lowSince.isSome = true ↔ c.edges.length % 2 = 0) ∧ ∀ a, p.lowSince = some a → c.start ≤ a

/-- No character's end is overdue. -/
def Port.charFresh (p : Port) : Prop := ∀ c, p.char = some c → p.seenTo < c.start + us 10

/-- No gap is overdue. -/
def Port.gapFresh (p : Port) : Prop := p.char = none → p.rx ≠ .hunt → p.seenTo < p.lastCharEnd + us 201

/-- No break is overdue. -/
def Port.breakFresh (p : Port) : Prop := ∀ a, p.lowSince = some a → p.inBreak = false → p.seenTo < a + ms 2

section Line
variable {p q : Port}

theorem Port.lineSound_iff : p.lineSound ↔ p.lineSeen ∧ p.charFresh ∧ p.gapFresh ∧ p.breakFresh := by
  constructor
  · rintro ⟨hlow, hbreak, hchar, hgap⟩
    refine ⟨⟨fun a ha => (hlow a ha).1, hbreak, fun c hc => ?_⟩, fun c hc => ?_, hgap, fun a ha hb => (hlow a ha).2 hb⟩
    · obtain ⟨hstart, -, hedges, hparity, hbefore⟩ := hchar c hc
      exact ⟨hstart, hedges, hparity, hbefore⟩
    · obtain ⟨-, hend, -⟩ := hchar c hc
      exact hend
  · rintro ⟨⟨hlow, hbreak, hchar⟩, hfresh, hgap, hnobreak⟩
    refine ⟨fun a ha => ⟨hlow a ha, hnobreak a ha⟩, hbreak, fun c hc => ?_, hgap⟩
    obtain ⟨hstart, hedges, hparity, hbefore⟩ := hchar c hc
    exact ⟨hstart, hfresh c hc, hedges, hparity, hbefore⟩

theorem Port.sameLine.lineSeen (h : p.sameLine q) (hq : q.lineSeen) : p.lineSeen := by
  obtain ⟨hlow, hchar, hseen, -, hbreak⟩ := h
  simpa only [Port.lineSeen, hlow, hchar, hseen, hbreak] using hq

theorem Port.sameLine.charFresh (h : p.sameLine q) (hq : q.charFresh) : p.charFresh := by
  obtain ⟨-, hchar, hseen, -, -⟩ := h
  simpa only [Port.charFresh, hchar, hseen] using hq

/-- The line followed further. -/
theorem Port.lineSeen.followed (h : p.lineSeen) {u : Nat} (hu : p.seenTo ≤ u) : Port.lineSeen { p with seenTo := u } := by
  obtain ⟨hlow, hbreak, hchar⟩ := h
  refine ⟨fun a ha => (hlow a ha).trans hu, hbreak, fun c hc => ?_⟩
  obtain ⟨hstart, hedges, hparity, hbefore⟩ := hchar c hc
  exact ⟨hstart.trans hu, fun e he => (hedges e he).trans hu, hparity, hbefore⟩

/-- The line goes high. -/
theorem Port.lineSound.rise (h : p.lineSound) (hlow : p.lowSince.isSome = true) : p.rise.lineSound := by
  obtain ⟨⟨-, hbreak, hchar⟩, hfresh, hgap, -⟩ := Port.lineSound_iff.mp h
  refine Port.lineSound_iff.mpr ⟨⟨fun a ha => ?_, fun hb => ?_, fun c hc => ?_⟩, fun c hc => ?_, fun hc hrx => ?_, fun a ha => ?_⟩
  · cases ha
  · cases hb
  · obtain ⟨x, hx, rfl⟩ := Option.map_eq_some_iff.mp hc
    obtain ⟨hstart, hedges, hparity, -⟩ := hchar x hx
    refine ⟨hstart, fun e he => ?_, ?_, nofun⟩
    · simp only [RxChar.changed, List.mem_append, List.mem_singleton] at he
      obtain he | rfl := he
      · exact hedges e he
      · simp only [RxChar.changed, Port.rise]; omega
    · have heven := hparity.mp hlow
      simp [Port.rise, RxChar.changed]
      omega
  · obtain ⟨x, hx, rfl⟩ := Option.map_eq_some_iff.mp hc
    exact hfresh x hx
  · have hnone : p.char = none := by simpa [Port.rise] using hc
    simp only [Port.rise] at hrx ⊢
    split at hrx
    · exact absurd rfl hrx
    · exact hgap hnone hrx
  · cases ha

/-- The line goes low. -/
theorem Port.lineSound.fall (h : p.lineSound) (hhigh : p.lowSince = none) (starts : Bool) : (p.fall starts).lineSound := by
  obtain ⟨⟨-, hbreak, hchar⟩, hfresh, hgap, -⟩ := Port.lineSound_iff.mp h
  have hnobreak : p.inBreak = false := by
    by_contra hb
    have := (hbreak (by simpa using hb)).1
    simp [hhigh] at this
  have hms : 0 < ms 2 := by decide
  have hus : 0 < us 10 := by decide
  have hcases : ∀ c, (p.fall starts).char = some c → (∃ x, p.char = some x ∧ c = x.changed p.seenTo) ∨ c = ⟨p.seenTo, []⟩ := by
    intro c hc
    simp only [Port.fall] at hc
    split at hc
    · next x hx => cases hc; exact .inl ⟨x, hx, rfl⟩
    · split at hc
      · cases hc; exact .inr rfl
      · cases hc
  refine Port.lineSound_iff.mpr ⟨⟨fun a ha => ?_, fun hb => ?_, fun c hc => ?_⟩, fun c hc => ?_, fun hc hrx => ?_,
    fun a ha _ => ?_⟩
  · cases ha; exact le_rfl
  · exact absurd (hnobreak.symm.trans hb) nofun
  · obtain ⟨x, hx, rfl⟩ | rfl := hcases c hc
    · obtain ⟨hstart, hedges, hparity, -⟩ := hchar x hx
      refine ⟨hstart, fun e he => ?_, ?_, fun a ha => ?_⟩
      · simp only [RxChar.changed, List.mem_append, List.mem_singleton] at he
        obtain he | rfl := he
        · exact hedges e he
        · simp only [RxChar.changed, Port.fall]; omega
      · have hodd : ¬x.edges.length % 2 = 0 := fun heven => by simpa [hhigh] using hparity.mpr heven
        simp [Port.fall, RxChar.changed]
        omega
      · cases ha; exact hstart
    · refine ⟨le_rfl, nofun, by simp [Port.fall], fun a ha => ?_⟩
      cases ha; exact le_rfl
  · obtain ⟨x, hx, rfl⟩ | rfl := hcases c hc
    · exact hfresh x hx
    · exact Nat.lt_add_of_pos_right hus
  · have hnone : p.char = none := by
      simp only [Port.fall] at hc
      split at hc
      · cases hc
      · assumption
    exact hgap hnone hrx
  · cases ha
    exact Nat.lt_add_of_pos_right hms

end Line

/-! ### One port -/

/-- The inbox holds at most two requests, at most one inside a frame, and the transmitter has been handed nothing that starts
later than 50 µs from now (R151 to R153). -/
def Port.inboxSound (p : Port) (now : Nat) : Prop :=
  p.tx.start ≤ now + us 50 ∧ p.inbox.length ≤ 2 ∧ (p.rx.inFrame = true → p.inbox.length ≤ 1)

/-- A reply is in the transmitter, whole, exactly while the inbox holds something (R152, R153). -/
def Port.answered (p : Port) : Prop :=
  (∀ x, p.reply = some x → p.tx.bytes = x.frame) ∧ (p.reply.isSome = true ↔ p.inbox ≠ [])

section OnePort
variable {p : Port} {now : Nat}

theorem Port.inboxSound.later (h : p.inboxSound now) {t : Nat} (ht : now ≤ t) : p.inboxSound t :=
  ⟨h.1.trans (Nat.add_le_add_right ht _), h.2⟩

/-- A port after a release of reset. -/
theorem Port.atRelease_sound (p : Port) (t now : Nat) :
    (p.atRelease t).inboxSound now ∧ (p.atRelease t).answered ∧ (p.atRelease t).lineSound := by
  have hms : 0 < ms 2 := by decide
  refine ⟨⟨Nat.zero_le _, Nat.zero_le _, fun _ => Nat.zero_le _⟩, ⟨nofun, by simp [Port.atRelease, Port.reset]⟩, ?_⟩
  refine ⟨fun a ha => ?_, nofun, nofun, fun _ h => absurd rfl h⟩
  obtain ⟨b, -, rfl⟩ := Option.map_eq_some_iff.mp ha
  exact ⟨le_rfl, fun _ => Nat.lt_add_of_pos_right hms⟩

/-- A frame or DISCARD before a break is what leaves DISCARD after it. -/
theorem RxState.ne_hunt_of_atBreak {rx : RxState} (h : rx.atBreak ≠ .hunt) : rx ≠ .hunt := by
  rintro rfl; exact h rfl

/-- A reset of the link's port: nothing waits, nothing is to be sent. -/
theorem Port.inboxSound.abandon (h : p.inboxSound now) (t : Nat) (rx : RxState) :
    Port.inboxSound ({ p with rx := rx }.abandon t) now ∧ Port.answered ({ p with rx := rx }.abandon t) :=
  ⟨⟨(Nat.min_le_left _ _).trans h.1, Nat.zero_le _, fun _ => Nat.zero_le _⟩, ⟨nofun, by simp [Port.abandon]⟩⟩

end OnePort

/-! ### Every port but one line -/

/-- The links are sound, out of reset, but that of link `k`'s receive line no more is known than `Q`. -/
def State.linksSoundBut (s : State) (k : LinkId) (Q : Port → Prop) : Prop :=
  s.inReset = false ∧ (s.shelfResetArmed = true → (s.port .shelf).reply.isSome = true) ∧
    (∀ j, (s.port j).inboxSound s.now ∧ (s.port j).answered) ∧ (∀ j, j ≠ k → (s.port j).lineSound) ∧ Q (s.port k)

section Links
variable {s s' : State} {k : LinkId} {Q Q' : Port → Prop}

theorem State.linksSound_iff : s.linksSound ↔ (s.shelfResetArmed = true → (s.port .shelf).reply.isSome = true) ∧
    (∀ j, (s.port j).inboxSound s.now ∧ (s.port j).answered) ∧ (∀ j, (s.port j).lineSound) ∧
    (s.inReset = true → ∀ j, (s.port j).char = none ∧ (s.port j).inBreak = false) := by
  constructor
  · rintro ⟨harmed, hports⟩
    refine ⟨harmed, fun j => ?_, fun j => ?_, fun hr j => ?_⟩
    · obtain ⟨hframe, hstart, htwo, hone, hreply, -⟩ := hports j
      exact ⟨⟨hstart, htwo, hone⟩, hframe, hreply⟩
    · obtain ⟨-, -, -, -, -, hline, -⟩ := hports j
      exact hline
    · obtain ⟨-, -, -, -, -, -, hreset⟩ := hports j
      exact hreset hr
  · rintro ⟨harmed, hports, hlines, hreset⟩
    refine ⟨harmed, fun j => ?_⟩
    obtain ⟨⟨hstart, htwo, hone⟩, hframe, hreply⟩ := hports j
    exact ⟨hframe, hstart, htwo, hone, hreply, hlines j, fun hr => hreset hr j⟩

/-- Out of reset, the links are sound when they are but for a line that is sound too. -/
theorem State.linksSoundBut_lineSound (k : LinkId) :
    s.linksSoundBut k Port.lineSound ↔ s.linksSound ∧ s.inReset = false := by
  rw [State.linksSound_iff]
  constructor
  · rintro ⟨hreset, harmed, hports, hlines, hline⟩
    refine ⟨⟨harmed, hports, fun j => ?_, fun h => absurd (hreset.symm.trans h) nofun⟩, hreset⟩
    by_cases hj : j = k
    · exact hj ▸ hline
    · exact hlines j hj
  · rintro ⟨⟨harmed, hports, hlines, -⟩, hreset⟩
    exact ⟨hreset, harmed, hports, fun j _ => hlines j, hlines k⟩

theorem State.linksSoundBut.mono (h : s.linksSoundBut k Q) (hQ : Q (s.port k) → Q' (s.port k)) : s.linksSoundBut k Q' := by
  obtain ⟨hreset, harmed, hports, hlines, hline⟩ := h
  exact ⟨hreset, harmed, hports, hlines, hQ hline⟩

theorem State.linksSoundBut.own (h : s.linksSoundBut k Q) : Q (s.port k) := h.2.2.2.2

theorem State.linksSoundBut.advance (h : s.linksSoundBut k Q) (t : Nat) : (s.advance t).linksSoundBut k Q := by
  obtain ⟨hreset, harmed, hports, hlines, hline⟩ := h
  exact ⟨hreset, harmed, fun j => ⟨(hports j).1.later (Nat.le_max_left _ _), (hports j).2⟩, hlines, hline⟩

/-- The link's own port replaced by one that is as sound and holds a reply where the old one did. -/
theorem State.linksSoundBut.setPort (h : s.linksSoundBut k Q) {p : Port} (hinbox : p.inboxSound s.now)
    (hanswered : p.answered) (hreply : p.reply.isSome = (s.port k).reply.isSome) (hQ : Q' p) :
    (s.setPort k p).linksSoundBut k Q' := by
  obtain ⟨hreset, harmed, hports, hlines, -⟩ := h
  refine ⟨hreset, fun ha => ?_, fun j => ?_, fun j hj => ?_, by simpa using hQ⟩
  · rw [State.setPort_port]
    split
    · next hk => rw [hreply, ← hk]; exact harmed ha
    · exact harmed ha
  · rw [State.setPort_port]
    split
    · exact ⟨hinbox, hanswered⟩
    · exact hports j
  · rw [State.setPort_port, if_neg hj]
    exact hlines j hj

/-- A change of the decoder's state, of the line's record and of the counters alone. -/
theorem State.linksSoundBut.setLine (h : s.linksSoundBut k Q) {p : Port} (hinbox : p.inbox = (s.port k).inbox)
    (hreply : p.reply = (s.port k).reply) (htx : p.tx = (s.port k).tx)
    (hframe : p.rx.inFrame = true → (s.port k).inbox.length ≤ 1) (hQ : Q' p) : (s.setPort k p).linksSoundBut k Q' := by
  obtain ⟨-, -, hports, -, -⟩ := id h
  obtain ⟨⟨hstart, htwo, -⟩, hbytes, hiff⟩ := hports k
  refine h.setPort ⟨htx ▸ hstart, hinbox ▸ htwo, fun hf => hinbox ▸ hframe hf⟩ ⟨fun x hx => ?_, ?_⟩ (by rw [hreply]) hQ
  · rw [htx]; exact hbytes x (hreply ▸ hx)
  · rw [hreply, hinbox]; exact hiff

theorem State.linksSoundBut.raiseShelf (h : s.linksSoundBut k Q) (c : ShelfCause) (v : Flags8) :
    (s.raiseShelf c v).linksSoundBut k Q := by
  simpa only [State.linksSoundBut, State.raiseShelf_inReset, State.raiseShelf_shelfResetArmed, State.raiseShelf_port,
    State.raiseShelf_now] using h

/-- An error leaves the decoder outside any frame (R150). -/
theorem State.linksSoundBut.linkError (h : s.linksSoundBut k Q) (c : LinkCause) {rx : RxState} (hrx : rx.inFrame = false)
    (hQ : ∀ counters, Q' { s.port k with rx := rx, counters := counters }) : (s.linkError k c rx).linksSoundBut k Q' :=
  (h.setLine (p := { s.port k with rx := rx, counters := (s.port k).counters.count c }) rfl rfl rfl
    (fun hf => absurd hf (by simp [hrx])) (hQ _)).raiseShelf _ _

/-! ### Services -/

/-- From `s` to `s'` the clock stands, and every port but link `k`'s is as sound as it was; only the shelf link reaches ports or arms
a reset. -/
def State.portsKept (s s' : State) (k : LinkId) : Prop :=
  s'.now = s.now ∧ s'.inReset = s.inReset ∧
    (k ≠ .shelf → s'.ports = s.ports ∧ s'.shelfResetArmed = s.shelfResetArmed) ∧
    ∀ j, j ≠ k → (s.port j).inboxSound s.now → (s.port j).answered → (s.port j).lineSound →
      (s'.port j).inboxSound s.now ∧ (s'.port j).answered ∧ (s'.port j).lineSound

theorem State.portsKept_of_same (hnow : s'.now = s.now) (hreset : s'.inReset = s.inReset) (hports : s'.ports = s.ports)
    (harmed : s'.shelfResetArmed = s.shelfResetArmed) : s.portsKept s' k := by
  refine ⟨hnow, hreset, fun _ => ⟨hports, harmed⟩, fun j _ h1 h2 h3 => ?_⟩
  have hport : s'.port j = s.port j := by rw [State.port, hports]; rfl
  rw [hport]
  exact ⟨h1, h2, h3⟩

/-- What a service leaves of the ports. -/
theorem Served.portsKept (h : Served s k s') : s.portsKept s' k := by
  cases h
  case countersCleared i hshelf =>
    refine ⟨rfl, rfl, fun hk => absurd hshelf hk, fun j _ hinbox hanswered hline => ?_⟩
    rw [State.setPort_port]
    split
    · next hi => subst hi; exact ⟨hinbox, hanswered, hline⟩
    · exact ⟨hinbox, hanswered, hline⟩
  case linkReset i hshelf =>
    refine ⟨by simp, by simp, fun hk => absurd hshelf hk, fun j _ hinbox hanswered hline => ?_⟩
    have hport : (s.bayLinkReset i).port j =
        if j = .bay i then ({ s.port j with rx := (s.port j).rx.atBreak } : Port).abandon s.now else s.port j := by
      simp only [State.bayLinkReset, State.bayLinkEffects, State.withdrawSilently_port]
      by_cases hj : j = .bay i
      · subst hj; simp [State.port, State.setRx, State.setPort]
      · simp [State.port, State.setRx, State.setPort, hj]
    rw [hport]
    split
    · obtain ⟨hinbox', hanswered'⟩ := hinbox.abandon s.now (s.port j).rx.atBreak
      obtain ⟨hlow, hbreak, hchar, hgap⟩ := hline
      exact ⟨hinbox', hanswered', hlow, hbreak, hchar, fun hc hrx => hgap hc (RxState.ne_hunt_of_atBreak hrx)⟩
    · exact ⟨hinbox, hanswered, hline⟩
  case armed hshelf => exact ⟨rfl, rfl, fun hk => absurd hshelf hk, fun j _ h1 h2 h3 => ⟨h1, h2, h3⟩⟩
  all_goals exact State.portsKept_of_same (by simp) (by simp) (by simp) (by simp)

/-- A service at link `k`: the head's reply is handed to the idle transmitter (R153). -/
theorem State.linksSoundBut_serveHead (hQ : ∀ {p q : Port}, p.sameLine q → p.rx = q.rx → Q q → Q p) (hreset : s.inReset = false)
    (harmed : s.shelfResetArmed = true → (s.port .shelf).reply.isSome = true) (hreply : (s.port k).reply = none)
    (hinbox : (s.port k).inboxSound s.now)
    (hothers : ∀ j, j ≠ k → (s.port j).inboxSound s.now ∧ (s.port j).answered ∧ (s.port j).lineSound)
    (hline : Q (s.port k)) : (s.serveHead k).linksSoundBut k Q := by
  cases hrequests : (s.port k).inbox with
  | nil =>
    have hsame : s.serveHead k = s := by rw [State.serveHead, hrequests]
    rw [hsame]
    refine ⟨hreset, harmed, fun j => ?_, fun j hj => (hothers j hj).2.2, hline⟩
    by_cases hj : j = k
    · subst hj; exact ⟨hinbox, by simp [hreply], by simp [hreply, hrequests]⟩
    · exact ⟨(hothers j hj).1, (hothers j hj).2.1⟩
  | cons r rest =>
    obtain ⟨hnow, hreset', hbay, hports⟩ := (answer_served (s := s) (k := k) r).portsKept
    obtain ⟨-, counters, hown⟩ := answer_keeps s k r
    rw [State.serveHead_cons _ _ hrequests]
    have hport (j : LinkId) : ((answer s k r).state.send k ((answer s k r).reply r)).port j =
        if j = k then { s.port k with
          counters := counters
          reply := some ((answer s k r).reply r)
          tx := ⟨(answer s k r).state.replyStart k, ((answer s k r).reply r).frame⟩
          started := (s.port k).started + 1 } else (answer s k r).state.port j := by
      simp [State.send, hown]
    have hnow' : ((answer s k r).state.send k ((answer s k r).reply r)).now = s.now := hnow
    refine ⟨hreset'.trans hreset, fun ha => ?_, fun j => ?_, fun j hj => ?_, ?_⟩
    · rw [hport]
      split
      · rfl
      · next hk =>
        obtain ⟨hsame, harm⟩ := hbay (Ne.symm hk)
        have hshelf : (answer s k r).state.port .shelf = s.port .shelf := by rw [State.port, hsame]; rfl
        rw [hshelf]
        exact harmed (harm.symm.trans ha)
    · rw [hport, hnow']
      split
      · obtain ⟨-, htwo, hone⟩ := hinbox
        refine ⟨⟨?_, htwo, hone⟩, ⟨fun x hx => ?_, by simp [hrequests]⟩⟩
        · simp only [State.replyStart, hnow]
          exact Nat.add_le_add_left (Nat.min_le_right _ _) _
        · cases hx; rfl
      · next hj =>
        obtain ⟨h1, h2, h3⟩ := hothers j hj
        obtain ⟨h4, h5, -⟩ := hports j hj h1 h2 h3
        exact ⟨h4, h5⟩
    · rw [hport, if_neg hj]
      obtain ⟨h1, h2, h3⟩ := hothers j hj
      exact (hports j hj h1 h2 h3).2.2
    · rw [hport, if_pos rfl]
      exact hQ (q := s.port k) (by simp [Port.sameLine]) rfl hline

/-! ### A character -/

variable (hQ : ∀ {p q : Port}, p.sameLine q → Q q → Q p)
include hQ

theorem State.linksSoundBut.setRx (h : s.linksSoundBut k Q) {rx : RxState}
    (hframe : rx.inFrame = true → (s.port k).inbox.length ≤ 1) : (s.setRx k rx).linksSoundBut k Q :=
  h.setLine rfl rfl rfl hframe (hQ (by simp [Port.sameLine]) h.own)

theorem State.linksSoundBut.error (h : s.linksSoundBut k Q) (c : LinkCause) {rx : RxState} (hrx : rx.inFrame = false) :
    (s.linkError k c rx).linksSoundBut k Q :=
  h.linkError c hrx fun _ => hQ (by simp [Port.sameLine]) h.own

/-- A request joins an inbox of at most one, its decoder outside any frame (R152). -/
theorem State.linksSoundBut.join (h : s.linksSoundBut k Q) (hone : (s.port k).inbox.length ≤ 1)
    (hrx : (s.port k).rx.inFrame = false) (r : Request) : (s.join k r).linksSoundBut k Q := by
  obtain ⟨hreset, harmed, hports, hlines, hline⟩ := id h
  obtain ⟨⟨hstart, htwo, -⟩, hbytes, hiff⟩ := hports k
  have hinbox : Port.inboxSound { s.port k with inbox := (s.port k).inbox ++ [r] } s.now :=
    ⟨hstart, by simpa using hone, fun hf => absurd (hrx.symm.trans hf) nofun⟩
  have hQ' : Q { s.port k with inbox := (s.port k).inbox ++ [r] } := hQ (by simp [Port.sameLine]) hline
  unfold State.join
  dsimp only
  split
  · next hempty =>
    have hnone : (s.port k).reply = none := by
      have hnil : (s.port k).inbox = [] := by simpa using hempty
      have := mt hiff.mp (by simp [hnil])
      simpa using this
    refine State.linksSoundBut_serveHead (fun hsame _ => hQ hsame) hreset (fun ha => ?_) (by simpa using hnone) (by simpa using hinbox)
      (fun j hj => ?_) (by simpa using hQ')
    · have hsome := harmed ha
      rw [State.setPort_port]
      split
      · next hk => rw [← hk]; exact hsome
      · exact hsome
    · rw [State.setPort_port, if_neg hj]
      exact ⟨(hports j).1, (hports j).2, hlines j hj⟩
  · next hnonempty =>
    refine h.setPort hinbox ⟨hbytes, ?_⟩ rfl hQ'
    have hne : (s.port k).inbox ≠ [] := by simpa using hnonempty
    simp [hiff.mpr hne]

/-- A character with a good stop bit (R149, R151). -/
theorem State.linksSoundBut.receive (h : s.linksSoundBut k Q) (b : Byte) : (s.receive k b).linksSoundBut k Q := by
  obtain ⟨-, -, hports, -, -⟩ := id h
  obtain ⟨⟨-, -, hone⟩, -⟩ := hports k
  unfold State.receive
  split
  · split
    · unfold State.startFrame
      split
      · next htwo => exact h.setRx hQ fun _ => Nat.le_of_lt_succ htwo
      · exact h.error hQ _ rfl
    · exact h.error hQ _ rfl
  · next hrx =>
    split
    · exact h.setRx hQ fun _ => hone (by rw [hrx]; rfl)
    · exact h.error hQ _ rfl
  · next hrx => split <;> exact h.setRx hQ fun _ => hone (by rw [hrx]; rfl)
  · next hrx => exact h.setRx hQ fun _ => hone (by rw [hrx]; rfl)
  · next hrx =>
    unfold State.endFrame
    split
    · exact (h.setRx hQ (rx := .hunt) fun hf => absurd hf Bool.false_ne_true).join hQ (by simpa using hone (by rw [hrx]; rfl)) (by simp [RxState.inFrame]) _
    · exact h.error hQ _ rfl
  · exact h

end Links

end Sys2Proof.Machine
end

section
/-! PROOFS. The stages of following a receive line, and that every step keeps the links sound (R148 to R153, R157 to R159, R171). -/

namespace Sys2Proof.Machine

section Stages
variable {s s' : State} {k : LinkId} {u : Nat}

/-- The line's record at the instant `u`, the character's end taken. -/
def Port.charTakenAt (u : Nat) (p : Port) : Prop := p.lineSeen ∧ p.seenTo = u ∧ p.charFresh

theorem Port.sameLine.charTakenAt {p q : Port} (h : p.sameLine q) (hq : q.charTakenAt u) : p.charTakenAt u :=
  ⟨h.lineSeen hq.1, h.2.2.1.trans hq.2.1, h.charFresh hq.2.2⟩

theorem State.linksSoundBut.seen (h : s.linksSoundBut k Port.lineSound) (t : Nat) :
    (s.seen k t).linksSoundBut k fun p => p.lineSeen ∧ p.seenTo = max (s.port k).seenTo t := by
  refine h.setLine rfl rfl rfl (fun hf => ?_) ⟨?_, rfl⟩
  · obtain ⟨-, -, hports, -, -⟩ := h
    exact (hports k).1.2.2 hf
  · exact (Port.lineSound_iff.mp h.own).1.followed (Nat.le_max_left _ _)

/-- The end of a character (R148 to R150). -/
theorem State.linksSoundBut.takeChar (h : s.linksSoundBut k fun p => p.lineSeen ∧ p.seenTo = u) :
    (s.takeChar k u).linksSoundBut k (Port.charTakenAt u) := by
  obtain ⟨hseen, hu⟩ := h.own
  unfold State.takeChar
  split
  · next hnone =>
    refine h.mono fun _ => ⟨hseen, hu, fun c hc => ?_⟩
    rw [Port.charDue, hc, Option.filter_some] at hnone
    have hlate : ¬c.start + charTime ≤ u := by
      intro hle
      simp [hle] at hnone
    rw [hu]
    exact Nat.lt_of_not_le hlate
  · next c hdue =>
    obtain ⟨hc, hle⟩ : (s.port k).char = some c ∧ c.start + charTime ≤ u := by
      simpa [Port.charDue, Option.filter_eq_some_iff] using hdue
    obtain ⟨hlow, hbreak, -⟩ := hseen
    have hnobreak : (s.port k).inBreak = false := by
      by_contra hb
      have := (hbreak (by simpa using hb)).2
      simp [hc] at this
    have hended : ((s.advance (c.start + charTime)).setPort k ((s.port k).charEnded c.start)).linksSoundBut k
        (Port.charTakenAt u) := by
      refine (h.advance _).setLine rfl rfl rfl (fun hf => ?_) ⟨⟨hlow, fun hb => ?_, nofun⟩, hu, nofun⟩
      · obtain ⟨-, -, hports, -, -⟩ := h
        exact (hports k).1.2.2 hf
      · exact absurd (hnobreak.symm.trans hb) nofun
    dsimp only
    split
    · exact hended.receive Port.sameLine.charTakenAt _
    · refine hended.error Port.sameLine.charTakenAt _ ?_
      cases ((((s.advance (c.start + charTime)).setPort k ((s.port k).charEnded c.start))).port k).rx <;> rfl

/-- A gap inside a frame (R150). -/
theorem State.linksSoundBut.takeLinkGap (h : s.linksSoundBut k (Port.charTakenAt u)) :
    (s.takeLinkGap k u).linksSoundBut k fun p =>
      p.charTakenAt u ∧ (p.rx.inFrame = true → p.gapReached u = false) := by
  unfold State.takeLinkGap
  split
  · exact h.linkError _ rfl fun _ => ⟨h.own, fun hf => absurd hf Bool.false_ne_true⟩
  · next hnot =>
    refine h.mono fun hown => ⟨hown, fun hf => ?_⟩
    simpa [hf] using hnot

/-- The gap that ends DISCARD (R151). -/
theorem State.linksSoundBut.takeDiscardEnd
    (h : s.linksSoundBut k fun p => p.charTakenAt u ∧ (p.rx.inFrame = true → p.gapReached u = false)) :
    (s.takeDiscardEnd k u).linksSoundBut k fun p => p.charTakenAt u ∧ p.gapFresh := by
  obtain ⟨hown, hframe⟩ := h.own
  unfold State.takeDiscardEnd
  split
  · exact h.setLine rfl rfl rfl (fun hf => absurd hf Bool.false_ne_true) ⟨hown, fun _ hrx => absurd rfl hrx⟩
  · next hnot =>
    refine h.mono fun _ => ⟨hown, fun hc hrx => ?_⟩
    have hgap : (s.port k).gapReached u = false := by
      cases hstate : (s.port k).rx with
      | hunt => exact absurd hstate hrx
      | discard => simpa [hstate] using hnot
      | length | body | check => exact hframe (by rw [hstate]; rfl)
    simp only [Port.gapReached, hc, Option.isNone_none, Bool.true_and, decide_eq_false_iff_not, Nat.not_le] at hgap
    rw [hown.2.1]
    exact hgap

/-- The line's record at `u`, and no later than it or than the low in progress, with no character or gap overdue. -/
def Port.beforeBreak (u : Nat) (p : Port) : Prop :=
  p.lineSeen ∧ p.charFresh ∧ p.gapFresh ∧ u ≤ p.seenTo ∧ ∀ a, p.lowSince = some a → p.seenTo ≤ max a u

/-- When a break is due (R157). -/
theorem Port.breakDue_eq_some {p : Port} {b : Nat} (h : p.breakDue u = some b) :
    p.inBreak = false ∧ ∃ a, p.lowSince = some a ∧ b = a + ms 2 ∧ b ≤ u := by
  unfold Port.breakDue at h
  split at h
  · cases h
  · next hb =>
    obtain ⟨hmap, hle⟩ := Option.filter_eq_some_iff.mp h
    obtain ⟨a, ha, rfl⟩ := Option.map_eq_some_iff.mp hmap
    exact ⟨by simpa using hb, a, ha, rfl, by simpa using hle⟩

theorem Port.breakDue_eq_none {p : Port} (h : p.breakDue u = none) (a : Nat) (ha : p.lowSince = some a)
    (hb : p.inBreak = false) : u < a + ms 2 := by
  rw [Port.breakDue, if_neg (by simp [hb]), ha, Option.map_some, Option.filter_some] at h
  by_contra hle
  have hdue : a + breakTime ≤ u := Nat.le_of_not_lt hle
  simp [hdue] at h

/-- No break is due by `u`: the line is sound. -/
theorem Port.beforeBreak.lineSound {p : Port} (h : p.beforeBreak u) (hnone : p.breakDue u = none) : p.lineSound := by
  obtain ⟨hseen, hchar, hgap, -, hlast⟩ := h
  refine Port.lineSound_iff.mpr ⟨hseen, hchar, hgap, fun a ha hb => ?_⟩
  have hbreak := Port.breakDue_eq_none hnone a ha hb
  have hle := hlast a ha
  have hpos : 0 < ms 2 := by decide
  omega

/-- A break episode begins: the line is sound. -/
theorem Port.beforeBreak.broken {p : Port} (h : p.beforeBreak u) {b : Nat} (hdue : p.breakDue u = some b) :
    Port.lineSound { p with rx := p.rx.atBreak, inBreak := true } := by
  obtain ⟨⟨hlow, -, hchar⟩, hfresh, hgap, hreached, -⟩ := h
  obtain ⟨-, a, ha, rfl, hle⟩ := Port.breakDue_eq_some hdue
  have hnochar : p.char = none := by
    cases hc : p.char with
    | none => rfl
    | some c =>
      obtain ⟨-, -, -, hbefore⟩ := hchar c hc
      have hstart := hbefore a ha
      have hend := hfresh c hc
      have hlt : us 10 < ms 2 := by decide
      omega
  refine Port.lineSound_iff.mpr ⟨⟨hlow, fun _ => ⟨by simp [ha], hnochar⟩, hchar⟩, hfresh, fun hc hrx => ?_, fun _ _ hb => ?_⟩
  · exact hgap hc (RxState.ne_hunt_of_atBreak hrx)
  · cases hb

/-- A link reset at a break leaves the ports sound, but that the shelf link's reply is gone. -/
theorem State.linksSoundBut.breakEffects {Q : Port → Prop} (h : s.linksSoundBut k Q)
    (hline : Port.lineSound { s.port k with rx := (s.port k).rx.atBreak, inBreak := true })
    (harmed : k = .shelf → s.shelfResetArmed = false) (t : Nat) : (s.breakEffects k t).linksSoundBut k Port.lineSound := by
  obtain ⟨hreset, harm, hports, hlines, -⟩ := h
  obtain ⟨hinbox', hanswered'⟩ := (hports k).1.abandon t (s.port k).rx.atBreak
  let p : Port := ({ s.port k with rx := (s.port k).rx.atBreak, inBreak := true } : Port).abandon t
  have hport (j : LinkId) : (s.breakEffects k t).port j = if j = k then p else s.port j := by
    cases k <;> simp [State.breakEffects, State.bayLinkEffects, p]
  have hnow : (s.breakEffects k t).now = s.now := by simp
  have harm' : (s.breakEffects k t).shelfResetArmed = s.shelfResetArmed := by simp
  have hreset' : (s.breakEffects k t).inReset = s.inReset := by simp
  refine ⟨hreset'.trans hreset, fun ha => ?_, fun j => ?_, fun j hj => ?_, ?_⟩
  · rw [hport]
    split
    · next hk => rw [harm', harmed hk.symm] at ha; cases ha
    · exact harm (harm' ▸ ha)
  · rw [hport, hnow]
    split
    · exact ⟨hinbox', hanswered'⟩
    · exact hports j
  · rw [hport, if_neg hj]; exact hlines j hj
  · rw [hport, if_pos rfl]; exact hline

/-- A break that is due is taken (R157, R158). -/
theorem State.linksSoundBut.countBreak (h : s.linksSoundBut k (Port.beforeBreak u))
    (harmed : k = .shelf → ((s.port k).breakDue u).isSome = true → s.shelfResetArmed = false) :
    (s.countBreak k u).linksSoundBut k Port.lineSound := by
  unfold State.countBreak
  split
  · next b hdue =>
    have hsound := h.own.broken hdue
    have herror : ((s.advance b).linkError k .brk (s.port k).rx).linksSoundBut k fun _ => True := by
      refine State.linksSoundBut.raiseShelf ?_ _ _
      refine (h.advance b).setLine rfl rfl rfl (fun hf => ?_) trivial
      obtain ⟨-, -, hports, -, -⟩ := h
      exact (hports k).1.2.2 hf
    refine herror.breakEffects ?_ (fun hk => ?_) b
    · simp only [State.linkError, State.raiseShelf_port, State.setPort_port, if_true, State.advance_port]
      exact hsound
    · simpa using harmed hk (by rw [hdue]; rfl)
  · next hnone => exact h.mono fun hown => hown.lineSound hnone

/-- After a release of reset every port is sound. -/
theorem State.atRelease_linksSoundBut (s : State) (t : Nat) (k : LinkId) :
    (s.atRelease t).linksSoundBut k fun p => p = (s.port k).atRelease t := by
  have hport (j : LinkId) : (s.atRelease t).port j = (s.port j).atRelease t := by simp [State.atRelease, State.port]
  refine ⟨rfl, fun h => ?_, fun j => ?_, fun j _ => ?_, hport k⟩
  · exact absurd h (by simp [State.atRelease, State.reset])
  · rw [hport]
    obtain ⟨hinbox, hanswered, -⟩ := (s.port j).atRelease_sound t (s.atRelease t).now
    exact ⟨hinbox, hanswered⟩
  · rw [hport]
    exact ((s.port j).atRelease_sound t 0).2.2

theorem State.atRelease_lineSound (s : State) (t : Nat) (k : LinkId) : (s.atRelease t).linksSoundBut k Port.lineSound :=
  (s.atRelease_linksSoundBut t k).mono fun h => by rw [h]; exact ((s.port k).atRelease_sound t 0).2.2

/-- The low that stands over a reset goes on from there, and may be a break again. -/
theorem Port.atRelease_beforeBreak (p : Port) (r u : Nat) :
    Port.beforeBreak u { p.atRelease r with seenTo := max (p.atRelease r).seenTo u } := by
  refine ⟨⟨fun a ha => ?_, nofun, nofun⟩, nofun, fun _ h => absurd rfl h, Nat.le_max_right _ _, fun a ha => ?_⟩
  all_goals
    obtain ⟨b, -, rfl⟩ := Option.map_eq_some_iff.mp ha
  · exact Nat.le_max_left _ _
  · exact le_rfl

/-- A break that is due, with the reset that it brings about where it cuts SHELF RESET's reply off (R158, R171). -/
theorem State.linksSoundBut.takeBreak (h : s.linksSoundBut k (Port.beforeBreak u)) :
    (s.takeBreak k u).linksSoundBut k Port.lineSound := by
  unfold State.takeBreak
  split
  · generalize s.countBreak k u = q
    have hreleased := State.atRelease_linksSoundBut (q.advance (q.port .shelf).tx.ends) (q.advance (q.port .shelf).tx.ends).now k
    have hseen : (q.takeShelfReset.seen k u).linksSoundBut k (Port.beforeBreak u) := by
      refine hreleased.setLine rfl rfl rfl (fun hf => ?_) ?_
      · dsimp only [State.takeShelfReset] at hf
        rw [hreleased.own] at hf; cases hf
      · dsimp only [State.takeShelfReset]
        rw [hreleased.own]; exact Port.atRelease_beforeBreak _ _ _
    exact hseen.countBreak fun _ _ => rfl
  · next hnot =>
    refine h.countBreak fun hk hdue => ?_
    simpa [hk ▸ hdue, hk] using hnot

/-- What falls due on a line by `t` is taken: the links are sound again (log 5). -/
theorem State.linksSoundBut.settleLink (h : s.linksSoundBut k Port.lineSound) (t : Nat) :
    (s.settleLink k t).linksSoundBut k Port.lineSound := by
  refine State.linksSoundBut.takeBreak ((((h.seen t).takeChar.takeLinkGap).takeDiscardEnd).mono fun hown => ?_)
  obtain ⟨⟨hseen, hu, hchar⟩, hgap⟩ := hown
  exact ⟨hseen, hchar, hgap, hu.ge, fun a _ => hu.le.trans (Nat.le_max_right _ _)⟩

theorem State.linksSoundBut.lineChange (h : s.linksSoundBut k Port.lineSound) (t : Nat) :
    (State.lineChange k s t).linksSoundBut k Port.lineSound := by
  have hsettled := h.settleLink t
  have hframe : ((s.settleLink k t).port k).rx.inFrame = true → ((s.settleLink k t).port k).inbox.length ≤ 1 := by
    obtain ⟨-, -, hports, -, -⟩ := hsettled
    exact (hports k).1.2.2
  unfold State.lineChange
  dsimp only
  split
  · next hlow =>
    refine hsettled.setLine rfl rfl rfl (fun hf => hframe ?_) (hsettled.own.rise hlow)
    simp only [Port.rise] at hf
    split at hf
    · cases hf
    · exact hf
  · next hlow => exact hsettled.setLine rfl rfl rfl hframe (hsettled.own.fall (by simpa using hlow) _)

/-- A reply ends, and the next request is served or the arranged reset taken (R152, R171). -/
theorem State.linksSoundBut.endReply (h : s.linksSoundBut k Port.lineSound) (t : Nat) :
    (s.endReply k t).linksSoundBut k Port.lineSound := by
  unfold State.endReply
  dsimp only
  split
  · exact h
  · split
    · exact State.atRelease_lineSound _ _ _
    · next hnot =>
      obtain ⟨hreset, harmed, hports, hlines, hline⟩ := h.advance (s.port k).tx.ends
      obtain ⟨⟨hstart, htwo, hone⟩, -⟩ := hports k
      have htail : (s.port k).inbox.tail.length ≤ (s.port k).inbox.length := by simp
      refine State.linksSoundBut_serveHead (fun {p q} hsame hrx hq => ?_) hreset (fun ha => ?_) (by simp) ?_ (fun j hj => ?_) ?_
      · obtain ⟨hlow, hchar, hseen, hend, hbreak⟩ := hsame
        simpa only [Port.lineSound, hlow, hchar, hseen, hend, hbreak, hrx] using hq
      · have hk : LinkId.shelf ≠ k := fun hk => hnot (by simpa [← hk] using ha)
        rw [State.setPort_port, if_neg hk]
        exact harmed ha
      · rw [State.setPort_port, if_pos rfl]
        exact ⟨hstart, htail.trans htwo, fun hf => htail.trans (hone hf)⟩
      · rw [State.setPort_port, if_neg hj]
        exact ⟨(hports j).1, (hports j).2, hlines j hj⟩
      · rw [State.setPort_port, if_pos rfl]
        exact hline

end Stages

/-! ### Every step -/

section Steps
variable {s s' : State}

theorem keptByEvents_linksSound (k : LinkId) : KeptByEvents k fun s => s.linksSoundBut k Port.lineSound where
  settle t hs := hs.settleLink t
  change t hs := hs.lineChange t
  replyEnds t hs := hs.endReply t

theorem State.linksSound.congr (hs : s.linksSound) (hports : s'.ports = s.ports) (hnow : s'.now = s.now)
    (hreset : s'.inReset = s.inReset) (harmed : s'.shelfResetArmed = s.shelfResetArmed) : s'.linksSound := by
  simpa only [State.linksSound, State.port, hports, hnow, hreset, harmed] using hs

theorem State.linksSound.advance (hs : s.linksSound) (t : Nat) : (s.advance t).linksSound := by
  obtain ⟨harmed, hports, hlines, hreset⟩ := State.linksSound_iff.mp hs
  exact State.linksSound_iff.mpr
    ⟨harmed, fun j => ⟨(hports j).1.later (Nat.le_max_left _ _), (hports j).2⟩, hlines, hreset⟩

/-- In reset the level of a receive line alone follows the line (R159). -/
theorem State.linksSound.lineInReset (hs : s.linksSound) (hreset : s.inReset = true) (k : LinkId) (high : Bool) :
    (s.lineInReset k high).linksSound := by
  obtain ⟨harmed, hports, hlines, hidle⟩ := State.linksSound_iff.mp hs
  obtain ⟨hnochar, hnobreak⟩ := hidle hreset k
  have hport (j : LinkId) : (s.lineInReset k high).port j =
      if j = k then { s.port k with lowSince := if high then none else some (s.port k).seenTo } else s.port j := by
    simp [State.lineInReset]
  have hms : 0 < ms 2 := by decide
  refine State.linksSound_iff.mpr ⟨fun ha => ?_, fun j => ?_, fun j => ?_, fun _ j => ?_⟩
  · rw [hport]
    split
    · next hk => rw [← hk]; exact harmed ha
    · exact harmed ha
  · rw [hport]
    split
    · next hj => exact hj ▸ hports j
    · exact hports j
  · rw [hport]
    split
    · obtain ⟨-, -, -, hgap⟩ := hlines k
      refine ⟨fun a ha => ?_, fun hb => ?_, fun c hc => ?_, hgap⟩
      · dsimp only at ha
        split at ha
        · cases ha
        · cases ha; exact ⟨le_rfl, fun _ => Nat.lt_add_of_pos_right hms⟩
      · exact absurd (hnobreak.symm.trans hb) nofun
      · exact absurd (hnochar.symm.trans hc) nofun
    · exact hlines j
  · rw [hport]
    split
    · exact ⟨hnochar, hnobreak⟩
    · exact hidle hreset j

theorem exec_onLink_linksSound {c : Instr} {k : LinkId} (hc : c.onLink = some k) (hnext : exec c s = .next s')
    (hs : s.linksSound) : s'.linksSound := by
  cases hreset : s.inReset with
  | false =>
    rw [exec_onLink hc hreset] at hnext
    cases hnext
    have heffect := (keptByEvents_linksSound k).linkEffect hc ((State.linksSoundBut_lineSound k).mpr ⟨hs, hreset⟩)
    exact ((State.linksSoundBut_lineSound k).mp heffect).1.advance _
  | true =>
    obtain hsame | ⟨high, hline⟩ := exec_onLink_inReset hc hreset
    · rw [hsame] at hnext; cases hnext; exact hs.advance _
    · rw [hline] at hnext; cases hnext; exact (hs.advance _).lineInReset hreset k high

theorem State.atRelease_linksSound (s : State) (t : Nat) : (s.atRelease t).linksSound :=
  ((State.linksSoundBut_lineSound .shelf).mp (s.atRelease_lineSound t .shelf)).1

theorem keptBySensing_linksSound : KeptBySensing State.linksSound where
  advance t hs := hs.advance t
  decoder _ _ hs := hs.congr rfl rfl rfl rfl
  sensor _ _ _ hs := hs.congr (by simp) (by simp) (by simp) (by simp)
  overtemp _ hs := hs.congr (by simp) (by simp) (by simp) (by simp)
  captured _ hs := hs.congr rfl rfl rfl rfl

theorem keptBySteps_linksSound : KeptBySteps State.linksSound where
  advance t hs := hs.advance t
  sensing hc hnext hs := keptBySensing_linksSound.exec hc hnext hs
  onLink hc hnext hs := exec_onLink_linksSound hc hnext hs
  slot _ hs := hs.congr rfl rfl rfl rfl
  asserted _ hs := hs.congr (by simp) (by simp) (by simp) (by simp)
  deasserted _ hs := hs.congr (by simp) (by simp) (by simp) (by simp)
  rawDrt _ _ _ hs := hs.congr rfl rfl rfl rfl
  heldDrt _ _ hs := hs.congr rfl rfl rfl rfl
  completed _ hs := hs.congr (by simp) (by simp) (by simp) (by simp)
  boundary _ _ _ hs := hs.congr (by simp) (by simp) (by simp) (by simp)
  powerOn {s} _ := by
    obtain ⟨harmed, hports, hlines, -⟩ := State.linksSound_iff.mp (s.atRelease_linksSound s.now)
    refine State.linksSound_iff.mpr ⟨harmed, hports, hlines, fun _ j => ?_⟩
    have hport : ((s.atRelease s.now).setInReset true).port j = (s.port j).atRelease s.now := by
      simp [State.atRelease, State.port]
    rw [hport]
    exact ⟨rfl, rfl⟩
  release _ := State.atRelease_linksSound _ _

/-- Settles O53: on a link every stage of following its line keeps the ports coherent, and elsewhere no port changes. -/
theorem stepsKeepTheLinksSound : Obligations.StepsKeepTheLinksSound :=
  fun _ _ hs hnext => keptBySteps_linksSound.step (fun _ h => h.congr rfl rfl rfl rfl) hnext hs

end Steps

end Sys2Proof.Machine
end

section
/-! PROOFS. The state after reset meets every invariant that steps keep. -/

namespace Sys2Proof.Machine

/-- The state after reset is what a release of reset at instant 0 makes of it. -/
theorem State.reset_eq_atRelease : State.reset.atRelease State.reset.now = State.reset := rfl

/-- Settles O60: the state after reset is the state after a release, which meets each invariant. -/
theorem resetMeetsEveryInvariant : Obligations.ResetMeetsEveryInvariant := by
  unfold Obligations.ResetMeetsEveryInvariant
  rw [← State.reset_eq_atRelease]
  exact ⟨State.atRelease_linksSound _ _, State.atRelease_alertsSound _ _, State.atRelease_poolsSound _ _,
    State.atRelease_burstsSound _ _, State.atRelease_linesSound _ _, State.atRelease_sensorsSound _,
    State.atRelease_ringSound _ _⟩

end Sys2Proof.Machine
end

section
/-! PROOFS. The admission round in closed form (R111 to R117): the ageing, the queue's admitted head run, and what blocks the next. -/

namespace Sys2Proof.Machine

/-! ### Admitting a list of entries -/

/-- The working values once some entries have been admitted, in order. -/
def RoundWork.admitAll (w : RoundWork) (l : List QueueEntry) : RoundWork := l.foldl RoundWork.admitHead w

/-- What a pool pays for some entries. -/
def paidFor (l : List QueueEntry) (p : Pool) : Nat := ((l.filter fun e => e.pool = p).map QueueEntry.amount).sum

section Admitting
variable {cap : Nat} (w : RoundWork) (l : List QueueEntry) (e : QueueEntry) (n : Bay) (p : Pool)

@[simp] theorem RoundWork.admitAll_nil : w.admitAll [] = w := rfl

theorem RoundWork.admitAll_cons : w.admitAll (e :: l) = (w.admitHead e).admitAll l := rfl

theorem RoundWork.admitAll_concat : w.admitAll (l ++ [e]) = (w.admitAll l).admitHead e := by
  simp [RoundWork.admitAll]

theorem paidFor_concat : paidFor (l ++ [e]) p = paidFor l p + if e.pool = p then e.amount else 0 := by
  by_cases h : e.pool = p <;> simp [paidFor, h]

theorem paidFor_take_le (i : Nat) : paidFor (l.take i) p ≤ paidFor l p :=
  (((List.take_sublist i l).filter _).map _).sum_le_sum fun _ _ => Nat.zero_le _

theorem RoundWork.admitAll_total : (w.admitAll l).total = w.total + (l.map QueueEntry.amount).sum := by
  induction l generalizing w with
  | nil => simp
  | cons e l ih => rw [RoundWork.admitAll_cons, ih]; simp [RoundWork.admitHead, Nat.add_assoc]

theorem RoundWork.admitAll_admitted : (w.admitAll l).admitted = w.admitted ++ l.map QueueEntry.bay := by
  induction l generalizing w with
  | nil => simp
  | cons e l ih => rw [RoundWork.admitAll_cons, ih]; simp [RoundWork.admitHead]

theorem RoundWork.admitAll_pools :
    (w.admitAll l).pools.get p = { w.pools.get p with remaining := (w.pools.get p).remaining - paidFor l p } := by
  induction l using List.reverseRecOn with
  | nil => simp [paidFor]
  | append_singleton l e ih =>
    rw [RoundWork.admitAll_concat, paidFor_concat]
    simp only [RoundWork.admitHead, Row4.get_modify]
    by_cases h : p = e.pool
    · subst h; simp [ih, PoolAccount.charge, Nat.sub_sub]
    · simp [h, Ne.symm h, ih]

/-- A bay is free as long as it was and no entry for it has been admitted. -/
theorem RoundWork.admitAll_active_eq_none :
    (w.admitAll l).active.get n = none ↔ w.active.get n = none ∧ ∀ f ∈ l, f.bay ≠ n := by
  induction l generalizing w with
  | nil => simp
  | cons e l ih =>
    rw [RoundWork.admitAll_cons, ih]
    simp only [RoundWork.admitHead, Row8.get_set, List.forall_mem_cons]
    by_cases h : n = e.bay
    · simp [h]
    · simp [h, Ne.symm h]

end Admitting

/-! ### The admitted head run (R112) -/

/-- Each entry of the list was admissible when the ones before it had been admitted. -/
def RoundWork.admits (cap : Nat) (w : RoundWork) (l : List QueueEntry) : Prop :=
  ∀ i e, l[i]? = some e → (w.admitAll (l.take i)).blocks cap e = none

section HeadRun
variable {cap : Nat} {w : RoundWork} {l : List QueueEntry} {e : QueueEntry}

theorem RoundWork.admits_concat : w.admits cap (l ++ [e]) ↔ w.admits cap l ∧ (w.admitAll l).blocks cap e = none := by
  constructor
  · intro h
    refine ⟨fun i f hf => ?_, by simpa using h l.length e (by simp)⟩
    have hi : i < l.length := (List.getElem?_eq_some_iff.mp hf).1
    have hlast := h i f (by rw [List.getElem?_append_left hi]; exact hf)
    rwa [List.take_append_of_le_length hi.le] at hlast
  · rintro ⟨hl, he⟩ i f hf
    obtain hi | hi := Nat.lt_or_ge i l.length
    · rw [List.getElem?_append_left hi] at hf
      rw [List.take_append_of_le_length hi.le]
      exact hl i f hf
    · rw [List.getElem?_append_right hi] at hf
      obtain ⟨hlt, rfl⟩ := List.getElem?_eq_some_iff.mp hf
      have hzero : i - l.length = 0 := by simpa using hlt
      have heq : i = l.length := by omega
      subst heq
      simpa using he

/-- The head run ends where the queue is empty, or at a head that something blocks. -/
theorem RoundWork.run_spec (cap : Nat) (w : RoundWork) (q : List QueueEntry) :
    ∃ taken rest why, q = taken ++ rest ∧ w.run cap q = (w.admitAll taken, rest, why) ∧ w.admits cap taken ∧
      (rest = [] → why = .emptied) ∧ ∀ e tail, rest = e :: tail → (w.admitAll taken).blocks cap e = some why := by
  induction q generalizing w with
  | nil => exact ⟨[], [], .emptied, rfl, rfl, by simp [RoundWork.admits], fun _ => rfl, nofun⟩
  | cons e q ih =>
    cases hblocks : w.blocks cap e with
    | some why =>
      refine ⟨[], e :: q, why, rfl, by rw [RoundWork.run, hblocks]; rfl, by simp [RoundWork.admits], nofun, ?_⟩
      rintro f tail ⟨⟩
      exact hblocks
    | none =>
      obtain ⟨taken, rest, why, rfl, hrun, hadmits, hempty, hblocked⟩ := ih (w.admitHead e)
      refine ⟨e :: taken, rest, why, rfl, by rw [RoundWork.run, hblocks]; exact hrun, fun i f hf => ?_, hempty, hblocked⟩
      cases i with
      | zero => cases hf; exact hblocks
      | succ i => exact hadmits i f hf

/-- No pool pays more than it holds. -/
theorem RoundWork.admits.paidFor_le (h : w.admits cap l) (p : Pool) : paidFor l p ≤ (w.pools.get p).remaining := by
  induction l using List.reverseRecOn with
  | nil => exact Nat.zero_le _
  | append_singleton l e ih =>
    obtain ⟨hl, he⟩ := RoundWork.admits_concat.mp h
    obtain ⟨-, hpays, -⟩ := RoundWork.blocks_eq_none_iff.mp he
    have hle := ih hl
    rw [RoundWork.admitAll_pools] at hpays
    rw [paidFor_concat]
    split
    · next hp => subst hp; dsimp only at hpays; omega
    · exact hle

/-- The admissions never raise K above S (R117). -/
theorem RoundWork.admits.total_le (h : w.admits cap l) : (w.admitAll l).total ≤ max cap w.total := by
  induction l using List.reverseRecOn with
  | nil => exact Nat.le_max_right _ _
  | append_singleton l e _ =>
    obtain ⟨-, he⟩ := RoundWork.admits_concat.mp h
    obtain ⟨-, -, hcap⟩ := RoundWork.blocks_eq_none_iff.mp he
    rw [RoundWork.admitAll_concat]
    exact hcap.trans (Nat.le_max_left _ _)

/-- Where K stands above S nothing is admitted (R117). -/
theorem RoundWork.admits.eq_nil (h : w.admits cap l) (hover : cap < w.total) : l = [] := by
  cases l with
  | nil => rfl
  | cons e l =>
    obtain ⟨-, -, hcap⟩ := RoundWork.blocks_eq_none_iff.mp (h 0 e rfl)
    simp only [List.take_zero, RoundWork.admitAll_nil] at hcap
    omega

/-- What stands at a place of the table after the head run: the record of the entry admitted for it, if any. -/
theorem RoundWork.admits.active (h : w.admits cap l) (n : Bay) :
    (w.admitAll l).active.get n = ((l.find? fun e => e.bay == n).map QueueEntry.record).or (w.active.get n) := by
  induction l using List.reverseRecOn with
  | nil => simp
  | append_singleton l e ih =>
    obtain ⟨hl, he⟩ := RoundWork.admits_concat.mp h
    obtain ⟨hfree, -⟩ := RoundWork.blocks_eq_none_iff.mp he
    obtain ⟨-, hothers⟩ := (RoundWork.admitAll_active_eq_none _ _ _).mp hfree
    rw [RoundWork.admitAll_concat, List.find?_append]
    simp only [RoundWork.admitHead, Row8.get_set]
    split
    · next hn =>
      subst hn
      have hnone : l.find? (fun f => f.bay == e.bay) = none := by
        rw [List.find?_eq_none]
        exact fun f hf => by simpa using hothers f hf
      simp [hnone, QueueEntry.record]
    · next hn =>
      rw [ih hl]
      simp [Ne.symm hn]

end HeadRun

/-! ### The round -/

/-- What ageing leaves at a place of the table, in the terms of the round's statement. -/
theorem agedRecord_eq (r : Option ActiveBurst) :
    agedRecord r = (r.filter fun a => decide (1 < a.remaining)).map fun a => { a with remaining := a.remaining - 1 } := by
  cases r with
  | none => rfl
  | some a =>
    by_cases h : a.remaining ≤ 1
    · simp [agedRecord, h]
    · simp [agedRecord, h, Nat.lt_of_not_le h]

theorem endedCredit_eq (r : Option ActiveBurst) (p : Pool) :
    endedCredit r p = match r with
      | some a => if decide (1 < a.remaining) = false ∧ a.pool = p then a.amount else 0
      | none => 0 := by
  cases r with
  | none => rfl
  | some a => simp [endedCredit]

/-- The sum of the amounts that ageing leaves. -/
theorem BurstUnit.age_activeSum (b : BurstUnit) : b.age.activeSum =
    sum8 fun n => (((b.active.get n).filter fun a => decide (1 < a.remaining)).map ActiveBurst.amount).getD 0 := by
  refine congrArg sum8 (funext fun n => ?_)
  rw [BurstUnit.activeAmount, BurstUnit.age_active, agedRecord_eq]
  cases (b.active.get n).filter fun a => decide (1 < a.remaining) <;> rfl

/-- What blocks a head, K not above S: the first of the three tests that it fails (R112, R113). -/
theorem RoundWork.blocks_of_total_le {cap : Nat} {w : RoundWork} {e : QueueEntry} {why : RoundEnd}
    (h : w.blocks cap e = some why) (htotal : w.total ≤ cap) :
    (w.active.get e.bay ≠ none → why = .blockedByBay) ∧
    (w.active.get e.bay = none → (w.pools.get e.pool).remaining < e.amount → why = .blockedByPool e.pool) ∧
    (w.active.get e.bay = none → e.amount ≤ (w.pools.get e.pool).remaining →
      cap < w.total + e.amount ∧ why = .blockedByShelf) := by
  unfold RoundWork.blocks at h
  split_ifs at h with hover hbusy hpoor hfull
  · omega
  · cases h
    exact ⟨fun _ => rfl, fun hfree => by simp [hfree] at hbusy, fun hfree => by simp [hfree] at hbusy⟩
  · cases h
    exact ⟨fun hne => absurd (by simpa using hbusy) hne, fun _ _ => rfl, fun _ hpays => by omega⟩
  · cases h
    exact ⟨fun hne => absurd (by simpa using hbusy) hne, fun _ hlt => absurd hlt hpoor, fun _ _ => ⟨hfull, rfl⟩⟩

/-- Settles O50: the head run of `run_spec`, on the table and the accounts that ageing leaves. -/
theorem admissionRoundAgesAdmitsAndExpires : Obligations.AdmissionRoundAgesAdmitsAndExpires := by
  intro b cap base r goesOn kept credit paid total bayFree poolPays capHolds
  let w : RoundWork := ⟨b.age.active, b.age.pools, base + b.age.activeSum, []⟩
  obtain ⟨taken, rest, why, hqueue, hrun, hadmits, hempty, hblocked⟩ := RoundWork.run_spec cap w b.age.queue
  have hactive (n : Bay) : w.active.get n = (kept n).map fun a => { a with remaining := a.remaining - 1 } := by
    rw [BurstUnit.age_active, agedRecord_eq]
  have hfree (l : List QueueEntry) (e : QueueEntry) : (w.admitAll l).active.get e.bay = none ↔ bayFree l e := by
    rw [RoundWork.admitAll_active_eq_none, hactive, Option.map_eq_none_iff]
  have hpool (p : Pool) : w.pools.get p = { b.pools.get p with remaining := (b.pools.get p).remaining + credit p } := by
    simp only [w, BurstUnit.age_pools, PoolAccount.credit, endedCredit_eq, credit, goesOn] <;> rfl
  have hremaining (l : List QueueEntry) (p : Pool) :
      ((w.admitAll l).pools.get p).remaining = (b.pools.get p).remaining + credit p - paid l p := by
    rw [RoundWork.admitAll_pools, hpool]; rfl
  have htotal (l : List QueueEntry) : (w.admitAll l).total = total l := by
    rw [RoundWork.admitAll_total]
    simp only [w, BurstUnit.age_activeSum, total, kept, goesOn]
  have hpaid (p : Pool) : paid taken p ≤ (b.pools.get p).remaining + credit p := by
    have h := hadmits.paidFor_le p
    rwa [hpool] at h
  have hr : r = ⟨⟨expireQueue rest, (w.admitAll taken).active, why.marks (w.admitAll taken).pools⟩,
      copyTable (w.admitAll taken).active, numbers8.filter b.ends, (w.admitAll taken).admitted, expiredBays rest, why⟩ := by
    simp only [r, BurstUnit.round, hrun, w]
  rw [hr]
  refine ⟨taken, rest, by simpa using hqueue, by simp [RoundWork.admitAll_admitted, w], fun i e he => ?_, hempty,
    fun e tail htail => ⟨fun hover => ?_, fun hholds => ?_⟩, fun n => ?_, fun n => ?_, rfl, rfl, fun n => ?_, fun p => ?_, ?_⟩
  case refine_1 =>
    obtain ⟨hbay, hpays, hcap⟩ := RoundWork.blocks_eq_none_iff.mp (hadmits i e he)
    have hle : paid (taken.take i) e.pool ≤ paid taken e.pool := paidFor_take_le taken e.pool i
    have hbound := hpaid e.pool
    rw [hremaining] at hpays
    refine ⟨(hfree _ e).mp hbay, ?_, ?_⟩
    · simp only [poolPays]; omega
    · simpa only [capHolds, htotal] using hcap
  case refine_2 =>
    have hnil : taken = [] := hadmits.eq_nil (by rw [← RoundWork.admitAll_nil w, htotal]; exact hover)
    have hend := hblocked e tail htail
    rw [RoundWork.blocks, if_pos (by rw [hnil, htotal]; exact hover)] at hend
    exact ⟨hnil, (Option.some.inj hend).symm⟩
  case refine_3 =>
    have hle : (w.admitAll taken).total ≤ cap := by
      have h := hadmits.total_le
      rw [← RoundWork.admitAll_nil w, htotal [], Nat.max_eq_left hholds] at h
      exact h
    obtain ⟨hbay, hpool', hshelf⟩ := RoundWork.blocks_of_total_le (hblocked e tail htail) hle
    have hbound := hpaid e.pool
    rw [hremaining] at hpool' hshelf
    rw [htotal] at hshelf
    refine ⟨fun hbusy => hbay fun h => hbusy ((hfree _ e).mp h), fun hf hpoor => hpool' ((hfree _ e).mpr hf) ?_,
      fun hf hpays => ?_⟩
    · simp only [poolPays] at hpoor; omega
    · simp only [poolPays] at hpays
      obtain ⟨hfull, hwhy⟩ := hshelf ((hfree _ e).mpr hf) (by omega)
      exact ⟨Nat.not_le.mpr hfull, hwhy⟩
  case refine_4 =>
    rw [hadmits.active n, hactive]
    cases taken.find? fun e => e.bay == n <;> rfl
  case refine_5 => exact Row8.get_ofFn _ n
  case refine_6 =>
    have hall : n ∈ numbers8 := (visitOrder_perm 0).mem_iff.mp (mem_visitOrder 0 n)
    simp only [List.mem_filter, BurstUnit.ends, hall, true_and]
    cases b.active.get n <;> simp
  case refine_7 =>
    rw [RoundEnd.marks_get, RoundWork.admitAll_pools, hpool]
    by_cases hend : why = .blockedByPool p
    · simp [hend, PoolAccount.mark, paid, paidFor]
    · simp [hend, paid, paidFor]
  case refine_8 =>
    have h := hadmits.total_le
    rw [htotal, ← RoundWork.admitAll_nil w, htotal] at h
    exact h

end Sys2Proof.Machine
end

section
/-! PROOFS. The thermal model as a system of equations (R62 to R73), and the counts (R132). -/

namespace Sys2Proof.Machine

/-! ### The walk solves its equations -/

/-- A bay's ceiling depends on the ones already done through the upstream bays of its couplings alone (R65). -/
theorem ceilingOf_congr {x : Snapshot} {done done' : Ceilings} {n : Bay}
    (h : ∀ e ∈ x.profile.couplings, e.down = n → done.power e.up = done'.power e.up) :
    ceilingOf x done n = ceilingOf x done' n := by
  have hsum : upstreamSum x done n = upstreamSum x done' n := by
    refine congrArg List.sum (List.map_congr_left fun e he => ?_)
    obtain ⟨hmem, hdown⟩ := List.mem_filter.mp he
    rw [upstreamTerm, upstreamTerm, h e hmem (by simpa using hdown)]
  have hvalue (smp : Sample) : unclamped x done n smp = unclamped x done' n smp := by
    rw [unclamped, unclamped, numerator, numerator, hsum]
  unfold ceilingOf
  cases x.usable.get n with
  | none => rfl
  | some smp => dsimp only; rw [hvalue]

/-- The walk leaves a bay that it does not visit as it was. -/
theorem foldl_ceilingStep_of_not_mem {x : Snapshot} {n : Bay} {l : List Bay} (h : n ∉ l) (c : Ceilings) :
    (l.foldl (ceilingStep x) c).get n = c.get n := by
  induction l generalizing c with
  | nil => rfl
  | cons m l ih =>
    rw [List.mem_cons, not_or] at h
    rw [List.foldl_cons, ih h.2, ceilingStep, Row8.get_set, if_neg h.1]

/-- Ceilings that satisfy the equations of stage 3 all at once, a bay outside the order having none. -/
def Snapshot.solves (x : Snapshot) (c : Ceilings) : Prop :=
  ∀ n, c.get n = if n ∈ x.profile.shelf.airflow then some (ceilingOf x c n) else none

/-- In an order that agrees with the couplings the walk solves the equations: what it knows of an upstream bay when it
needs it is that bay's last word (R59, R63). -/
theorem ceilings_solves {x : Snapshot} (h : x.profile.ordered) : x.solves (ceilings x) := by
  intro n
  obtain ⟨hnodup, hcouplings⟩ := h
  split
  · next hmem =>
    obtain ⟨before, after, hsplit⟩ := List.append_of_mem hmem
    have hlast : n ∉ after := by
      rw [hsplit] at hnodup
      exact (List.nodup_cons.mp (List.nodup_append.mp hnodup).2.1).1
    have hcut : ceilings x = after.foldl (ceilingStep x) (ceilingStep x (before.foldl (ceilingStep x) (Row8.const none)) n) := by
      rw [ceilings, hsplit, List.foldl_append, List.foldl_cons]
    have hvalue : (ceilings x).get n = some (ceilingOf x (before.foldl (ceilingStep x) (Row8.const none)) n) := by
      rw [hcut, foldl_ceilingStep_of_not_mem hlast, ceilingStep, Row8.get_set, if_pos rfl]
    rw [hvalue]
    refine congrArg some (ceilingOf_congr fun e he hdown => ?_)
    obtain ⟨-, hup, hless⟩ := hcouplings e he
    rw [hdown, hsplit] at hless
    have hbefore : e.up ∈ before := by
      by_contra hnot
      have hfirst : n ∉ before := by
        rw [hsplit] at hnodup
        exact fun hn => (List.nodup_append.mp hnodup).2.2 n hn n (by simp) rfl
      rw [List.idxOf_append_of_notMem hnot, List.idxOf_append_of_notMem hfirst, List.idxOf_cons_self] at hless
      omega
    have hunvisited : e.up ∉ n :: after := by
      rw [hsplit] at hnodup
      exact fun hlater => (List.nodup_append.mp hnodup).2.2 _ hbefore _ hlater rfl
    have hkept : (ceilings x).get e.up = (before.foldl (ceilingStep x) (Row8.const none)).get e.up := by
      rw [ceilings, hsplit, List.foldl_append, foldl_ceilingStep_of_not_mem hunvisited]
    rw [Ceilings.power, Ceilings.power, hkept]
  · next hmem => rw [ceilings, foldl_ceilingStep_of_not_mem hmem, Row8.get_const]

/-- The equations have one solution: along the order each bay's ceiling is fixed by the ones upstream of it. -/
theorem Snapshot.solves_unique {x : Snapshot} (h : x.profile.ordered) {c c' : Ceilings} (hc : x.solves c)
    (hc' : x.solves c') (n : Bay) : c.get n = c'.get n := by
  obtain ⟨-, hcouplings⟩ := h
  induction hk : x.profile.shelf.airflow.idxOf n using Nat.strongRecOn generalizing n with
  | ind k ih =>
    rw [hc n, hc' n]
    split
    · refine congrArg some (ceilingOf_congr fun e he hdown => ?_)
      obtain ⟨-, -, hless⟩ := hcouplings e he
      rw [Ceilings.power, Ceilings.power, ih _ (by rw [← hk, ← hdown]; exact hless) e.up rfl]
    · rfl

/-! ### The stage's results -/

section Results
variable {x : Snapshot} {n : Bay} {c : Ceiling}

theorem Snapshot.ceiling_of_get (h : (ceilings x).get n = some c) : x.ceiling n = c.power := by
  rw [Snapshot.ceiling, Ceilings.power, h]

theorem Snapshot.deficit_of_get (h : (ceilings x).get n = some c) : x.deficit n = c.deficit := by
  rw [Snapshot.deficit, h]

theorem Snapshot.subst_of_get (h : (ceilings x).get n = some c) : x.subst n = c.subst := by
  rw [Snapshot.subst, h]

/-- The sum of the statement's terms is the walk's upstream sum on its own results. -/
theorem upstreamSum_ceilings (x : Snapshot) (n : Bay) :
    upstreamSum x (ceilings x) n = ((x.profile.couplings.filter fun e => e.down = n).map fun e =>
      (e.strength : Int) * ((x.ceiling e.up : Int) -
        match x.usable.get e.up with
        | some h => (h.power : Int)
        | none => 0)).sum := by
  have hfilter : (x.profile.couplings.filter fun e => e.down == n) = x.profile.couplings.filter fun e => e.down = n :=
    List.filter_congr fun _ _ => rfl
  rw [upstreamSum, hfilter]
  refine congrArg List.sum (List.map_congr_left fun e _ => ?_)
  rw [upstreamTerm, presentPower]
  cases x.usable.get e.up <;> rfl

theorem clampPower_eq (peak : Nat) (v : Int) : (clampPower peak v : Int) = max 0 (min v peak) := by
  unfold clampPower
  omega

theorem ceilingOf_power_le (done : Ceilings)
    (h : (x.profile.bays.get n).fallback ≤ (x.profile.bays.get n).peak) :
    (ceilingOf x done n).power ≤ (x.profile.bays.get n).peak := by
  unfold ceilingOf
  dsimp only
  split
  · exact h
  · split
    · exact le_rfl
    · exact Nat.min_le_right _ _

end Results

/-- Settles O46: the walk solves the equations, which are then read off case by case. -/
theorem ceilingsFollowTheThermalModel : Obligations.CeilingsFollowTheThermalModel := by
  intro x hordered
  have hsolves := ceilings_solves hordered
  have hin {j : Bay} (hj : j ∈ x.profile.shelf.airflow) : (ceilings x).get j = some (ceilingOf x (ceilings x) j) := by
    rw [hsolves j, if_pos hj]
  have hout {j : Bay} (hj : j ∉ x.profile.shelf.airflow) : x.ceiling j = 0 := by
    rw [Snapshot.ceiling, Ceilings.power, hsolves j, if_neg hj]
  refine ⟨fun j => hout, fun j hle => ?_, fun j hj => ?_⟩
  · by_cases hj : j ∈ x.profile.shelf.airflow
    · exact Snapshot.ceiling_of_get (hin hj) ▸ ceilingOf_power_le _ hle
    · exact hout hj ▸ Nat.zero_le _
  · intro b upstream
    have hsum : upstreamSum x (ceilings x) j = upstream := upstreamSum_ceilings x j
    rw [Snapshot.ceiling_of_get (hin hj), Snapshot.deficit_of_get (hin hj), Snapshot.subst_of_get (hin hj)]
    refine ⟨fun husable => ?_, fun h husable => ⟨?_, fun hgain => ?_, fun hgain => ?_⟩⟩
    · simp only [ceilingOf, husable, b, and_self]
    · simp only [ceilingOf, husable]; split <;> rfl
    · simp only [ceilingOf, husable, if_pos (show (x.profile.bays.get j).selfGain = 0 from hgain), b, and_self]
    · simp only [ceilingOf, husable, if_neg (show (x.profile.bays.get j).selfGain ≠ 0 from hgain), clampPower_eq,
        decide_eq_true_iff, unclamped, numerator, headroom, hsum]
      exact ⟨rfl, Iff.rfl⟩

/-- Settles O47: both walks solve the same equations, which have one solution. -/
theorem ceilingsIgnoreTheChoiceOfOrder : Obligations.CeilingsIgnoreTheChoiceOfOrder := by
  intro x order y hx hy hperm n
  have hsame : (ceilings y).get n = (ceilings x).get n := by
    refine x.solves_unique hx (fun m => ?_) (ceilings_solves hx) n
    rw [ceilings_solves hy m]
    simp only [y, hperm.mem_iff]
    rfl
  simp only [Snapshot.ceiling, Ceilings.power, Snapshot.deficit, Snapshot.subst, hsame, and_self]

/-! ### Counts -/

/-- The count does not fall as the grant rises. -/
theorem countOf_mono {b : BayBlock} (h : b.countMin ≤ b.len) {g g' : Nat} (hle : g ≤ g') : countOf b g ≤ countOf b g' := by
  by_cases hidle : g ≤ b.idle
  · rw [countOf, if_pos hidle]
    exact countMin_le_countOf h g'
  · by_cases hpeak : b.peak ≤ g'
    · have hfull : countOf b g' = b.len := by rw [countOf, if_neg (by omega), if_pos hpeak]
      exact hfull ▸ countOf_le_len h g
    · rw [countOf, countOf, if_neg hidle, if_neg (by omega), if_neg (by omega), if_neg hpeak]
      exact max_le_max le_rfl (Nat.div_le_div_right (Nat.mul_le_mul_right _ (by omega)))

/-- Above Amin the estimated power of a count stays within the grant. -/
theorem countOf_estimate_le {b : BayBlock} {g : Nat} (hg : g ≤ b.peak)
    (hcount : b.countMin < countOf b g) : b.idle * b.len + countOf b g * (b.peak - b.idle) ≤ g * b.len := by
  have hidle : ¬ g ≤ b.idle := fun h => by simp [countOf, h] at hcount
  have hscaled : countOf b g * (b.peak - b.idle) ≤ (g - b.idle) * b.len := by
    by_cases hpeak : b.peak ≤ g
    · rw [countOf, if_neg hidle, if_pos hpeak, Nat.le_antisymm hg hpeak, Nat.mul_comm]
    · rw [countOf, if_neg hidle, if_neg hpeak] at hcount ⊢
      rw [max_eq_right (by omega)]
      exact Nat.div_mul_le_self _ _
  calc b.idle * b.len + countOf b g * (b.peak - b.idle)
      ≤ b.idle * b.len + (g - b.idle) * b.len := Nat.add_le_add_left hscaled _
    _ = g * b.len := by rw [← Nat.add_mul]; congr 1; omega

/-- Settles O48: the three ranges of the definition, and its bounds. -/
theorem countsLieBetweenMinimumAndLength : Obligations.CountsLieBetweenMinimumAndLength := by
  intro b g g' hpower hlen
  refine ⟨fun h => if_pos h, fun h => ?_, fun hlow hhigh => ?_, countMin_le_countOf hlen g, countOf_le_len hlen g,
    countOf_mono hlen, countOf_estimate_le⟩
  · rw [countOf, if_neg (by omega), if_pos h]
  · rw [countOf, if_neg (by omega), if_neg (by omega)]

end Sys2Proof.Machine
end

section
/-! PROOFS. The timers: sensor ageing (R25, R29, R30), the derate debounce (R41 to R43), slots (R126) and the
over-temperature test (R33, R139). -/

namespace Sys2Proof.Machine

/-! ### A sensor record replaced (R32) -/

section Records
variable (s : State) (n : Bay) (r : SensorRec)

@[simp] theorem State.setSensor_get : s.setSensor n (s.sensors.get n) = s := by
  simp only [State.setSensor, Row8.set_get]; rfl

@[simp] theorem State.setDecoder_get : s.setDecoder n (s.capture.get n) = s := by
  simp only [State.setDecoder, Row8.set_get]; rfl

/-- A record written back as it stands announces nothing. -/
@[simp] theorem State.updateSensor_same : s.updateSensor n (s.sensors.get n) false = s := by
  simp [State.updateSensor]

theorem satInc16_eq (c : BitVec 16) : satInc16 c = if c = 65535 then 65535 else c + 1 := by
  unfold satInc16; split <;> simp_all

end Records

section Timers
variable {s : State} {n : Bay} {p : SensorParams} {a t : Nat}

/-- The age of a record that has accepted a sample. -/
theorem SensorRec.ageReached_of_accepted {r : SensorRec} (h : r.acceptedAt = some a) (limit : Nat) :
    r.ageReached t limit = decide (a + ms limit ≤ t) := by simp only [SensorRec.ageReached, h]

theorem State.endRun_eq_runEnds {run : Run} (h : (s.sensors.get n).state = .acquiring run) :
    s.updateSensor n ((s.sensors.get n).endRun run.origin) false = s.runEnds n := by
  unfold State.runEnds SensorRec.endRun
  simp only [h]
  cases run.origin
  · exact State.updateSensor_of_code_ne (by simp [h, SensorState.code])
  · exact State.updateSensor_of_code_ne (by simp [h, SensorState.code])

/-- An error notice ends a run and does nothing else (R25). -/
theorem State.deliverNotice_eq_runEnds : s.deliverNotice n = s.runEnds n := by
  cases h : (s.sensors.get n).state with
  | acquiring run =>
    rw [State.deliverNotice, SensorRec.notice]
    simp only [h]
    exact State.endRun_eq_runEnds h
  | absent | valid | stale | lost =>
    simp [State.deliverNotice, SensorRec.notice, State.runEnds, h]

/-- A capture error is its decoder's change, noticed. -/
theorem State.captureError_eq (d : Decoder) (c : CaptureCause) (start : Nat) :
    s.captureError n d c start = (s.setDecoder n ((d.abandon start).count c)).errorNoticed n := by
  rw [State.captureError, State.deliverNotice_eq_runEnds, State.errorNoticed]

end Timers

/-! ### The timers' commands -/

section Commands
variable {s : State} {n : Bay} {t : Nat}

theorem exec_staleTimer (hreset : s.inReset = false) : exec (.staleTimer t n) s =
    .next ((s.advance t).updateSensor n ((s.sensors.get n).staleExpiry s.params (max s.now t)) false) := by
  show execStaleTimer t n s = _
  rw [execStaleTimer, event_of_released _ hreset]; rfl

theorem exec_lostTimer (hreset : s.inReset = false) : exec (.lostTimer t n) s =
    .next ((s.advance t).updateSensor n ((s.sensors.get n).lostExpiry s.params (max s.now t)) false) := by
  show execLostTimer t n s = _
  rw [execLostTimer, event_of_released _ hreset]; rfl

theorem exec_runSilence (hreset : s.inReset = false) : exec (.runSilence t n) s =
    .next ((s.advance t).updateSensor n ((s.sensors.get n).silenceExpiry s.params (max s.now t)) false) := by
  show execRunSilence t n s = _
  rw [execRunSilence, event_of_released _ hreset]; rfl

theorem exec_slotExpiry (hreset : s.inReset = false) : exec (.slotExpiry t n) s = .next
    (if (s.lines.get n).slotDue (max s.now t) then (s.advance t).setLine n (s.lines.get n).nextSlot else s.advance t) := by
  show execSlotExpiry t n s = _
  rw [execSlotExpiry, event_of_released _ hreset]; rfl

theorem exec_derateAssertion (hreset : s.inReset = false) : exec (.derateAssertion t) s = .next
    (if s.cycle.assertionDue (max s.now t) then (s.advance t).assertDerate else s.advance t) := by
  show execDerateAssertion t s = _
  rw [execDerateAssertion, event_of_released _ hreset]; rfl

theorem exec_derateDeassertion (hreset : s.inReset = false) : exec (.derateDeassertion t) s = .next
    (if s.cycle.deassertionDue (max s.now t) then (s.advance t).deassertDerate else s.advance t) := by
  show execDerateDeassertion t s = _
  rw [execDerateDeassertion, event_of_released _ hreset]; rfl

end Commands

/-- Settles O11: each timer by whether it has reached its time. -/
theorem sensorTimersAgeTheRecord : Obligations.SensorTimersAgeTheRecord := by
  intro t n s hreset r
  have hsame : (s.advance t).updateSensor n r false = s.advance t := (s.advance t).updateSensor_same n
  have hchanged {r' : SensorRec} (h : r'.state.code ≠ r.state.code) :
      (s.advance t).updateSensor n r' false = ((s.advance t).setSensor n r').announceSensor n :=
    State.updateSensor_of_code_ne h
  refine ⟨fun a hstate haccepted => ⟨fun hdue => ?_, fun hearly => ?_⟩,
    fun a hstate haccepted => ⟨fun hdue => ?_, fun hearly => ?_⟩, fun run hstate => ⟨fun hdue => ?_, fun hearly => ?_⟩⟩
  · have hnext : r.staleExpiry s.params (max s.now t) = { r with state := .stale } := by
      simp only [SensorRec.staleExpiry, hstate, SensorRec.ageReached_of_accepted haccepted, hdue, decide_true, if_true]
    rw [exec_staleTimer hreset, hnext, hchanged (by simp [hstate, SensorState.code])]
  · have hnext : r.staleExpiry s.params (max s.now t) = r := by
      simp [SensorRec.staleExpiry, hstate, SensorRec.ageReached_of_accepted haccepted, Nat.not_le.mpr hearly]
    rw [exec_staleTimer hreset, hnext, hsame]
  · have hnext : r.lostExpiry s.params (max s.now t) =
        { r with state := .lost, implRun := 0, loss := if r.loss = 65535 then 65535 else r.loss + 1 } := by
      simp only [SensorRec.lostExpiry, hstate, SensorRec.ageReached_of_accepted haccepted, hdue, decide_true, if_true,
        satInc16_eq]
    rw [exec_lostTimer hreset, hnext, hchanged (by simp [hstate, SensorState.code])]
  · have hnext : r.lostExpiry s.params (max s.now t) = r := by
      simp [SensorRec.lostExpiry, hstate, SensorRec.ageReached_of_accepted haccepted, Nat.not_le.mpr hearly]
    rw [exec_lostTimer hreset, hnext, hsame]
  · have hnext : r.silenceExpiry s.params (max s.now t) = r.endRun run.origin := by
      simp only [SensorRec.silenceExpiry, hstate, Run.silent, hdue, decide_true, if_true]
    have hend : (s.advance t).updateSensor n (r.endRun run.origin) false = (s.advance t).runEnds n :=
      State.endRun_eq_runEnds hstate
    rw [exec_runSilence hreset, hnext, hend]
  · have hnext : r.silenceExpiry s.params (max s.now t) = r := by
      simp [SensorRec.silenceExpiry, hstate, Run.silent, Nat.not_le.mpr hearly]
    rw [exec_runSilence hreset, hnext, hsame]

/-! ### The over-temperature test (R33, R139) -/

/-- Settles O10: the threshold is looked up, compared, and met or not. -/
theorem overTemperatureTestHoldsTheLine : Obligations.OverTemperatureTestHoldsTheLine := by
  intro s n temp
  refine ⟨fun hnone => by simp only [State.overtempTest, State.overtempThreshold, hnone], fun p hp => ?_⟩
  refine ⟨fun hvacant => by simp [State.overtempTest, State.overtempThreshold, hp, hvacant], fun hoccupied => ?_⟩
  have hthreshold : s.overtempThreshold n = some ((p.bays.get n).limit + p.shelf.margin) := by
    simp only [State.overtempThreshold, hp, hoccupied, if_true]
  refine ⟨fun hbelow => ?_, fun habove => ?_⟩
  · simp only [State.overtempTest, hthreshold, if_neg (Nat.not_le.mpr hbelow)]
  · have htest : s.overtempTest n temp = s.overtemp n := by
      simp only [State.overtempTest, hthreshold, if_pos habove]
    have hblock : s.bayBlock n = p.bays.get n := by simp only [State.bayBlock, hp]
    have hbound : s.bindings = p.bindings := by simp only [State.bindings, hp]
    rw [htest, State.overtemp, hblock, hbound]
    refine ⟨fun hmode => ?_, fun hmode => ?_⟩
    · simp only [Line.overtemp, hmode]
    · have hline : (s.lines.get n).overtemp (p.bays.get n).countMin = s.lines.get n := by simp only [Line.overtemp, hmode]
      have hsame : s.setLine n (s.lines.get n) = s := by simp only [State.setLine, Row8.set_get]; rfl
      rw [hline, hsame]

/-! ### The derate line (R41 to R43) -/

theorem CycleTimer.debounceDue_of_since {c : CycleTimer} {a t : Nat} (h : c.drtSince = some a) :
    c.debounceDue t = decide (a + us 200 ≤ t) := by simp only [CycleTimer.debounceDue, h]; rfl

/-- With no debounce overdue the debounced level stays. -/
theorem State.settleDrt_of_early {s : State} {t : Nat} (h : ∀ a, s.cycle.drtSince = some a → t < a + us 200) :
    s.settleDrt t = s := by
  have hdue : s.cycle.debounceDue t = false := by
    cases hsince : s.cycle.drtSince with
    | none => simp only [CycleTimer.debounceDue, hsince]
    | some a => rw [CycleTimer.debounceDue_of_since hsince]; exact decide_eq_false (Nat.not_le.mpr (h a hsince))
  simp [State.settleDrt, CycleTimer.assertionDue, CycleTimer.deassertionDue, hdue]

theorem CycleTimer.raw_eq (c : CycleTimer) (t : Nat) (high : Bool) : c.raw t high =
    { c with rawDrt := high
             drtSince := if high = c.rawDrt then c.drtSince else if high = c.debounced then none else some t } := by
  unfold CycleTimer.raw
  by_cases h : c.rawDrt = high
  · subst h; simp
  · rw [if_neg h, if_neg (Ne.symm h)]

/-- Settles O12: nothing is overdue, so the raw line alone is followed. -/
theorem rawDrtStartsAndDropsTheDebounce : Obligations.RawDrtStartsAndDropsTheDebounce := by
  intro t high s hreset hearly
  have hsettled : (s.advance t).settleDrt (max s.now t) = s.advance t := State.settleDrt_of_early hearly
  show execRawDrtChange t high s = _
  simp only [execRawDrtChange, hreset, Bool.false_eq_true, if_false, State.advance_now, hsettled, State.advance_cycle,
    CycleTimer.raw_eq]

/-- The fast clamp, line by line. -/
theorem State.fastClamp_eq (s : State) : s.fastClamp = s.setLines (Row8.ofFn fun n =>
    if (s.lines.get n).mode = .profile then
      { s.lines.get n with live := min (s.lines.get n).live (s.bayBlock n).countDerate }
    else s.lines.get n) := by
  refine congrArg s.setLines (Row8.ext_get fun n => ?_)
  rw [Row8.get_mapIdx, Row8.get_ofFn]
  cases h : (s.lines.get n).mode <;> simp [Line.fastClamp, h]

/-- Settles O13: the debounce is due, and the engine's state decides what an event of the line does. -/
theorem debouncedDrtSetsTheDerateFlag : Obligations.DebouncedDrtSetsTheDerateFlag := by
  intro t a s hreset hsince hdue
  have hdebounce : s.cycle.debounceDue (max s.now t) = true := by
    rw [CycleTimer.debounceDue_of_since hsince, decide_eq_true hdue]
  refine ⟨fun hraw hdebounced => ?_, fun hraw hdebounced => ?_⟩
  · have hexec : exec (.derateAssertion t) s = .next (s.advance t).assertDerate := by
      simp [exec_derateAssertion hreset, CycleTimer.assertionDue, hraw, hdebounced, hdebounce]
    refine ⟨fun hrunning => ?_, fun hstopped => ?_⟩
    · rw [hexec, State.assertDerate]
      simp only [State.advance_alloc, hrunning, State.fastClamp_eq]
      rfl
    · rw [hexec, State.assertDerate]
      simp only [State.advance_alloc, hstopped]
      rfl
  · have hexec : exec (.derateDeassertion t) s = .next (s.advance t).deassertDerate := by
      simp [exec_derateDeassertion hreset, CycleTimer.deassertionDue, hraw, hdebounced, hdebounce]
    refine ⟨fun hrunning => ?_, fun hstopped => ?_⟩
    · rw [hexec, State.deassertDerate]
      simp only [State.advance_alloc, hrunning]
      rfl
    · rw [hexec, State.deassertDerate]
      simp only [State.advance_alloc, hstopped]
      rfl

/-! ### Slots (R126 to R128) -/

/-- Settles O17: the slot in progress has lasted its time, or not. -/
theorem slotExpiryPlaysTheNextSlot : Obligations.SlotExpiryPlaysTheNextSlot := by
  intro t n s hreset l next
  rw [exec_slotExpiry hreset]
  refine ⟨fun hdue => congrArg _ (if_pos ?_), fun hearly => congrArg _ (if_neg ?_)⟩
  · simpa [Line.slotDue] using hdue
  · simpa [Line.slotDue] using hearly

end Sys2Proof.Machine
end

section
/-! PROOFS. The Sense Capture Unit: the glitch filter, the accepted edges and the expiries of one decoder (R2 to R14). -/

namespace Sys2Proof.Machine

/-! ### The commands -/

section Commands
variable {s : State} {n : Bay} {t : Nat}

theorem exec_quietLow (hreset : s.inReset = false) :
    exec (.quietLow t n) s = .next ((s.advance t).takeQuiet n (max s.now t)) := by
  show execQuietLow t n s = _
  rw [execQuietLow, event_of_released _ hreset]; rfl

theorem exec_acceptedEdge {raw : RawTrace} (hreset : s.inReset = false) :
    exec (.acceptedEdge raw n) s = .next (s.followRaw n raw) := by
  show execAcceptedEdge raw n s = _
  rw [execAcceptedEdge, hreset]; rfl

theorem exec_captureMarkerError (hreset : s.inReset = false) :
    exec (.captureMarkerError t n) s = .next ((s.advance t).takeBadEdge n .marker) := by
  show execCaptureMarkerError t n s = _
  rw [execCaptureMarkerError, event_of_released _ hreset]

theorem exec_captureGapError (hreset : s.inReset = false) : exec (.captureGapError t n) s =
    .next (if (s.advance t).edgeFails n .gap then (s.advance t).acceptEdge n else (s.advance t).takeGap n (max s.now t)) := by
  show execCaptureGapError t n s = _
  rw [execCaptureGapError, event_of_released _ hreset]; rfl

theorem exec_captureWidthError (hreset : s.inReset = false) : exec (.captureWidthError t n) s =
    .next (if (s.advance t).edgeFails n .width then (s.advance t).acceptEdge n
      else (s.advance t).takePulse n (max s.now t)) := by
  show execCaptureWidthError t n s = _
  rw [execCaptureWidthError, event_of_released _ hreset]; rfl

theorem exec_captureTailError (hreset : s.inReset = false) :
    exec (.captureTailError t n) s = .next ((s.advance t).takeBadEdge n .tail) := by
  show execCaptureTailError t n s = _
  rw [execCaptureTailError, event_of_released _ hreset]

theorem exec_stuck (hreset : s.inReset = false) : exec (.stuck t n) s =
    .next (((s.advance t).takePulse n (max s.now t)).takeStuck n (max s.now t)) := by
  show execStuck t n s = _
  rw [execStuck, event_of_released _ hreset]; simp

end Commands

/-! ### The expiries one by one (R3) -/

section Expiries
variable {s : State} {n : Bay} {t u : Nat} {d : Decoder}

theorem Decoder.quietDue_iff : d.quietDue u = true ↔
    d.state = .seek ∧ d.level = false ∧ max d.seekAt d.edgeAt + us 1000 ≤ u := by
  simp only [Decoder.quietDue, Bool.and_eq_true, Bool.not_eq_true', beq_iff_eq, decide_eq_true_eq, and_assoc]
  rfl

theorem Decoder.gapDue_iff : d.gapDue u = true ↔ (d.state = .gapA ∨ d.state = .gapB) ∧ d.edgeAt + us 201 ≤ u := by
  simp only [Decoder.gapDue, Bool.and_eq_true, Bool.or_eq_true, beq_iff_eq, decide_eq_true_eq]
  rfl

theorem Decoder.pulseDue_iff : d.pulseDue u = true ↔ (d.state = .temp ∨ d.state = .power) ∧ d.edgeAt + us 1074 ≤ u := by
  simp only [Decoder.pulseDue, Bool.and_eq_true, Bool.or_eq_true, beq_iff_eq, decide_eq_true_eq]
  rfl

theorem Decoder.tailDue_iff : d.tailDue u = true ↔ d.state = .tail ∧ d.edgeAt + us 1000 ≤ u := by
  simp only [Decoder.tailDue, Bool.and_eq_true, beq_iff_eq, decide_eq_true_eq]
  rfl

theorem Decoder.stuckDue_iff : d.stuckDue u = true ↔
    d.level = true ∧ d.stuckCounted = false ∧ d.edgeAt + us 2000 ≤ u := by
  simp only [Decoder.stuckDue, Bool.and_eq_true, Bool.not_eq_true', decide_eq_true_eq, and_assoc]
  rfl

theorem State.takeQuiet_of_due (h : (s.capture.get n).quietDue ((s.capture.get n).settledTo t) = true) :
    s.takeQuiet n t = s.setDecoder n { s.capture.get n with state := .idle } := if_pos h

theorem State.takeQuiet_of_early (h : ¬ (s.capture.get n).quietDue ((s.capture.get n).settledTo t) = true) :
    s.takeQuiet n t = s := if_neg h

theorem State.takeGap_of_due (h : (s.capture.get n).gapDue ((s.capture.get n).settledTo t) = true) :
    s.takeGap n t = s.captureError n (s.capture.get n) .gap ((s.capture.get n).edgeAt + us 201) := if_pos h

theorem State.takeGap_of_early (h : ¬ (s.capture.get n).gapDue ((s.capture.get n).settledTo t) = true) :
    s.takeGap n t = s := if_neg h

theorem State.takePulse_of_due (h : (s.capture.get n).pulseDue ((s.capture.get n).settledTo t) = true) :
    s.takePulse n t = s.captureError n (s.capture.get n) .width ((s.capture.get n).edgeAt + us 1074) := if_pos h

theorem State.takePulse_of_early (h : ¬ (s.capture.get n).pulseDue ((s.capture.get n).settledTo t) = true) :
    s.takePulse n t = s := if_neg h

theorem State.takeTail_of_early (h : ¬ (s.capture.get n).tailDue ((s.capture.get n).settledTo t) = true) :
    s.takeTail n t = s := if_neg h

theorem State.takeStuck_of_due (h : (s.capture.get n).stuckDue ((s.capture.get n).settledTo t) = true) :
    s.takeStuck n t =
      s.captureError n { s.capture.get n with stuckCounted := true } .stuck ((s.capture.get n).edgeAt + us 2000) := if_pos h

theorem State.takeStuck_of_early (h : ¬ (s.capture.get n).stuckDue ((s.capture.get n).settledTo t) = true) :
    s.takeStuck n t = s := if_neg h

theorem Decoder.abandon_of_frame (h : d.state ≠ .seek) (start : Nat) :
    d.abandon start = { d with state := .seek, seekAt := start, temp := none, power := none } := by
  unfold Decoder.abandon; split
  · contradiction
  · rfl

theorem Decoder.abandon_of_seek (h : d.state = .seek) (start : Nat) :
    d.abandon start = { d with temp := none, power := none } := by
  simp only [Decoder.abandon, h]

end Expiries

/-- Settles O4: the quiet low has reached 1000 µs by the settled instant, or not. -/
theorem quietLowEntersIdle : Obligations.QuietLowEntersIdle := by
  intro t n s hreset hseek hlow settled
  have hsettled : ((s.advance t).capture.get n).settledTo (max s.now t) = settled := rfl
  rw [exec_quietLow hreset]
  refine ⟨fun hdue => congrArg _ (State.takeQuiet_of_due ?_), fun hearly => congrArg _ (State.takeQuiet_of_early ?_)⟩
  · rw [hsettled]
    exact Decoder.quietDue_iff.mpr ⟨hseek, hlow, hdue⟩
  · rw [hsettled, Decoder.quietDue_iff]
    rintro ⟨-, -, hdue⟩
    exact absurd hdue (Nat.not_le.mpr hearly)

/-! ### Accepted edges (R2, R5 to R11) -/

section Edges
variable {s : State} {n : Bay} {t c : Nat} {d d' : Decoder}

/-- A candidate that has held for 4 µs is an edge; with nothing due before it, the frame's edge alone. -/
theorem State.acceptEdge_of_nothingDue (hcandidate : (s.capture.get n).candidate = some c) (hheld : c + us 4 ≤ s.now)
    (hquiet : (s.capture.get n).nothingDue c) : s.acceptEdge n = s.takeEdge n c := by
  have haccepted : (s.capture.get n).accepted s.now = some c := (Decoder.accepted_eq_some _ _ _).mpr ⟨hcandidate, hheld⟩
  rw [State.acceptEdge_eq_lineEdge _ _ _ haccepted, State.lineEdge, State.settleLine_eq_self _ _ _ hquiet]

theorem State.edgeFails_of_nothingDue (hcandidate : (s.capture.get n).candidate = some c) (hheld : c + us 4 ≤ s.now)
    (hquiet : (s.capture.get n).nothingDue c) (cause : CaptureCause) :
    s.edgeFails n cause = ((s.capture.get n).edge c == .abandons cause) := by
  have haccepted : (s.capture.get n).accepted s.now = some c := (Decoder.accepted_eq_some _ _ _).mpr ⟨hcandidate, hheld⟩
  simp only [State.edgeFails, haccepted, State.settleLine_eq_self _ _ _ hquiet]

/-- With no edge accepted none fails. -/
theorem State.edgeFails_of_not_accepted (h : (s.capture.get n).accepted s.now = none) (cause : CaptureCause) :
    s.edgeFails n cause = false := by simp only [State.edgeFails, h]

theorem State.takeEdge_of_moves (h : (s.capture.get n).edge t = .moves d) :
    s.takeEdge n t = s.setDecoder n (d.turn t) := by simp only [State.takeEdge, h]

theorem State.takeEdge_of_abandons {cause : CaptureCause} (h : (s.capture.get n).edge t = .abandons cause) :
    s.takeEdge n t = s.captureError n ((s.capture.get n).turn t) cause t := by simp only [State.takeEdge, h]

theorem State.followRaw_nil : s.followRaw n ⟨[], t⟩ = (s.advance t).acceptEdge n := rfl

theorem Decoder.edge_high (h : d.level = true) : d.edge t = d.falling (widthUs d.edgeAt t) := if_pos h

theorem Decoder.edge_low (h : d.level = false) : d.edge t = d.rising (widthUs d.edgeAt t) := if_neg (by simp [h])

end Edges

/-- Settles O5: nothing is due by the edge, so it is taken as it is; each row reads its state's edge. -/
theorem goodEdgesMoveTheFrame : Obligations.GoodEdgesMoveTheFrame := by
  intro t c n s hreset hcandidate hheld d w accepted moved
  have hmoves {d' : Decoder} (hquiet : d.nothingDue c) (hedge : d.edge c = .moves d') (hlevel : d'.level = d.level) :
      accepted = moved d' := by
    have htaken : (s.advance t).acceptEdge n = (s.advance t).takeEdge n c :=
      State.acceptEdge_of_nothingDue hcandidate hheld hquiet
    have hturned : (s.advance t).takeEdge n c = (s.advance t).setDecoder n (d'.turn c) := State.takeEdge_of_moves hedge
    simp only [accepted, moved]
    rw [exec_acceptedEdge hreset, State.followRaw_nil, htaken, hturned, Decoder.turn, hlevel]
  have hwidth : widthUs d.edgeAt c = w := rfl
  have hdiv : w = (c - d.edgeAt) / 1000 := rfl
  refine ⟨fun hstate hlevel => ?_, fun hstate hlevel hlo hhi => ?_, fun hstate hlevel hlo hhi => ?_,
    fun hstate hlevel hlo hhi => ?_, fun hstate hlevel hlo hhi => ?_, fun hstate hlevel hlo hhi => ?_,
    fun hstate hlevel hearly => ?_, fun hstate hlevel hearly => ?_⟩
  · refine hmoves ?_ ?_ rfl
    · simp [Decoder.nothingDue, hstate, hlevel]
    · simp [Decoder.edge_low hlevel, Decoder.rising, hstate]
  · refine hmoves ?_ ?_ rfl
    · simp [Decoder.nothingDue, hstate, hlevel, us, Config.nsPerUs]; omega
    · simp [Decoder.edge_high hlevel, Decoder.falling, hstate, markerGood, hwidth, hlo, hhi]
  · refine hmoves ?_ ?_ rfl
    · simp [Decoder.nothingDue, hstate, hlevel, us, Config.nsPerUs]; omega
    · simp [Decoder.edge_low hlevel, Decoder.rising, hstate, gapGood, hwidth, hlo, hhi]
  · refine hmoves ?_ ?_ rfl
    · simp [Decoder.nothingDue, hstate, hlevel, us, Config.nsPerUs]; omega
    · simp [Decoder.edge_high hlevel, Decoder.falling, hstate, pulseGood, hwidth, hlo, hhi]
  · refine hmoves ?_ ?_ rfl
    · simp [Decoder.nothingDue, hstate, hlevel, us, Config.nsPerUs]; omega
    · simp [Decoder.edge_low hlevel, Decoder.rising, hstate, gapGood, hwidth, hlo, hhi]
  · refine hmoves ?_ ?_ rfl
    · simp [Decoder.nothingDue, hstate, hlevel, us, Config.nsPerUs]; omega
    · simp [Decoder.edge_high hlevel, Decoder.falling, hstate, pulseGood, hwidth, hlo, hhi]
  · refine hmoves ?_ ?_ rfl
    · simpa [Decoder.nothingDue, hstate, hlevel] using hearly
    · simp [Decoder.edge_low hlevel, Decoder.rising, hstate]
  · refine hmoves ?_ ?_ rfl
    · simp only [Decoder.nothingDue, hstate, hlevel]
      refine ⟨by simp, by simp, by simp, by simp, fun _ hcounted => ?_⟩
      exact hearly.resolve_left (by simp [hcounted])
    · simp [Decoder.edge_high hlevel, Decoder.falling, hstate]

/-- Settles O6: nothing is due by the edge, whose width is bad for its state. -/
theorem badEdgesAbandonTheFrame : Obligations.BadEdgesAbandonTheFrame := by
  intro t c n s hreset hcandidate hheld d w accepted abandoned
  have hfails (hquiet : d.nothingDue c) {cause : CaptureCause} (hedge : d.edge c = .abandons cause) :
      (s.advance t).edgeFails n cause = true := by
    rw [State.edgeFails_of_nothingDue (s := s.advance t) hcandidate hheld hquiet]
    exact beq_iff_eq.mpr hedge
  have htaken (hquiet : d.nothingDue c) {cause : CaptureCause} (hedge : d.edge c = .abandons cause) (hframe : d.state ≠ .seek) :
      (s.advance t).acceptEdge n = ((s.advance t).setDecoder n
        ({ d with state := .seek, seekAt := c, temp := none, power := none, level := !d.level, candidate := none,
                  edgeAt := c, stuckCounted := false }.count cause)).errorNoticed n := by
    rw [State.acceptEdge_of_nothingDue (s := s.advance t) hcandidate hheld hquiet,
      State.takeEdge_of_abandons (s := s.advance t) hedge, State.captureError_eq]
    have hturned : (((s.advance t).capture.get n).turn c).state ≠ .seek := hframe
    rw [Decoder.abandon_of_frame hturned]
    rfl
  have haccepted : accepted = .next ((s.advance t).acceptEdge n) := exec_acceptedEdge hreset
  have hwidth : widthUs d.edgeAt c = w := rfl
  have hdiv : w = (c - d.edgeAt) / 1000 := rfl
  refine ⟨fun hstate hlevel hbad hearly => ?_, fun hstate hlevel hbad => ?_, fun hstate hlevel hbad => ?_,
    fun hstate hlevel hearly => ?_⟩
  · have hquiet : d.nothingDue c := by
      simpa [Decoder.nothingDue, hstate, hlevel] using fun _ => hearly
    have hedge : d.edge c = .abandons .marker := by
      simp [Decoder.edge_high hlevel, Decoder.falling, hstate, markerGood, hwidth]; omega
    have hstep := htaken hquiet hedge (by simp [hstate])
    refine ⟨?_, haccepted.trans (congrArg _ hstep)⟩
    rw [exec_captureMarkerError hreset, State.takeBadEdge, if_pos (hfails hquiet hedge), hstep]
    rfl
  · have hquiet : d.nothingDue c := by
      obtain hstate | hstate := hstate <;> simp [Decoder.nothingDue, hstate, hlevel, us, Config.nsPerUs] <;> omega
    have hedge : d.edge c = .abandons .gap := by
      obtain hstate | hstate := hstate <;>
        simp [Decoder.edge_low hlevel, Decoder.rising, hstate, gapGood, hwidth, Nat.not_le.mpr hbad]
    have hstep := htaken hquiet hedge (by obtain hstate | hstate := hstate <;> simp [hstate])
    refine ⟨?_, haccepted.trans (congrArg _ hstep)⟩
    rw [exec_captureGapError hreset, if_pos (hfails hquiet hedge), hstep]
    rfl
  · have hquiet : d.nothingDue c := by
      obtain hstate | hstate := hstate <;> simp [Decoder.nothingDue, hstate, hlevel, us, Config.nsPerUs] <;> omega
    have hedge : d.edge c = .abandons .width := by
      obtain hstate | hstate := hstate <;>
        simp [Decoder.edge_high hlevel, Decoder.falling, hstate, pulseGood, hwidth, Nat.not_le.mpr hbad]
    have hstep := htaken hquiet hedge (by obtain hstate | hstate := hstate <;> simp [hstate])
    refine ⟨?_, haccepted.trans (congrArg _ hstep)⟩
    rw [exec_captureWidthError hreset, if_pos (hfails hquiet hedge), hstep]
    rfl
  · have hquiet : d.nothingDue c := by
      simpa [Decoder.nothingDue, hstate, hlevel] using hearly
    have hedge : d.edge c = .abandons .tail := by simp [Decoder.edge_low hlevel, Decoder.rising, hstate]
    have hstep := htaken hquiet hedge (by simp [hstate])
    refine ⟨?_, haccepted.trans (congrArg _ hstep)⟩
    rw [exec_captureTailError hreset, State.takeBadEdge, if_pos (hfails hquiet hedge), hstep]
    rfl

end Sys2Proof.Machine
end

section
/-! PROOFS. Intervals that reach their length (R9, R10, R13), and what the glitch filter hides (R2, R3). -/

namespace Sys2Proof.Machine

/-! ### Over-long intervals -/

section Overlong
variable {s : State} {n : Bay} {t c : Nat}

theorem State.errorNoticed_capture : (s.errorNoticed n).capture = s.capture := by
  rw [State.errorNoticed, ← State.deliverNotice_eq_runEnds]; simp

@[simp] theorem Decoder.count_state (d : Decoder) (cause : CaptureCause) : (d.count cause).state = d.state := by
  cases cause <;> rfl

@[simp] theorem Decoder.abandon_state (d : Decoder) (start : Nat) : (d.abandon start).state = .seek := by
  unfold Decoder.abandon; split
  · assumption
  · rfl

/-- A stuck run counted in SEEK keeps the entry into SEEK (R13). -/
theorem Decoder.abandon_counted_of_seek {d : Decoder} (h : d.state = .seek) (start : Nat) :
    ({ d with stuckCounted := true } : Decoder).abandon start =
      { d with state := .seek, seekAt := d.seekAt, temp := none, power := none, stuckCounted := true } := by
  have hcounted : ({ d with stuckCounted := true } : Decoder).state = .seek := h
  rw [Decoder.abandon_of_seek hcounted]
  simp only [h]

theorem State.stuck_of_seek (h : (s.capture.get n).state = .seek) (start : Nat) :
    s.captureError n { s.capture.get n with stuckCounted := true } .stuck start =
      (s.setDecoder n
        { s.capture.get n with
          state := .seek, seekAt := (s.capture.get n).seekAt, temp := none, power := none, stuckCounted := true,
          stuck := satInc8 (s.capture.get n).stuck }).errorNoticed n := by
  rw [State.captureError_eq, Decoder.abandon_counted_of_seek h]
  rfl

/-- Between frames no edge is an error. -/
theorem Decoder.edge_between {d : Decoder} (h : d.state = .seek ∨ d.state = .idle) (cause : CaptureCause) :
    d.edge t ≠ .abandons cause := by
  unfold Decoder.edge Decoder.rising Decoder.falling
  obtain h | h := h <;> rw [h] <;> split <;> simp

theorem State.takeQuiet_between (h : (s.capture.get n).state = .seek ∨ (s.capture.get n).state = .idle) :
    ((s.takeQuiet n t).capture.get n).state = .seek ∨ ((s.takeQuiet n t).capture.get n).state = .idle := by
  unfold State.takeQuiet
  split
  · simp
  · exact h

theorem State.takeStuck_between (h : (s.capture.get n).state = .seek ∨ (s.capture.get n).state = .idle) :
    ((s.takeStuck n t).capture.get n).state = .seek ∨ ((s.takeStuck n t).capture.get n).state = .idle := by
  unfold State.takeStuck
  split
  · simp
  · exact h

theorem State.takePulse_between (h : (s.capture.get n).state = .seek ∨ (s.capture.get n).state = .idle) :
    ((s.takePulse n t).capture.get n).state = .seek ∨ ((s.takePulse n t).capture.get n).state = .idle := by
  unfold State.takePulse
  split
  · simp
  · exact h

/-- A gap at its length by the candidate leaves no frame for the candidate's edge to fail. -/
theorem State.settleLine_between_of_gap (h : (s.capture.get n).gapDue ((s.capture.get n).settledTo t) = true) :
    ((s.settleLine n t).capture.get n).state = .seek ∨ ((s.settleLine n t).capture.get n).state = .idle := by
  have htail : s.takeTail n t = s := State.takeTail_of_early fun htail => by
    obtain ⟨hstate, -⟩ := Decoder.tailDue_iff.mp htail
    obtain ⟨hgap, -⟩ := Decoder.gapDue_iff.mp h
    simp [hstate] at hgap
  unfold State.settleLine
  rw [htail, State.takeGap_of_due h]
  exact State.takeStuck_between (State.takeQuiet_between (State.takePulse_between (by simp)))

/-- A value pulse at its length, likewise. -/
theorem State.settleLine_between_of_pulse (h : (s.capture.get n).pulseDue ((s.capture.get n).settledTo t) = true) :
    ((s.settleLine n t).capture.get n).state = .seek ∨ ((s.settleLine n t).capture.get n).state = .idle := by
  obtain ⟨hpulse, -⟩ := Decoder.pulseDue_iff.mp h
  have htail : s.takeTail n t = s := State.takeTail_of_early fun htail => by
    obtain ⟨hstate, -⟩ := Decoder.tailDue_iff.mp htail
    simp [hstate] at hpulse
  have hgap : s.takeGap n t = s := State.takeGap_of_early fun hgap => by
    obtain ⟨hstate, -⟩ := Decoder.gapDue_iff.mp hgap
    obtain hstate | hstate := hstate <;> simp [hstate] at hpulse
  unfold State.settleLine
  rw [htail, hgap, State.takePulse_of_due h]
  exact State.takeStuck_between (State.takeQuiet_between (by simp))

/-- No edge fails where the decoder is between frames once what is due has been taken. -/
theorem State.edgeFails_of_between
    (h : ∀ c, (s.capture.get n).candidate = some c → ((s.settleLine n c).capture.get n).state = .seek ∨
      ((s.settleLine n c).capture.get n).state = .idle) (cause : CaptureCause) : s.edgeFails n cause = false := by
  unfold State.edgeFails
  split
  · next c haccepted =>
    obtain ⟨hcandidate, -⟩ := (Decoder.accepted_eq_some _ _ _).mp haccepted
    exact beq_eq_false_iff_ne.mpr (Decoder.edge_between (h c hcandidate) cause)
  · rfl

/-- No edge fails where nothing is due by it and it is no error. -/
theorem State.edgeFails_of_good {cause : CaptureCause}
    (h : ∀ c, (s.capture.get n).candidate = some c → c + us 4 ≤ s.now →
      (s.capture.get n).nothingDue c ∧ (s.capture.get n).edge c ≠ .abandons cause) : s.edgeFails n cause = false := by
  cases haccepted : (s.capture.get n).accepted s.now with
  | none => exact State.edgeFails_of_not_accepted haccepted cause
  | some c =>
    obtain ⟨hcandidate, hheld⟩ := (Decoder.accepted_eq_some _ _ _).mp haccepted
    obtain ⟨hquiet, hedge⟩ := h c hcandidate hheld
    rw [State.edgeFails_of_nothingDue hcandidate hheld hquiet]
    exact beq_eq_false_iff_ne.mpr hedge

theorem Decoder.nothingDue_of_gap {d : Decoder} (hstate : d.state = .gapA ∨ d.state = .gapB) (h : t < d.edgeAt + us 201) :
    d.nothingDue t := by
  simp only [us, Config.nsPerUs] at h
  obtain hstate | hstate := hstate <;> simp [Decoder.nothingDue, hstate, us, Config.nsPerUs] <;> omega

theorem Decoder.nothingDue_of_pulse {d : Decoder} (hstate : d.state = .temp ∨ d.state = .power)
    (h : t < d.edgeAt + us 1074) : d.nothingDue t := by
  simp only [us, Config.nsPerUs] at h
  obtain hstate | hstate := hstate <;> simp [Decoder.nothingDue, hstate, us, Config.nsPerUs] <;> omega

/-- A gap of good width ends without an error. -/
theorem Decoder.edge_of_gap {d : Decoder} (hstate : d.state = .gapA ∨ d.state = .gapB) (h : t < d.edgeAt + us 201)
    (hwidth : 40 ≤ widthUs d.edgeAt t) (cause : CaptureCause) : d.edge t ≠ .abandons cause := by
  have hgood : gapGood (widthUs d.edgeAt t) = true := by
    simp only [gapGood, decide_eq_true_eq, hwidth, true_and]
    simp only [widthUs, us, Config.nsPerUs] at h ⊢
    omega
  unfold Decoder.edge Decoder.rising Decoder.falling
  obtain hstate | hstate := hstate <;> simp only [hstate, hgood] <;> split <;> simp

/-- A value pulse of good width, likewise. -/
theorem Decoder.edge_of_pulse {d : Decoder} (hstate : d.state = .temp ∨ d.state = .power) (h : t < d.edgeAt + us 1074)
    (hwidth : 50 ≤ widthUs d.edgeAt t) (cause : CaptureCause) : d.edge t ≠ .abandons cause := by
  have hgood : pulseGood (widthUs d.edgeAt t) = true := by
    simp only [pulseGood, decide_eq_true_eq, hwidth, true_and]
    simp only [widthUs, us, Config.nsPerUs] at h ⊢
    omega
  unfold Decoder.edge Decoder.rising Decoder.falling
  obtain hstate | hstate := hstate <;> simp only [hstate, hgood] <;> split <;> simp

/-- Settled to the instant at which its candidate opened, a decoder is settled no later than it is now. -/
theorem Decoder.settledTo_candidate {d : Decoder} (hcandidate : d.candidate = some c) : d.settledTo t ≤ d.settledTo c := by
  rw [Decoder.settledTo_some d t c hcandidate, Decoder.settledTo_some d c c hcandidate]
  omega

end Overlong

/-- Settles O7: each interval by whether it has reached its length by the settled instant. -/
theorem overlongIntervalsAbandonTheFrame : Obligations.OverlongIntervalsAbandonTheFrame := by
  intro t n s hreset d settled good sought
  have hget : (s.advance t).capture.get n = d := rfl
  have hsettled : ((s.advance t).capture.get n).settledTo (max s.now t) = settled := by
    cases h : (s.capture.get n).candidate <;> simp [Decoder.settledTo, settled, d, h]
  have hopened {c : Nat} (hc : d.candidate = some c) (hheld : c + us 4 ≤ (s.advance t).now) : settled = c := by
    have h : settled = min (max s.now t) c := hsettled ▸ Decoder.settledTo_some _ _ _ hc
    have hle : c ≤ max s.now t := (Nat.le_add_right c _).trans hheld
    omega
  have hlater {c : Nat} (hc : d.candidate = some c) : settled ≤ ((s.advance t).capture.get n).settledTo c :=
    hsettled ▸ Decoder.settledTo_candidate hc
  have hpulseDue {u : Nat} (hstate : d.state = .temp ∨ d.state = .power) (hu : d.edgeAt + us 1074 ≤ u) :
      ((s.advance t).capture.get n).pulseDue u = true := Decoder.pulseDue_iff.mpr ⟨hstate, hu⟩
  have hnopulse (hstate : d.state = .marker ∨ d.state = .seek) :
      (s.advance t).takePulse n (max s.now t) = s.advance t := State.takePulse_of_early fun h => by
    obtain ⟨h, -⟩ := Decoder.pulseDue_iff.mp h
    rw [hget] at h
    obtain hstate | hstate := hstate <;> simp [hstate] at h
  refine ⟨fun hstate => ⟨fun hdue => ?_, fun hearly hgood => ?_⟩, fun hstate => ⟨fun hdue => ?_, fun hearly hgood => ?_⟩,
    fun hlevel hcounted hdue => ⟨fun hstate => ?_, fun hstate => ?_, fun hstate => ?_⟩, fun hstate hnot => ?_,
    fun hstate hearly => ?_⟩
  · have hgap {u : Nat} (hu : settled ≤ u) : ((s.advance t).capture.get n).gapDue u = true :=
      Decoder.gapDue_iff.mpr ⟨hstate, hdue.trans hu⟩
    have hfails : (s.advance t).edgeFails n .gap = false :=
      State.edgeFails_of_between (fun c hc => State.settleLine_between_of_gap (hgap (hlater hc))) _
    have hframe : ((s.advance t).capture.get n).state ≠ .seek := by rw [hget]; obtain h | h := hstate <;> simp [h]
    rw [exec_captureGapError hreset, hfails, State.takeGap_of_due (hgap hsettled.ge), State.captureError_eq,
      Decoder.abandon_of_frame hframe]
    rfl
  · have hfails : (s.advance t).edgeFails n .gap = false := State.edgeFails_of_good fun c hc hheld => by
      have hlt : c < d.edgeAt + us 201 := hopened hc hheld ▸ hearly
      exact ⟨Decoder.nothingDue_of_gap hstate hlt, Decoder.edge_of_gap hstate hlt (hgood c hc hheld) _⟩
    have hnone : (s.advance t).takeGap n (max s.now t) = s.advance t := State.takeGap_of_early fun h => by
      rw [hsettled] at h
      exact absurd (Decoder.gapDue_iff.mp h).2 (Nat.not_le.mpr hearly)
    rw [exec_captureGapError hreset, hfails, hnone]
    rfl
  · have hfails : (s.advance t).edgeFails n .width = false := State.edgeFails_of_between
      (fun c hc => State.settleLine_between_of_pulse (hpulseDue hstate (hdue.trans (hlater hc)))) _
    have hframe : ((s.advance t).capture.get n).state ≠ .seek := by rw [hget]; obtain h | h := hstate <;> simp [h]
    rw [exec_captureWidthError hreset, hfails, State.takePulse_of_due (hpulseDue hstate (hsettled ▸ hdue)),
      State.captureError_eq, Decoder.abandon_of_frame hframe]
    rfl
  · have hfails : (s.advance t).edgeFails n .width = false := State.edgeFails_of_good fun c hc hheld => by
      have hlt : c < d.edgeAt + us 1074 := hopened hc hheld ▸ hearly
      exact ⟨Decoder.nothingDue_of_pulse hstate hlt, Decoder.edge_of_pulse hstate hlt (hgood c hc hheld) _⟩
    have hnone : (s.advance t).takePulse n (max s.now t) = s.advance t := State.takePulse_of_early fun h => by
      rw [hsettled] at h
      exact absurd (Decoder.pulseDue_iff.mp h).2 (Nat.not_le.mpr hearly)
    rw [exec_captureWidthError hreset, hfails, hnone]
    rfl
  · have hstuck : ((s.advance t).capture.get n).stuckDue (((s.advance t).capture.get n).settledTo (max s.now t)) = true :=
      Decoder.stuckDue_iff.mpr ⟨hlevel, hcounted, hsettled ▸ hdue⟩
    rw [exec_stuck hreset, hnopulse (.inl hstate), State.takeStuck_of_due hstuck, State.captureError_eq,
      Decoder.abandon_of_frame (by simp only [hget, hstate]; decide)]
    rfl
  · have hstuck : ((s.advance t).capture.get n).stuckDue (((s.advance t).capture.get n).settledTo (max s.now t)) = true :=
      Decoder.stuckDue_iff.mpr ⟨hlevel, hcounted, hsettled ▸ hdue⟩
    rw [exec_stuck hreset, hnopulse (.inr hstate), State.takeStuck_of_due hstuck, State.stuck_of_seek (s := s.advance t) hstate]
    rfl
  · have hframe : ((s.advance t).capture.get n).state ≠ .seek := by rw [hget]; obtain h | h := hstate <;> simp [h]
    have hless : d.edgeAt + us 1074 ≤ settled :=
      le_trans (Nat.add_le_add_left (show us 1074 ≤ us 2000 by decide) _) hdue
    let overlong : Decoder := sought (d.edgeAt + us 1074) { d with width := satInc8 d.width }
    have hpulse : (s.advance t).takePulse n (max s.now t) = ((s.advance t).setDecoder n overlong).errorNoticed n := by
      rw [State.takePulse_of_due (hpulseDue hstate (hsettled ▸ hless)), State.captureError_eq,
        Decoder.abandon_of_frame hframe]
      rfl
    have hover : (((s.advance t).setDecoder n overlong).errorNoticed n).capture.get n = overlong := by
      rw [State.errorNoticed_capture]; simp
    have hstuck : overlong.stuckDue (overlong.settledTo (max s.now t)) = true :=
      Decoder.stuckDue_iff.mpr ⟨hlevel, hcounted, hsettled ▸ hdue⟩
    rw [exec_stuck hreset, hpulse, State.takeStuck_of_due (by rw [hover]; exact hstuck), State.captureError_eq, hover]
    rfl
  · have hnone : (s.advance t).takeStuck n (max s.now t) = s.advance t := State.takeStuck_of_early fun h => by
      rw [hsettled] at h
      obtain ⟨-, hcounted, hdue⟩ := Decoder.stuckDue_iff.mp h
      obtain hcounted' | hearly := hnot
      · exact absurd (hcounted'.symm.trans hcounted) (by simp)
      · exact absurd hdue (Nat.not_le.mpr hearly)
    rw [exec_stuck hreset, hnopulse hstate, hnone]
  · have hnone : (s.advance t).takeTail n (max s.now t) = s.advance t := State.takeTail_of_early fun h => by
      rw [hsettled] at h
      exact absurd (Decoder.tailDue_iff.mp h).2 (Nat.not_le.mpr hearly)
    rw [exec_tailComplete hreset, hnone]

/-! ### The glitch filter (R2, R3) -/

section Glitches
variable {s : State} {n : Bay} {t u : Nat} {d : Decoder}

theorem Decoder.nothingDue.earlier (h : d.nothingDue t) (hle : u ≤ t) : d.nothingDue u := by
  obtain ⟨hquiet, hgap, hpulse, htail, hstuck⟩ := h
  exact ⟨fun h h' => hle.trans_lt (hquiet h h'), fun h => hle.trans_lt (hgap h), fun h => hle.trans_lt (hpulse h),
    fun h => hle.trans_lt (htail h), fun h h' => hle.trans_lt (hstuck h h')⟩

/-- Nothing is accepted unless a candidate has held for 4 µs. -/
theorem State.acceptEdge_of_not_held (h : ¬ ∃ c, (s.capture.get n).candidate = some c ∧ c + us 4 ≤ s.now) :
    s.acceptEdge n = s := by
  refine State.acceptEdge_eq_self s n (Option.eq_none_iff_forall_ne_some.mpr fun c hc => h ⟨c, ?_⟩)
  exact (Decoder.accepted_eq_some _ _ _).mp hc

theorem State.acceptEdge_of_closed (h : (s.capture.get n).candidate = none) : s.acceptEdge n = s :=
  State.acceptEdge_of_not_held (by simp [h])

theorem State.setDecoder_get_same : (s.setDecoder n d).capture.get n = d := by simp

theorem State.settleLine_candidate : ((s.settleLine n t).capture.get n).candidate = (s.capture.get n).candidate := by
  have h := State.settleLine_filter s n t
  simp only [Decoder.filter, Prod.mk.injEq] at h
  exact h.2.1

/-- An edge closes its candidate. -/
theorem State.takeEdge_candidate : ((s.takeEdge n t).capture.get n).candidate = none := by
  unfold State.takeEdge
  split
  · rw [State.setDecoder_get_same]; rfl
  · have h := State.captureError_filter ((s.capture.get n).turn t) s n t
    next c _ =>
    have h := h c
    simp only [Decoder.filter, Prod.mk.injEq] at h
    exact h.2.1

/-- So an accepted edge leaves none to accept. -/
theorem State.acceptEdge_acceptEdge : (s.acceptEdge n).acceptEdge n = s.acceptEdge n := by
  cases haccepted : (s.capture.get n).accepted s.now with
  | none => rw [State.acceptEdge_eq_self _ _ haccepted, State.acceptEdge_eq_self _ _ haccepted]
  | some c =>
    rw [State.acceptEdge_eq_lineEdge _ _ _ haccepted]
    exact State.acceptEdge_of_closed State.takeEdge_candidate

/-- A raw change with no edge to accept before it. -/
theorem State.rawChange_of_not_held (h : ¬ ∃ c, (s.capture.get n).candidate = some c ∧ c + us 4 ≤ max s.now t) :
    State.rawChange n s t =
      ((s.advance t).setDecoder n ((s.capture.get n).toggle (max s.now t))).settleLine n (max s.now t) := by
  have haccept : (s.advance t).acceptEdge n = s.advance t := State.acceptEdge_of_not_held h
  simp only [State.rawChange, haccept, State.advance_capture, State.advance_now]

/-- Straight after a raw change no candidate has held for 4 µs. -/
theorem State.acceptEdge_rawChange : (State.rawChange n s t).acceptEdge n = State.rawChange n s t := by
  refine State.acceptEdge_of_not_held ?_
  rintro ⟨c, hc, hheld⟩
  have hnow : (State.rawChange n s t).now = max s.now t := State.rawChange_now s n t
  rw [State.rawChange, State.settleLine_candidate] at hc
  simp only [State.setDecoder_capture, Row8.get_set, Decoder.toggle, if_true, State.acceptEdge_now, State.advance_now] at hc
  rw [hnow] at hheld
  split at hc
  · cases hc
    simp only [us, Config.nsPerUs] at hheld
    omega
  · cases hc

theorem State.advance_rawChange : (State.rawChange n s t).advance t = State.rawChange n s t :=
  State.advance_past _ (by rw [State.rawChange_now]; omega)

/-- A trace of one change: nothing comes about after it. -/
theorem State.followRaw_one : s.followRaw n ⟨[t], t⟩ = State.rawChange n s t := by
  show ((State.rawChange n s t).advance t).acceptEdge n = _
  rw [State.advance_rawChange, State.acceptEdge_rawChange]

/-! ### What is due as a candidate is dropped, by the decoder's state -/

theorem State.takeStuck_of_low (h : (s.capture.get n).level = false) : s.takeStuck n t = s :=
  State.takeStuck_of_early fun hdue => by simp [Decoder.stuckDue, h] at hdue

theorem State.takeQuiet_of_high (h : (s.capture.get n).level = true) : s.takeQuiet n t = s :=
  State.takeQuiet_of_early fun hdue => by simp [Decoder.quietDue, h] at hdue

theorem State.takeQuiet_of_frame (h : (s.capture.get n).state ≠ .seek) : s.takeQuiet n t = s :=
  State.takeQuiet_of_early fun hdue => h (Decoder.quietDue_iff.mp hdue).1

theorem State.takeTail_of_not_tail (h : (s.capture.get n).state ≠ .tail) : s.takeTail n t = s :=
  State.takeTail_of_early fun hdue => h (Decoder.tailDue_iff.mp hdue).1

theorem State.takeGap_of_no_gap (h : (s.capture.get n).state ≠ .gapA ∧ (s.capture.get n).state ≠ .gapB) :
    s.takeGap n t = s :=
  State.takeGap_of_early fun hdue => (Decoder.gapDue_iff.mp hdue).1.elim h.1 h.2

theorem State.takePulse_of_no_pulse (h : (s.capture.get n).state ≠ .temp ∧ (s.capture.get n).state ≠ .power) :
    s.takePulse n t = s :=
  State.takePulse_of_early fun hdue => (Decoder.pulseDue_iff.mp hdue).1.elim h.1 h.2

/-- In a gap, no longer than its length and a quiet low together. -/
theorem State.settleLine_of_gap (hstate : (s.capture.get n).state = .gapA ∨ (s.capture.get n).state = .gapB)
    (hlow : (s.capture.get n).level = false) (hearly : t < (s.capture.get n).edgeAt + us 1201) :
    s.settleLine n t = s.takeGap n t := by
  have htail : s.takeTail n t = s := State.takeTail_of_not_tail (by obtain h | h := hstate <;> simp [h])
  have hframe : (s.capture.get n).state ≠ .seek := by obtain h | h := hstate <;> simp [h]
  rw [State.settleLine, htail]
  by_cases hdue : (s.capture.get n).gapDue ((s.capture.get n).settledTo t) = true
  · have hget : (s.takeGap n t).capture.get n = { s.capture.get n with
        state := .seek, seekAt := (s.capture.get n).edgeAt + us 201, temp := none, power := none
        gap := satInc8 (s.capture.get n).gap } := by
      rw [State.takeGap_of_due hdue, State.captureError_capture, Row8.get_set, if_pos rfl, Decoder.abandon_of_frame hframe]
      rfl
    have hpulse : (s.takeGap n t).takePulse n t = s.takeGap n t := State.takePulse_of_no_pulse (by simp [hget])
    have hquiet : (s.takeGap n t).takeQuiet n t = s.takeGap n t := State.takeQuiet_of_early fun hdue => by
      have hover := (Decoder.quietDue_iff.mp hdue).2.2.trans (Decoder.settledTo_le _ t)
      rw [hget] at hover
      simp only [us, Config.nsPerUs] at hover hearly
      omega
    rw [hpulse, hquiet, State.takeStuck_of_low (by rw [hget]; exact hlow)]
  · rw [State.takeGap_of_early hdue, State.takePulse_of_no_pulse (by obtain h | h := hstate <;> simp [h]),
      State.takeQuiet_of_frame hframe, State.takeStuck_of_low hlow]

theorem State.settleLine_of_tail (hstate : (s.capture.get n).state = .tail) (hlow : (s.capture.get n).level = false) :
    s.settleLine n t = s.takeTail n t := by
  have hget : (s.takeTail n t).capture.get n = s.capture.get n ∨
      (s.takeTail n t).capture.get n = (s.capture.get n).complete := by
    unfold State.takeTail
    split
    · exact .inr (by simp)
    · exact .inl rfl
  have hafter : (((s.takeTail n t).capture.get n).state = .tail ∨ ((s.takeTail n t).capture.get n).state = .idle) ∧
      ((s.takeTail n t).capture.get n).level = false := by
    obtain h | h := hget <;> rw [h]
    · exact ⟨.inl hstate, hlow⟩
    · exact ⟨.inr rfl, hlow⟩
  obtain ⟨hbetween, hlevel⟩ := hafter
  rw [State.settleLine, State.takeGap_of_no_gap (by obtain h | h := hbetween <;> simp [h]),
    State.takePulse_of_no_pulse (by obtain h | h := hbetween <;> simp [h]),
    State.takeQuiet_of_frame (by obtain h | h := hbetween <;> simp [h]), State.takeStuck_of_low hlevel]

theorem State.settleLine_of_seek (hstate : (s.capture.get n).state = .seek) (hlow : (s.capture.get n).level = false) :
    s.settleLine n t = s.takeQuiet n t := by
  have hlevel : ((s.takeQuiet n t).capture.get n).level = false := by
    have h := State.takeQuiet_filter s n t
    simp only [Decoder.filter, Prod.mk.injEq] at h
    exact h.2.2.trans hlow
  rw [State.settleLine, State.takeTail_of_not_tail (by simp [hstate]), State.takeGap_of_no_gap (by simp [hstate]),
    State.takePulse_of_no_pulse (by simp [hstate]), State.takeStuck_of_low hlevel]

theorem State.settleLine_of_high (hstate : (s.capture.get n).state = .marker ∨ (s.capture.get n).state = .temp ∨
      (s.capture.get n).state = .power ∨ (s.capture.get n).state = .seek) (hhigh : (s.capture.get n).level = true) :
    s.settleLine n t = (s.takePulse n t).takeStuck n t := by
  have hlevel : ((s.takePulse n t).capture.get n).level = true := by
    have h := State.takePulse_filter s n t
    simp only [Decoder.filter, Prod.mk.injEq] at h
    exact h.2.2.trans hhigh
  rw [State.settleLine, State.takeTail_of_not_tail (by obtain h | h | h | h := hstate <;> simp [h]),
    State.takeGap_of_no_gap (by obtain h | h | h | h := hstate <;> simp [h]), State.takeQuiet_of_high hlevel]

end Glitches

/-- Settles O8: a raw change opens or drops a candidate, and what is due then is one expiry of the decoder's state. -/
theorem filterHidesShortPulses : Obligations.FilterHidesShortPulses := by
  intro t n s hreset d now held changed becomes
  have hchanged : changed = .next (State.rawChange n s t) := by
    rw [← State.followRaw_one]; exact exec_acceptedEdge hreset
  have hsettles (hheld : ¬ held) : State.rawChange n s t = ((s.advance t).setDecoder n (d.toggle now)).settleLine n now :=
    State.rawChange_of_not_held hheld
  refine ⟨fun hheld => ?_, fun hheld hquiet hsame => ?_, fun hheld hdiffers => ?_, fun x y hclosed hsame hx hxy hy hyt hquiet => ?_,
    fun x rest => ?_⟩
  · rw [exec_acceptedEdge hreset, State.followRaw_nil, State.acceptEdge_of_not_held hheld]
  · have htoggle : d.toggle now = { d with candidate := some now, raw := !d.raw } := by
      rw [Decoder.toggle, if_pos hsame]
    rw [hchanged, hsettles hheld, htoggle, State.settleLine_eq_self _ _ _ (by rw [State.setDecoder_get_same]; exact hquiet)]
  · intro dropped
    have htoggle : d.toggle now = { d with candidate := none, raw := !d.raw } := by
      rw [Decoder.toggle, if_neg hdiffers]
    have hdropped : changed = .next (dropped.settleLine n now) := by
      rw [hchanged, hsettles hheld, htoggle]
    have hget : dropped.capture.get n = { d with candidate := none, raw := !d.raw } := by
      simp [dropped, becomes]
    have hnow : dropped.now = now := rfl
    have hadvance : dropped.advance t = dropped := State.advance_past _ (Nat.le_max_right _ _)
    have hfails (cause : CaptureCause) : (dropped.advance t).edgeFails n cause = false := by
      rw [hadvance]
      exact State.edgeFails_of_not_accepted (by rw [hget]; rfl) cause
    have hreset' : dropped.inReset = false := hreset
    have hmax : max dropped.now t = now := by rw [hnow]; exact Nat.max_eq_left (Nat.le_max_right _ _)
    refine ⟨fun hquiet => ?_, fun hstate hlow hearly => ?_, fun hstate hlow => ?_, fun hstate hlow => ?_, fun hstate hhigh => ?_⟩
    · rw [hdropped, State.settleLine_eq_self _ _ _ (by rw [hget]; exact hquiet)]
    · rw [hdropped, exec_captureGapError hreset', hfails, hadvance, hmax,
        State.settleLine_of_gap (by rw [hget]; exact hstate) (by rw [hget]; exact hlow) (by rw [hget]; exact hearly)]
      rfl
    · rw [hdropped, exec_tailComplete hreset', hadvance, hmax,
        State.settleLine_of_tail (by rw [hget]; exact hstate) (by rw [hget]; exact hlow)]
    · rw [hdropped, exec_quietLow hreset', hadvance, hmax,
        State.settleLine_of_seek (by rw [hget]; exact hstate) (by rw [hget]; exact hlow)]
    · rw [hdropped, exec_stuck hreset', hadvance, hmax,
        State.settleLine_of_high (by rw [hget]; exact hstate) (by rw [hget]; exact hhigh)]
  · have hopens : State.rawChange n s x = (s.advance x).setDecoder n { d with candidate := some x, raw := !d.raw } := by
      have hmax : max s.now x = x := Nat.max_eq_right hx
      rw [State.rawChange_of_not_held (by simp [hclosed, d]), hmax, Decoder.toggle, if_pos hsame,
        State.settleLine_eq_self _ _ _ (by rw [State.setDecoder_get_same]; exact hquiet.earlier hxy.le)]
    have hcloses : State.rawChange n (State.rawChange n s x) y = s.advance y := by
      have hshort : ¬ ∃ c, ((State.rawChange n s x).capture.get n).candidate = some c ∧
          c + us 4 ≤ max (State.rawChange n s x).now y := by
        rw [hopens, State.setDecoder_get_same]
        rintro ⟨c, hc, hheld⟩
        cases hc
        simp only [State.setDecoder_now, State.advance_now] at hheld
        omega
      have hmax : max (max s.now x) y = y := by omega
      have htoggle : ({ d with candidate := some x, raw := !d.raw } : Decoder).toggle y = d := by
        have hdiffers : (!d.raw) ≠ d.level := by rw [hsame]; simp
        simp [Decoder.toggle, hdiffers, ← hclosed]
      have hboth : (s.advance x).advance y = s.advance y := by
        rw [State.advance_advance, Nat.max_eq_right hxy.le]
      have hstate : ((s.advance x).setDecoder n { d with candidate := some x, raw := !d.raw }).advance y =
          (s.advance y).setDecoder n { d with candidate := some x, raw := !d.raw } := by
        rw [← hboth]; rfl
      rw [State.rawChange_of_not_held hshort, hopens, State.setDecoder_get_same, hstate, State.setDecoder_setDecoder,
        State.setDecoder_now, State.advance_now, hmax, htoggle]
      have hback : (s.advance y).setDecoder n d = s.advance y := (s.advance y).setDecoder_get n
      rw [hback, State.settleLine_eq_self (s.advance y) _ _ hquiet]
    have hend : (s.advance y).advance t = s.advance t := by rw [State.advance_advance, Nat.max_eq_right hyt]
    have htrace : s.followRaw n ⟨[x, y], t⟩ =
        ((State.rawChange n (State.rawChange n s x) y).advance t).acceptEdge n := rfl
    rw [exec_acceptedEdge hreset, htrace, hcloses, hend, State.acceptEdge_of_closed (s := s.advance t) hclosed]
  · refine ⟨(s.advance x).acceptEdge n, State.rawChange n s x, exec_acceptedEdge hreset, ?_, ?_⟩
    · have hstart : State.rawChange n ((s.advance x).acceptEdge n) x = State.rawChange n s x := by
        have hpast : ((s.advance x).acceptEdge n).advance x = (s.advance x).acceptEdge n :=
          State.advance_past _ (by rw [State.acceptEdge_now]; exact Nat.le_max_right _ _)
        simp only [State.rawChange, hpast, State.acceptEdge_acceptEdge]
      rw [exec_acceptedEdge (by simpa using hreset), State.followRaw_one, hstart]
    · rw [exec_acceptedEdge hreset, exec_acceptedEdge (by simpa using hreset)]
      rfl

end Sys2Proof.Machine
end

section
/-! PROOFS. The requests that a bay link may send: demands, dropped bursts, alerts (Chapters 6, 8, 9, 10). -/

namespace Sys2Proof.Machine

/-- In a rising list the first member found is the lowest. -/
theorem find?_eq_some_of_lowest {α : Type} [LinearOrder α] {l : List α} (hrising : l.Pairwise (· < ·)) {p : α → Bool} {c : α}
    (hmem : c ∈ l) (hc : p c = true) (hlow : ∀ d ∈ l, p d = true → c ≤ d) : l.find? p = some c := by
  induction l with
  | nil => simp at hmem
  | cons a l ih =>
    obtain ⟨hfirst, hrest⟩ := List.pairwise_cons.mp hrising
    obtain rfl | hmem := List.mem_cons.mp hmem
    · rw [List.find?_cons_of_pos hc]
    · have hnot : ¬ p a = true := fun ha => absurd (hlow a (by simp) ha) (not_le.mpr (hfirst c hmem))
      rw [List.find?_cons_of_neg hnot]
      exact ih hrest hmem fun d hd => hlow d (List.mem_cons_of_mem _ hd)

/-! ### A request on an idle link, by its service -/

section Service
variable {s : State} {k : LinkId} {t : Nat} {tag : Byte} {params : List Byte}

/-- A request that passes checks 1 to 3 is answered as its service on the state before says, where the service looks at
nothing that the request's arrival has changed. -/
theorem requestEvent_served (kind : Kind) {a : Answer} (hidle : s.linkIdle k params.length t) (hlen : params.length ≤ 70)
    (hlink : k = .shelf ∨ kind.shelfOnly = false) (hbound : kind.needsBinding = false ∨ s.unbound k = false)
    (hservice : dispatch (s.atService k t ⟨kind.code, tag, params⟩) k kind params =
      a.atService k t ⟨kind.code, tag, params⟩) (hport : a.state.port k = s.port k) :
    requestEvent t k kind tag params s = .next (a.state.replied t k ⟨kind.code, tag, params⟩ a.status a.data) := by
  refine requestEvent_replied hidle hlen ?_ hport
  rw [answer_of_passed hlink (hbound.imp_right fun h => by rwa [State.atService_unbound]), hservice]
  rfl

/-- A kind of the shelf link alone, sent on a bay link (R161 check 2). -/
theorem requestEvent_access (kind : Kind) {i : Fin 8} (hidle : s.linkIdle (.bay i) params.length t)
    (hlen : params.length ≤ 70) (hshelf : kind.shelfOnly = true) :
    requestEvent t (.bay i) kind tag params s = .next (s.replied t (.bay i) ⟨kind.code, tag, params⟩ .access []) :=
  requestEvent_replied hidle hlen (answer_of_shelfOnly hshelf nofun) rfl

end Service

/-! ### SET DEMAND (R166) -/

section SetDemand
variable {s : State} {k : LinkId} {t : Nat} {tag sel : Byte} {n : Bay} {v : Nat}

theorem serveSetDemand_of_occupied (h : (s.bayBlock n).occupied = true) : serveSetDemand s n v =
    ⟨s.setAlloc { s.alloc with demand := s.alloc.demand.set n (some (min v (s.bayBlock n).peak)) },
      clampStatus v (s.bayBlock n).peak, byte1 n.val :: bytes2 (min v (s.bayBlock n).peak)⟩ := if_pos h

theorem serveSetDemand_of_vacant (h : (s.bayBlock n).occupied = false) : serveSetDemand s n v = refuse s .param :=
  if_neg (by rw [State.occupied, h]; simp)

theorem serveSetDemand_atService (r : Request) :
    serveSetDemand (s.atService k t r) n v = (serveSetDemand s n v).atService k t r := by
  rw [serveSetDemand, serveSetDemand, apply_ite (Answer.atService · k t r)]
  rfl

theorem exec_setDemand_of_service {a : Answer} {v : BitVec 16} (hidle : s.linkIdle k 3 t) (hbound : s.unbound k = false)
    (hservice : withBay s k sel (fun n => serveSetDemand s n v.toNat) = a) :
    exec (.setDemand t k tag sel v) s = .next (a.state.replied t k ⟨0x11, tag, sel :: bytes2 v.toNat⟩ a.status a.data) := by
  have hport : a.state.port k = s.port k := hservice ▸ (withBay_keeps s k sel _ fun n => serveSetDemand_keeps s k n _).2
  refine requestEvent_served .setDemand (params := sel :: bytes2 v.toNat) hidle (by simp [bytes2]) (.inr rfl) (.inr hbound) ?_
    hport
  rw [bytes2, dispatch_setDemand, value2_byte1, withBay_atService fun n => serveSetDemand_atService _, hservice]

end SetDemand

/-- Settles O26: the bay's block says whether the demand is stored, and how much of it. -/
theorem setDemandStoresTheDemand : Obligations.SetDemandStoresTheDemand := by
  intro t k tag sel v s hidle r
  refine ⟨fun hshelf habove => ?_, fun n hreach => ?_⟩
  · subst hshelf
    exact exec_setDemand_of_service hidle rfl (withBay_shelf_of_above habove)
  · intro stored
    have hserved {a : Answer} (h : serveSetDemand s n v.toNat = a) :
        exec (.setDemand t k tag sel v) s = .next (a.state.replied t k r a.status a.data) :=
      exec_setDemand_of_service hidle hreach.bound ((withBay_of_reaches hreach).trans h)
    refine ⟨fun hocc hle => ?_, fun hocc hlt => ?_, fun hvacant => hserved (serveSetDemand_of_vacant hvacant)⟩
    · rw [hserved (serveSetDemand_of_occupied hocc), clampStatus, if_neg (Nat.not_lt.mpr hle), Nat.min_eq_left hle]
    · rw [hserved (serveSetDemand_of_occupied hocc), clampStatus, if_pos hlt, Nat.min_eq_right hlt.le]

/-! ### DROP BURST (R109) -/

section DropBurst
variable {s : State} {k : LinkId} {t : Nat} {tag sel choice : Byte} {n : Bay} {c : Nat}

theorem serveDropBurst_of_bad (h : (s.bayBlock n).occupied = false ∨ 1 < c) : serveDropBurst s n c = refuse s .param :=
  if_pos (by obtain h | h := h <;> simp [State.occupied, h])

theorem serveDropBurst_of_occupied (hocc : (s.bayBlock n).occupied = true) (hc : ¬ 1 < c) : serveDropBurst s n c =
    if c = 0 then if s.burst.hasEntry n then ⟨s.setBurst (s.burst.dropEntry n), .ok, []⟩ else refuse s .none
    else if (s.burst.active.get n).isSome then ⟨s.setBurst (s.burst.dropActive n), .ok, []⟩ else refuse s .none := by
  rw [serveDropBurst, if_neg (by simp [State.occupied, hocc]; omega)]

theorem serveDropBurst_atService (r : Request) :
    serveDropBurst (s.atService k t r) n c = (serveDropBurst s n c).atService k t r := by
  simp only [serveDropBurst, apply_ite (Answer.atService · k t r)]
  rfl

theorem exec_dropBurst_of_service {a : Answer} (hidle : s.linkIdle k 2 t) (hbound : s.unbound k = false)
    (hservice : withBay s k sel (fun n => serveDropBurst s n choice.toNat) = a) :
    exec (.dropBurst t k tag sel choice) s = .next (a.state.replied t k ⟨0x13, tag, [sel, choice]⟩ a.status a.data) := by
  have hport : a.state.port k = s.port k := hservice ▸ (withBay_keeps s k sel _ fun n => serveDropBurst_keeps s k n _).2
  refine requestEvent_served .dropBurst (params := [sel, choice]) hidle (by simp) (.inr rfl) (.inr hbound) ?_ hport
  rw [dispatch_dropBurst, withBay_atService fun n => serveDropBurst_atService _, hservice]

end DropBurst

/-- Settles O28: the choice names the entry or the record, which is there or not. -/
theorem dropBurstRemovesWhatIsChosen : Obligations.DropBurstRemovesWhatIsChosen := by
  intro t k tag sel choice s hidle r dropped
  refine ⟨fun hshelf habove => ?_, fun n hreach => ?_⟩
  · subst hshelf
    exact exec_dropBurst_of_service hidle rfl (withBay_shelf_of_above habove)
  · have hserved {a : Answer} (h : serveDropBurst s n choice.toNat = a) :
        dropped = .next (a.state.replied t k r a.status a.data) :=
      exec_dropBurst_of_service hidle hreach.bound ((withBay_of_reaches hreach).trans h)
    refine ⟨fun hbad => hserved (serveDropBurst_of_bad hbad), fun hocc => ⟨fun hzero hqueued => ?_, fun hzero hnone => ?_,
      fun x hone hactive => ?_, fun hone hnone => ?_⟩⟩
    · subst hzero
      refine hserved (a := ⟨_, .ok, []⟩) ?_
      rw [serveDropBurst_of_occupied hocc (by decide), if_pos (by decide), if_pos (State.hasEntry_iff_queued.mpr hqueued)]
      simp only [BurstUnit.dropEntry, bne, decide_not]
      rfl
    · subst hzero
      refine hserved (a := refuse s .none) ?_
      rw [serveDropBurst_of_occupied hocc (by decide), if_pos (by decide),
        if_neg (mt State.hasEntry_iff_queued.mp hnone)]
    · subst hone
      refine hserved (a := ⟨_, .ok, []⟩) ?_
      rw [serveDropBurst_of_occupied hocc (by decide), if_neg (by decide), if_pos (by simp [hactive])]
      simp only [BurstUnit.dropActive, hactive]
      rfl
    · subst hone
      refine hserved (a := refuse s .none) ?_
      rw [serveDropBurst_of_occupied hocc (by decide), if_neg (by decide), if_neg (by simp [hnone])]

/-! ### GET ALERT (R174) -/

section GetAlert
variable {s : State} {k : LinkId} {t : Nat} {tag : Byte}

/-- The search for the lowest cause, by what makes a cause the lowest. -/
theorem lowestCause_eq_some {p : Fin 8 → Bool} {c : Fin 8} (hc : p c = true) (hlow : ∀ d, p d = true → c ≤ d) :
    lowestCause p = some c := by
  exact find?_eq_some_of_lowest (by decide) ((visitOrder_perm 0).mem_iff.mp (mem_visitOrder 0 c)) hc fun d _ => hlow d

theorem lowestCause_eq_none {p : Fin 8 → Bool} (h : ∀ c, p c = false) : lowestCause p = none := by
  rw [lowestCause, List.find?_eq_none]
  exact fun c _ => by simp [h c]

theorem selectCause_of_selects {a : AlertState} {c : Fin 8} (h : selects k a c) : selectCause k a = some c := by
  obtain ⟨hpending, hrule⟩ := h
  unfold selectCause
  split at hrule
  · next hany => rw [if_pos hany, hrule]
  · next hany =>
    rw [if_neg hany]
    split at hrule
    · obtain ⟨hgroup, hlow⟩ := hrule
      have hfound : lowestCause (fun c => (a.pendingCauses.get c).isSome && a.groups.getLsbD c.val) = some c :=
        lowestCause_eq_some (Bool.and_eq_true_iff.mpr ⟨hpending, hgroup⟩) fun d hd => by
          obtain ⟨hpending, hgroup⟩ := Bool.and_eq_true_iff.mp hd
          exact hlow d hpending hgroup
      rw [hfound]
      rfl
    · next hhigh =>
      rw [lowestCause_eq_none fun d => ?_, lowestCause_eq_some hpending hrule]
      · rfl
      · cases hd : (a.pendingCauses.get d).isSome with
        | false => rfl
        | true => simpa using fun hg => hhigh ⟨d, hd, hg⟩

theorem selectCause_of_none {a : AlertState} (h : ∀ c, a.pendingCauses.get c = none) : selectCause k a = none := by
  rw [selectCause, if_neg (by simp [h 0]), lowestCause_eq_none fun c => by simp [h c],
    lowestCause_eq_none fun c => by simp [h c]]
  rfl

theorem exec_getAlert_of_service {a : Answer} (hidle : s.linkIdle k 0 t) (hservice : serveGetAlert s k = a)
    (harrived : ∀ r, serveGetAlert (s.atService k t r) k = a.atService k t r) :
    exec (.getAlert t k tag) s = .next (a.state.replied t k ⟨0x14, tag, []⟩ a.status a.data) :=
  requestEvent_served .getAlert (params := []) hidle (by simp) (.inr rfl) (.inl rfl) (harrived _)
    (hservice ▸ (serveGetAlert_keeps s k k).2)

end GetAlert

/-- Settles O29: the cause that the rule of R174 selects is the one the search finds. -/
theorem getAlertReadsTheSelectedCause : Obligations.GetAlertReadsTheSelectedCause := by
  intro t k tag s hidle a
  refine ⟨fun c x hselects hx => ?_, fun hnone => ?_⟩
  · have hservice (s' : State) (hsame : s'.alert k = a) : serveGetAlert s' k =
        ⟨s'.setAlert k { a with pendingCauses := a.pendingCauses.set c none }, .ok,
          [byte1 c.val, x.vector, x.reasons.zeroExtend 8]⟩ := by
      simp only [serveGetAlert, hsame, selectCause_of_selects hselects, hx]
    exact exec_getAlert_of_service hidle (hservice s rfl) fun r => hservice _ rfl
  · have hservice (s' : State) (hsame : s'.alert k = a) : serveGetAlert s' k = ⟨s', .ok, [255, 0, 0]⟩ := by
      simp only [serveGetAlert, hsame, selectCause_of_none hnone]
    exact exec_getAlert_of_service hidle (hservice s rfl) fun r => hservice _ rfl

end Sys2Proof.Machine
end

section
/-! PROOFS. The outputs RDY, ALT, TX and THn, and the shelf link's reads and settings (Chapters 3, 6, 8, 9, 10). -/

namespace Sys2Proof.Machine

/-! ### A transmission bit by bit (R148) -/

/-- Place `i` of the record of member `j`, where every member's record takes `w` places. -/
theorem getD_flatMap {α β : Type} {f : α → List β} {w : Nat} (hw : ∀ x, (f x).length = w) {l : List α} {i j : Nat} {x : α}
    (hx : l[j]? = some x) (hi : i < w) (d : β) : (l.flatMap f).getD (w * j + i) d = (f x).getD i d := by
  induction l generalizing j with
  | nil => simp at hx
  | cons a l ih =>
    have hlen := hw a
    rw [List.flatMap_cons]
    cases j with
    | zero =>
      cases hx
      rw [Nat.mul_zero, Nat.zero_add, List.getD_append _ _ _ _ (by omega)]
    | succ j =>
      rw [Nat.mul_succ, List.getD_append_right _ _ _ _ (by omega), hlen, show w * j + w + i - w = w * j + i by omega]
      exact ih hx

/-- Bit `j` of character `i`. -/
theorem lineBits_getD {bs : List Byte} {i j : Nat} {b : Byte} (hi : bs[i]? = some b) (hj : j < 10) :
    (lineBits bs).getD (10 * i + j) true = (charBits b).getD j true :=
  getD_flatMap (f := charBits) (w := 10) (fun _ => rfl) hi hj true

/-- The data bits stand behind the start bit, the least significant first. -/
theorem charBits_data (b : Byte) {j : Nat} (hj : j < 8) : (charBits b).getD (j + 1) true = b.getLsbD j := by
  interval_cases j <;> rfl

section Outputs
variable {s : State} {k : LinkId} {t : Nat}

/-- In the time of one bit the line has that bit's level. -/
theorem State.txLevel_of_bit {i j : Nat} {b : Byte} (hreset : s.inReset = false)
    (hb : (s.port k).tx.bytes[i]? = some b) (hj : j < 10) (hfrom : (s.port k).tx.start + us (10 * i + j) ≤ t)
    (hto : t < (s.port k).tx.start + us (10 * i + j + 1)) : s.txLevel k t = (charBits b).getD j true := by
  simp only [us, Config.nsPerUs] at hfrom hto
  have hbit : (t - (s.port k).tx.start) / bitTime = 10 * i + j := by
    simp only [bitTime, us, Config.nsPerUs]
    omega
  rw [State.txLevel, hreset, hbit, lineBits_getD hb hj, decide_eq_false (by omega)]
  simp

/-- Before and after what it sends, the line is high. -/
theorem State.txLevel_of_idle
    (h : t < (s.port k).tx.start ∨ (s.port k).tx.start + us (10 * (s.port k).tx.bytes.length) ≤ t) :
    s.txLevel k t = true := by
  rw [State.txLevel]
  obtain h | h := h
  · simp [h]
  · have hpast : (lineBits (s.port k).tx.bytes).length ≤ (t - (s.port k).tx.start) / bitTime := by
      rw [lineBits_length]
      simp only [bitTime, us, Config.nsPerUs] at h ⊢
      omega
    rw [List.getD_eq_default _ _ hpast]
    simp

theorem AlertState.unmasked_iff {a : AlertState} :
    a.unmasked = true ↔ ∃ c, a.pendingCauses.get c ≠ none ∧ a.mask.getLsbD c.val = false := by
  have hall (c : Fin 8) : c ∈ numbers8 := (visitOrder_perm 0).mem_iff.mp (mem_visitOrder 0 c)
  simp only [AlertState.unmasked, List.any_eq_true, hall, true_and, Bool.and_eq_true, Bool.not_eq_true',
    Option.isSome_iff_ne_none]

end Outputs

/-! ### SET ALERT MASK (R173) -/

theorem storedMask_eq (k : LinkId) (mask : Byte) : storedMask k mask = if k = .shelf then mask &&& 0xFE else mask := by
  cases k <;> rfl

theorem exec_setAlertMask {s : State} {k : LinkId} {t : Nat} {tag mask : Byte} (hidle : s.linkIdle k 1 t) :
    exec (.setAlertMask t k tag mask) s =
      .next ((s.setAlert k { s.alert k with mask := storedMask k mask }).replied t k ⟨0x15, tag, [mask]⟩ .ok
        [storedMask k mask]) :=
  requestEvent_served .setAlertMask (params := [mask]) (a := serveSetAlertMask s k mask) hidle (by simp) (.inr rfl)
    (.inl rfl) rfl rfl

/-- Settles O30: the mask is the link's, and each output is read off the state it depends on. -/
theorem alertMaskActsOnAltAlone : Obligations.AlertMaskActsOnAltAlone := by
  refine ⟨?mask, fun x => rfl, ?outputs⟩
  case mask =>
    intro t k tag mask s hidle stored
    rw [exec_setAlertMask hidle, storedMask_eq]
  intro s k n t x
  have hstart : x.start = (s.port k).tx.start := rfl
  refine ⟨fun hreset => ?_, fun hreset => ?_⟩
  · refine ⟨?_, ?_, ?_, State.txLevel_of_idle, fun i b hb => ⟨fun hfrom hto => ?_, fun j hj hfrom hto => ?_, fun hfrom hto => ?_⟩⟩
    · rw [State.alt, hreset, Bool.not_false, Bool.true_and, AlertState.unmasked_iff]
    · rw [State.rdy, hreset, Bool.not_false, Bool.true_and, decide_eq_true_iff]
    · rw [State.throttle, hreset, Bool.not_false, Bool.true_and]
    · simp only [us, Config.nsPerUs, hstart] at hfrom hto
      exact State.txLevel_of_bit (j := 0) hreset hb (by decide) (by simp only [us, Config.nsPerUs]; omega)
        (by simp only [us, Config.nsPerUs]; omega)
    · simp only [us, Config.nsPerUs, hstart] at hfrom hto
      rw [State.txLevel_of_bit (j := j + 1) hreset hb (by omega) (by simp only [us, Config.nsPerUs]; omega)
        (by simp only [us, Config.nsPerUs]; omega)]
      exact charBits_data b hj
    · simp only [us, Config.nsPerUs, hstart] at hfrom hto
      exact State.txLevel_of_bit (j := 9) hreset hb (by decide) (by simp only [us, Config.nsPerUs]; omega)
        (by simp only [us, Config.nsPerUs]; omega)
  · simp [State.alt, State.rdy, State.throttle, State.txLevel, hreset]

/-! ### GET SHELF and GET POOLS (R56, R57, R121) -/

section ShelfReads
variable {s : State} {t : Nat} {tag : Byte}

theorem exec_getShelf (hidle : s.linkIdle .shelf 0 t) : exec (.getShelf t .shelf tag) s =
    .next ((serveGetShelf s).state.replied t .shelf ⟨0x20, tag, []⟩ .ok (serveGetShelf s).data) :=
  requestEvent_served .getShelf (params := []) (a := serveGetShelf s) hidle (by simp) (.inl rfl) (.inl rfl) rfl rfl

theorem serveGetPools_of_running (h : s.alloc.engine = .running) : serveGetPools s =
    ⟨s.setBurst s.burst.clearExhausted, .ok,
      byte1 4 :: (s.burst.pools.get 0).bytes ++ (s.burst.pools.get 1).bytes ++ (s.burst.pools.get 2).bytes ++
        (s.burst.pools.get 3).bytes ++ [byte1 s.burst.queue.length, byte1 s.burst.activeCount]⟩ :=
  if_neg (by simp [h])

theorem serveGetPools_atService (r : Request) :
    serveGetPools (s.atService .shelf t r) = (serveGetPools s).atService .shelf t r := by
  rw [serveGetPools, serveGetPools, apply_ite (Answer.atService · .shelf t r)]
  rfl

theorem exec_getPools_of_service {a : Answer} (hidle : s.linkIdle .shelf 0 t) (hservice : serveGetPools s = a) :
    exec (.getPools t .shelf tag) s = .next (a.state.replied t .shelf ⟨0x21, tag, []⟩ a.status a.data) :=
  requestEvent_served .getPools (params := []) hidle (by simp) (.inl rfl) (.inl rfl)
    (by rw [dispatch_getPools, serveGetPools_atService, hservice]) (hservice ▸ (serveGetPools_keeps s .shelf).2)

end ShelfReads

theorem Engine.code_eq (e : Engine) : e.code = if e = .running then 1 else 0 := by cases e <;> rfl

theorem SensorRec.isValid_iff {r : SensorRec} : r.isValid = true ↔ r.state = .valid := by
  unfold SensorRec.isValid
  split
  · next h => simp [h]
  · next h => simpa using h

/-- Settles O33: the reply is the service's, field by field. -/
theorem getShelfReportsAndClearsTheStickyShortFlag : Obligations.GetShelfReportsAndClearsTheStickyShortFlag := by
  intro t tag s r flag
  refine ⟨fun i hidle => requestEvent_access .getShelf (params := []) hidle (by simp) rfl, fun hidle => ⟨s.presence, fun n => ?_,
    fun caps hnone hsome => ?_⟩⟩
  · rw [State.presence, flags8_getLsbD, SensorRec.isValid_iff]
  · have hcaps : s.reportedCaps = caps := by
      cases hp : s.store.installed with
      | none => simp only [State.reportedCaps, hp, hnone hp]
      | some p => simp only [State.reportedCaps, hp, hsome p hp]
    have hdata : (serveGetShelf s).data = [if s.alloc.engine = .running then 1 else 0] ++ bytes4 s.alloc.epoch.toNat ++
        bytes2 caps.1 ++ bytes2 caps.2 ++ [flag s.cycle.derate, s.presence, flag s.store.waiting.isSome,
          byte1 s.alloc.rotation.val, flag s.alloc.stickyShort] := by
      rw [← Engine.code_eq, ← hcaps]
      rfl
    rw [exec_getShelf hidle, hdata]
    rfl

/-- Settles O34: refused while STOPPED, else the service's reply. -/
theorem getPoolsReportsAndClearsTheExhaustedFlags : Obligations.GetPoolsReportsAndClearsTheExhaustedFlags := by
  intro t tag s r account
  refine ⟨fun i hidle => requestEvent_access .getPools (params := []) hidle (by simp) rfl, fun hidle hstopped => ?_,
    fun hidle hrunning => ?_⟩
  · exact exec_getPools_of_service hidle (if_pos hstopped)
  · have hcount : s.burst.activeCount = sum8 fun n => if s.burst.active.get n = none then 0 else 1 := by
      refine congrArg sum8 (funext fun n => ?_)
      cases s.burst.active.get n <;> rfl
    rw [exec_getPools_of_service hidle (serveGetPools_of_running hrunning), hcount]
    rfl

/-! ### SET CAP (R169) -/

section SetCap
variable {s : State} {t : Nat} {tag : Byte} {normal derated : BitVec 16}

theorem serveSetCap_of_stopped {n d : Nat} (h : s.alloc.engine = .stopped) : serveSetCap s n d = refuse s .state := by
  simp only [serveSetCap, h]

theorem serveSetCap_of_running {p : Profile} {n d : Nat} (h : s.alloc.engine = .running) (hp : s.store.installed = some p) :
    serveSetCap s n d = if badCaps p.floors n d || decide (8191 < n) then refuseCheck s 9 0
      else ⟨s.setStore { s.store with installed := some (p.setCaps n d) }, .ok, bytes2 n ++ bytes2 d⟩ := by
  simp only [serveSetCap, h, hp]

theorem serveSetCap_atService (r : Request) (n d : Nat) :
    serveSetCap (s.atService .shelf t r) n d = (serveSetCap s n d).atService .shelf t r := by
  cases h : s.alloc.engine with
  | stopped =>
    rw [serveSetCap_of_stopped h, serveSetCap_of_stopped (s := s.atService .shelf t r) h]
    rfl
  | running =>
    cases hp : s.store.installed with
    | none => simp only [serveSetCap, State.atService_alloc, State.atService_store, h, hp]; rfl
    | some p =>
      rw [serveSetCap_of_running h hp, serveSetCap_of_running (s := s.atService .shelf t r) h hp,
        apply_ite (Answer.atService · .shelf t r)]
      rfl

theorem exec_setCap_of_service {a : Answer} (hidle : s.linkIdle .shelf 4 t)
    (hservice : serveSetCap s normal.toNat derated.toNat = a) :
    exec (.setCap t .shelf tag normal derated) s =
      .next (a.state.replied t .shelf ⟨0x32, tag, bytes2 normal.toNat ++ bytes2 derated.toNat⟩ a.status a.data) := by
  refine requestEvent_served .setCap (params := bytes2 normal.toNat ++ bytes2 derated.toNat) hidle (by simp [bytes2])
    (.inl rfl) (.inl rfl) ?_ (hservice ▸ (serveSetCap_keeps s .shelf _ _).2)
  rw [bytes2, bytes2, List.cons_append, List.cons_append, List.nil_append, dispatch_setCap, value2_byte1, value2_byte1,
    serveSetCap_atService, hservice]

end SetCap

/-- Settles O38: the three bounds are the service's condition. -/
theorem setCapReplacesTheCaps : Obligations.SetCapReplacesTheCaps := by
  intro t tag normal derated s r
  refine ⟨fun i hidle => requestEvent_access .setCap (params := bytes2 normal.toNat ++ bytes2 derated.toNat) hidle
      (by simp [bytes2]) rfl,
    fun hidle hstopped => exec_setCap_of_service hidle (serveSetCap_of_stopped hstopped),
    ?running⟩
  intro p hidle hrunning hp floors good
  have hbad : (badCaps p.floors normal.toNat derated.toNat || decide (8191 < normal.toNat)) = true ↔ ¬ good := by
    have hfloors : p.floors = floors := rfl
    simp only [badCaps, hfloors, good, Bool.or_eq_true, decide_eq_true_eq]
    omega
  have hservice := serveSetCap_of_running (n := normal.toNat) (d := derated.toNat) hrunning hp
  refine ⟨fun hgood => ?_, fun hnot => ?_⟩
  · rw [if_neg (fun h => hbad.mp h hgood)] at hservice
    exact exec_setCap_of_service hidle hservice
  · rw [if_pos (hbad.mpr hnot)] at hservice
    exact exec_setCap_of_service hidle hservice

/-! ### SHELF RESET (R171) -/

/-- Settles O40: the service arranges the reset and does nothing else. -/
theorem shelfResetIsArmedByItsService : Obligations.ShelfResetIsArmedByItsService := by
  intro t tag s
  exact ⟨fun i hidle => requestEvent_access .shelfReset (params := []) hidle (by simp) rfl,
    fun hidle => requestEvent_served .shelfReset (params := []) (a := serveShelfReset s) hidle (by simp) (.inl rfl) (.inl rfl)
      rfl rfl⟩

/-! ### PROFILE READ and PROFILE DISCARD (R179) -/

section ProfileRequests
variable {s : State} {t : Nat} {tag block : Byte} {p : Profile}

theorem serveProfileRead_atService (r : Request) (n : Nat) :
    serveProfileRead (s.atService .shelf t r) n = (serveProfileRead s n).atService .shelf t r := by
  unfold serveProfileRead
  rw [apply_ite (Answer.atService · .shelf t r)]
  refine congrArg (ite _ _) ?_
  simp only [State.atService_store]
  cases s.store.installed with
  | none => rfl
  | some p => cases hb : p.block n <;> simp only [hb] <;> rfl

theorem exec_profileRead_of_service {a : Answer} (hidle : s.linkIdle .shelf 1 t)
    (hservice : serveProfileRead s block.toNat = a) :
    exec (.profileRead t .shelf tag block) s = .next (a.state.replied t .shelf ⟨0x42, tag, [block]⟩ a.status a.data) :=
  requestEvent_served .profileRead (params := [block]) hidle (by simp) (.inl rfl) (.inl rfl)
    (by rw [dispatch_profileRead, serveProfileRead_atService, hservice]) (hservice ▸ (serveProfileRead_keeps s .shelf _).2)

theorem blockSize_isNone_iff {n : Nat} : (blockSize n).isNone = true ↔ 11 < n := by
  unfold blockSize
  split_ifs <;> simp <;> omega

theorem serveProfileRead_of_block {b : Block} (hp : s.store.installed = some p) (hb : p.block block.toNat = some b) :
    serveProfileRead s block.toNat = ⟨s, .ok, block :: b.bytes⟩ := by
  have hsize : ¬ (blockSize block.toNat).isNone = true := by
    rw [blockSize_isNone_iff]
    intro habove
    simp only [Profile.block] at hb
    split_ifs at hb <;> omega
  have hbyte : byte1 block.toNat = block := by simp [byte1]
  simp only [serveProfileRead, if_neg hsize, hp, hb, hbyte]

theorem exec_profileDiscard (hidle : s.linkIdle .shelf 0 t) : exec (.profileDiscard t .shelf tag) s =
    .next ((s.setStore s.store.discard).replied t .shelf ⟨0x41, tag, []⟩ .ok []) :=
  requestEvent_served .profileDiscard (params := []) (a := serveProfileDiscard s) hidle (by simp) (.inl rfl) (.inl rfl) rfl rfl

end ProfileRequests

theorem Profile.block_bay {p : Profile} {m : Nat} {n : Bay} (h : m = n.val + 2) : p.block m = some (.bay n (p.bays.get n)) := by
  have hn := n.isLt
  rw [Profile.block, if_neg (by omega), if_neg (by omega), if_pos (by omega)]
  have hbay : bayOfNat (m - 2) = some n := by simp [bayOfNat, h]
  rw [hbay]

/-- Settles O42: the block that the byte names, and the store's discard. -/
theorem profileIsReadAndDiscarded : Obligations.ProfileIsReadAndDiscarded := by
  intro t tag block s r u read discarded
  refine ⟨fun i hidle => requestEvent_access .profileRead (params := [block]) hidle (by simp) rfl,
    fun i hidle => requestEvent_access .profileDiscard (params := []) hidle (by simp) rfl,
    fun hidle => ⟨fun habove => ?_, fun hle hnone => ?_, fun p hp => ?_⟩, fun hidle => ⟨fun p hp => ?_, fun hnone => ?_⟩⟩
  · exact exec_profileRead_of_service hidle (if_pos (blockSize_isNone_iff.mpr habove))
  · refine exec_profileRead_of_service hidle (a := refuse s .state) ?_
    rw [serveProfileRead, if_neg (by rw [blockSize_isNone_iff]; omega), hnone]
  · have hread {b : Block} (hb : p.block block.toNat = some b) : read = .next (s.replied t .shelf r .ok (block :: b.bytes)) :=
      exec_profileRead_of_service hidle (serveProfileRead_of_block hp hb)
    refine ⟨fun h => hread ?_, fun h => hread ?_, fun n h => hread (Profile.block_bay h), fun h => hread ?_, fun h => hread ?_⟩
    all_goals subst h; rfl
  · have hdiscard : s.store.discard = { s.store with staging := p, written := 0xFFF } := by
      simp only [ProfileStore.discard, hp]
      rfl
    simp only [discarded, exec_profileDiscard hidle, hdiscard]
    rfl
  · have hdiscard : s.store.discard = { s.store with staging := Profile.empty, written := 0 } := by
      simp only [ProfileStore.discard, hnone]
    simp only [discarded, exec_profileDiscard hidle, hdiscard]
    rfl

end Sys2Proof.Machine
end

section
/-! PROOFS. The shelf link's reads of counters and records, pins, and RELEASE BAY LINK (Chapters 1, 2, 8, 9). -/

namespace Sys2Proof.Machine

/-! ### A request on an idle link whose service may change the link's own port -/

theorem requestEvent_answered {s q : State} {k : LinkId} {t : Nat} (kind : Kind) {tag : Byte} {params : List Byte}
    {status : Status} {data : List Byte} (hidle : s.linkIdle k params.length t) (hlen : params.length ≤ 70)
    (ha : answer (s.atService k t ⟨kind.code, tag, params⟩) k ⟨kind.code, tag, params⟩ =
      ⟨q.atService k t ⟨kind.code, tag, params⟩, status, data⟩) :
    requestEvent t k kind tag params s = .next (q.replied t k ⟨kind.code, tag, params⟩ status data) := by
  rw [requestEvent_idle s k hidle hlen]
  simp only [ha]
  rfl

/-! ### The bay and the choice that a request names (R154) -/

section Parameters
variable {bay choice : Byte} {n : Bay}

theorem bayOfNat_of_eq (h : bay.toNat = n.val) : bayOfNat bay.toNat = some n := by
  simp [bayOfNat, h]

theorem bayOfNat_of_above {m : Nat} (h : 7 < m) : bayOfNat m = none := by
  rw [bayOfNat, dif_neg (by omega)]

theorem byte1_of_eq (h : bay.toNat = n.val) : byte1 n.val = bay := by
  simp [byte1, ← h]

end Parameters

/-! ### GET CAPTURE COUNTERS and GET SENSOR (R17, R18, R36) -/

section Records
variable {s : State} {t : Nat} {tag bay choice : Byte} {n : Bay}

theorem exec_getCaptureCounters_of_service {a : Answer} (hidle : s.linkIdle .shelf 2 t)
    (hservice : ∀ r, serveGetCaptureCounters (s.atService .shelf t r) bay.toNat choice.toNat = a.atService .shelf t r) :
    exec (.getCaptureCounters t .shelf tag bay choice) s =
      .next (a.state.replied t .shelf ⟨0x22, tag, [bay, choice]⟩ a.status a.data) := by
  refine requestEvent_answered .getCaptureCounters (params := [bay, choice]) hidle (by simp) ?_
  rw [answer_of_passed (.inl rfl) (.inl rfl), dispatch_getCaptureCounters, hservice]
  rfl

theorem exec_getSensor_of_service {a : Answer} (hidle : s.linkIdle .shelf 2 t)
    (hservice : ∀ r, serveGetSensor (s.atService .shelf t r) bay.toNat choice.toNat = a.atService .shelf t r) :
    exec (.getSensor t .shelf tag bay choice) s =
      .next (a.state.replied t .shelf ⟨0x23, tag, [bay, choice]⟩ a.status a.data) := by
  refine requestEvent_answered .getSensor (params := [bay, choice]) hidle (by simp) ?_
  rw [answer_of_passed (.inl rfl) (.inl rfl), dispatch_getSensor, hservice]
  rfl

theorem serveGetCaptureCounters_of_bad {b c : Nat} (h : 7 < b ∨ 1 < c) : serveGetCaptureCounters s b c = refuse s .param := by
  unfold serveGetCaptureCounters
  split
  · rfl
  · next hbay =>
    refine if_pos (h.resolve_left fun habove => ?_)
    rw [bayOfNat_of_above habove] at hbay
    cases hbay

theorem serveGetSensor_of_bad {b c : Nat} (h : 7 < b ∨ 1 < c) : serveGetSensor s b c = refuse s .param := by
  unfold serveGetSensor
  split
  · rfl
  · next hbay =>
    refine if_pos (h.resolve_left fun habove => ?_)
    rw [bayOfNat_of_above habove] at hbay
    cases hbay

/-- The reply of GET CAPTURE COUNTERS. -/
def Decoder.report (d : Decoder) (bay : Byte) : List Byte :=
  [bay, d.state.code, boolByte d.level] ++ bytes2 d.good.toNat ++ [d.marker, d.gap, d.width, d.tail, d.stuck]

theorem serveGetCaptureCounters_of_bay {c : Nat} (hbay : bay.toNat = n.val) (hc : ¬ 1 < c) :
    serveGetCaptureCounters s bay.toNat c =
      ⟨if c = 1 then s.setDecoder n (s.capture.get n).clearCauses else s, .ok, (s.capture.get n).report bay⟩ := by
  simp only [serveGetCaptureCounters, bayOfNat_of_eq hbay, if_neg hc, byte1_of_eq hbay]
  rfl

/-- The reply of GET SENSOR at instant `u`. -/
def SensorRec.report (r : SensorRec) (p : SensorParams) (bay : Byte) (u : Nat) : List Byte :=
  [bay, r.state.code] ++ r.state.runBytes ++ [boolByte r.held.isSome] ++ bytes2 (r.held.elim 0 Sample.temp) ++
    bytes2 (r.held.elim 0 Sample.power) ++ bytes2 (r.age u) ++ [byte1 r.implRun.val, r.implCount] ++
    bytes2 r.loss.toNat ++ bytes2 r.maxTemp ++ bytes2 p.stale ++ bytes2 p.lost ++ bytes2 p.step

theorem serveGetSensor_of_bay {c : Nat} (hbay : bay.toNat = n.val) (hc : ¬ 1 < c) :
    serveGetSensor s bay.toNat c =
      ⟨if c = 1 then s.setSensor n { s.sensors.get n with implCount := 0, loss := 0 } else s, .ok,
        (s.sensors.get n).report s.params bay s.now⟩ := by
  simp only [serveGetSensor, bayOfNat_of_eq hbay, if_neg hc, byte1_of_eq hbay]
  rfl

end Records

/-- Settles O35: the decoder and the record as they stand at the service, and what choice 1 clears. -/
theorem captureCountersAndSensorAreReadAndCleared : Obligations.CaptureCountersAndSensorAreReadAndCleared := by
  intro t tag bay choice s hidle counters sensor
  refine ⟨fun hbad => ⟨?_, ?_⟩, fun n hbay => ?_⟩
  · exact exec_getCaptureCounters_of_service hidle (a := refuse s .param) fun r => serveGetCaptureCounters_of_bad hbad
  · exact exec_getSensor_of_service hidle (a := refuse s .param) fun r => serveGetSensor_of_bad hbad
  · intro d x decoder sensed read run held age record
    have hread : d.report bay = read := by
      have hcode : d.state.code = decoder := by simp only [decoder]; cases d.state <;> rfl
      simp only [Decoder.report, hcode, boolByte, read]
    have hrecord : x.report s.params bay (max s.now t) = record := by
      have hcode : x.state.code = sensed := by simp only [sensed]; cases x.state <;> rfl
      have hrun : x.state.runBytes = run := by
        simp only [run]
        cases x.state with
        | acquiring q => obtain ⟨origin, count, _, _⟩ := q; cases origin <;> cases count <;> rfl
        | _ => rfl
      have hheld : [boolByte x.held.isSome] ++ bytes2 (x.held.elim 0 Sample.temp) ++ bytes2 (x.held.elim 0 Sample.power) =
          held := by
        simp only [held]; cases x.held <;> rfl
      have hage : x.age (max s.now t) = age := by
        simp only [age, SensorRec.age]; cases x.acceptedAt <;> rfl
      simp only [record, ← hcode, ← hrun, ← hheld, ← hage, SensorRec.report, List.append_assoc]
    have hreads (hc : ¬ 1 < choice.toNat) : counters = .next ((if choice.toNat = 1 then s.setDecoder n d.clearCauses else s).replied
        t .shelf ⟨0x22, tag, [bay, choice]⟩ .ok read) := by
      rw [← hread]
      refine exec_getCaptureCounters_of_service hidle
        (a := ⟨if choice.toNat = 1 then s.setDecoder n d.clearCauses else s, .ok, d.report bay⟩) fun r => ?_
      rw [serveGetCaptureCounters_of_bay hbay hc, Answer.atService, apply_ite (State.atService · .shelf t r)]
      rfl
    have hsenses (hc : ¬ 1 < choice.toNat) : sensor = .next ((if choice.toNat = 1 then
        s.setSensor n { x with implCount := 0, loss := 0 } else s).replied t .shelf ⟨0x23, tag, [bay, choice]⟩ .ok record) := by
      rw [← hrecord]
      refine exec_getSensor_of_service hidle
        (a := ⟨if choice.toNat = 1 then s.setSensor n { x with implCount := 0, loss := 0 } else s, .ok,
          x.report s.params bay (max s.now t)⟩) fun r => ?_
      rw [serveGetSensor_of_bay hbay hc, Answer.atService, apply_ite (State.atService · .shelf t r)]
      rfl
    refine ⟨fun hzero => ?_, fun hone => ?_⟩
    · subst hzero
      exact ⟨hreads (by decide), hsenses (by decide)⟩
    · subst hone
      exact ⟨hreads (by decide), hsenses (by decide)⟩

/-! ### GET LINK COUNTERS (R156) -/

section LinkCounters
variable {s : State} {t : Nat} {tag link choice : Byte} {j : LinkId}

theorem serveGetLinkCounters_of_bad {l c : Nat} (h : 8 < l ∨ 1 < c) : serveGetLinkCounters s l c = refuse s .param := by
  unfold serveGetLinkCounters
  split
  · rfl
  · next hlink =>
    refine if_pos (h.resolve_left fun habove => ?_)
    rw [linkOfNat_of_above habove] at hlink
    cases hlink

/-- The reply of GET LINK COUNTERS. -/
def Port.report (p : Port) (link : Byte) (held : Nat) : List Byte :=
  [link, p.rx.code, byte1 held, p.counters.noise, p.counters.gap, p.counters.framing, p.counters.length, p.counters.crc,
    p.counters.overrun, p.counters.brk]

theorem serveGetLinkCounters_of_link {c : Nat} (hlink : linkOfNat link.toNat = some j) (hc : ¬ 1 < c) :
    serveGetLinkCounters s link.toNat c =
      ⟨if c = 1 then s.setPort j { s.port j with counters := LinkCounters.zero } else s, .ok,
        (s.port j).report link (s.port j).inbox.length⟩ := by
  have hbyte : byte1 link.toNat = link := by simp [byte1]
  simp only [serveGetLinkCounters, hlink, if_neg hc, hbyte]
  rfl

theorem exec_getLinkCounters_of_service {a : Answer} (hidle : s.linkIdle .shelf 2 t)
    (hservice : ∀ r, r.params = [link, choice] →
      serveGetLinkCounters (s.atService .shelf t r) link.toNat choice.toNat = a.atService .shelf t r) :
    exec (.getLinkCounters t .shelf tag link choice) s =
      .next (a.state.replied t .shelf ⟨0x24, tag, [link, choice]⟩ a.status a.data) := by
  refine requestEvent_answered .getLinkCounters (params := [link, choice]) hidle (by simp) ?_
  rw [answer_of_passed (.inl rfl) (.inl rfl), dispatch_getLinkCounters, hservice _ rfl]
  rfl

end LinkCounters

theorem RxState.code_eq (rx : RxState) : rx.code = match rx with
    | .hunt => 0
    | .length => 1
    | .body _ _ => 2
    | .check _ _ => 3
    | .discard => 4 := by cases rx <;> rfl

/-- Another link's port is untouched by a request's arrival; the shelf link's holds the request being answered. -/
theorem State.setPort_atService_shelf (s : State) (t : Nat) (r : Request) (j : LinkId) :
    (s.atService .shelf t r).setPort j { (s.atService .shelf t r).port j with counters := LinkCounters.zero } =
      (s.setPort j { s.port j with counters := LinkCounters.zero }).atService .shelf t r := by
  cases j <;> rfl

/-- Settles O36: the port that the byte names, with the request being answered counted on link 8. -/
theorem linkCountersAreReadAndCleared : Obligations.LinkCountersAreReadAndCleared := by
  intro t tag link choice s r
  refine ⟨fun i hidle => requestEvent_access .getLinkCounters (params := [link, choice]) hidle (by simp) rfl,
    fun hidle => ⟨fun hbad => ?_, ?_⟩⟩
  · exact exec_getLinkCounters_of_service hidle (a := refuse s .param) fun _ _ => serveGetLinkCounters_of_bad hbad
  · intro j hj c held decoder data
    have hlink : linkOfNat link.toNat = some j := by
      obtain ⟨h, rfl⟩ | ⟨i, h, rfl⟩ := hj
      · rw [h]; rfl
      · rw [h, linkOfNat_val]
    have hcode : (s.port j).rx.code = decoder := RxState.code_eq _
    have hdata (r : Request) : ((s.atService .shelf t r).port j).report link ((s.atService .shelf t r).port j).inbox.length =
        data := by
      simp only [data, ← hcode, Port.report, State.atService_port]
      by_cases h : j = .shelf
      · subst h; rfl
      · simp only [if_neg h, held, c]
    have hread (hc : ¬ 1 < choice.toNat) : exec (.getLinkCounters t .shelf tag link choice) s =
        .next ((if choice.toNat = 1 then s.setPort j { s.port j with counters := LinkCounters.zero } else s).replied t .shelf r
          .ok data) := by
      refine exec_getLinkCounters_of_service hidle
        (a := ⟨if choice.toNat = 1 then s.setPort j { s.port j with counters := LinkCounters.zero } else s, .ok, data⟩)
        fun r' _ => ?_
      rw [serveGetLinkCounters_of_link hlink hc, hdata, State.setPort_atService_shelf, Answer.atService,
        apply_ite (State.atService · .shelf t r')]
    refine ⟨fun hzero => ?_, fun hone => ?_⟩
    · subst hzero
      exact hread (by decide)
    · subst hone
      exact hread (by decide)

end Sys2Proof.Machine
end

section
/-! PROOFS. Withdrawals: pins (R118, R167, R168) and the reset of a bay link (R101, R119, R157, R170, R176). -/

namespace Sys2Proof.Machine

/-! ### What leaves with some bays (R118, R119) -/

section Withdrawn
variable (b : BurstUnit) (l : List Bay) (n : Bay) (p : Pool)

/-- The amount that the active bursts of some bays have borrowed from a pool. -/
def BurstUnit.borrowed (b : BurstUnit) (l : List Bay) (p : Pool) : Nat :=
  sum8 fun n => if l.contains n = true then lentBy (b.active.get n) p else 0

theorem State.credit_eq (s : State) : s.credit l p = s.burst.borrowed l p := by
  refine congrArg sum8 (funext fun n => ?_)
  cases s.burst.active.get n with
  | none => simp
  | some a => simp only [lentBy_some, ite_and]

theorem BurstUnit.borrowed_cons : b.borrowed (n :: l) p = lentBy (b.active.get n) p + (b.withdraw n).borrowed l p := by
  have hsplit (m : Bay) : (if (n :: l).contains m = true then lentBy (b.active.get m) p else 0) =
      (if m = n then lentBy (b.active.get n) p else 0) +
        if l.contains m = true then lentBy ((b.withdraw n).active.get m) p else 0 := by
    rw [BurstUnit.withdraw_active]
    by_cases h : m = n
    · simp [h]
    · simp [h]
  have hone : (sum8 fun m => if m = n then lentBy (b.active.get n) p else 0) = lentBy (b.active.get n) p := by
    fin_cases n <;> simp [sum8]
  have hsum (f g : Bay → Nat) : (sum8 fun m => f m + g m) = sum8 f + sum8 g := by
    simp only [sum8]; omega
  rw [BurstUnit.borrowed, funext hsplit, hsum, hone]
  rfl

theorem BurstUnit.foldl_withdraw_queue :
    (l.foldl BurstUnit.withdraw b).queue = b.queue.filter fun e => !l.contains e.bay := by
  induction l generalizing b with
  | nil => simp
  | cons n l ih =>
    rw [List.foldl_cons, ih, BurstUnit.withdraw_queue, List.filter_filter]
    refine List.filter_congr fun e _ => ?_
    rw [List.contains_cons, Bool.not_or, Bool.and_comm]
    rfl

theorem BurstUnit.foldl_withdraw_active :
    (l.foldl BurstUnit.withdraw b).active.get n = if l.contains n then none else b.active.get n := by
  induction l generalizing b with
  | nil => simp
  | cons m l ih =>
    rw [List.foldl_cons, ih, BurstUnit.withdraw_active]
    by_cases hm : n = m <;> by_cases hl : l.contains n = true <;> simp_all

theorem BurstUnit.foldl_withdraw_pools :
    (l.foldl BurstUnit.withdraw b).pools.get p =
      { b.pools.get p with remaining := (b.pools.get p).remaining + b.borrowed l p } := by
  induction l generalizing b with
  | nil => simp [BurstUnit.borrowed, sum8]
  | cons n l ih =>
    rw [List.foldl_cons, ih, BurstUnit.withdraw_pools, BurstUnit.borrowed_cons, ← Nat.add_assoc]
    rfl

end Withdrawn

/-! ### PIN BAY and UNPIN BAY (R167, R168) -/

section Pins
variable {s : State} {t : Nat} {tag bay : Byte} {n : Bay} {v : Nat}

theorem State.withdrawForPin_of_held (h : s.burst.holds n = true) : s.withdrawForPin n =
    (s.setBurst (s.burst.withdraw n)).raiseServing s.bindings n .burstWithdrawn 1 := if_pos h

theorem State.withdrawForPin_of_free (h : s.burst.holds n = false) : s.withdrawForPin n = s := if_neg (by simp [h])

theorem BurstUnit.holds_iff (s : State) : s.burst.holds n = true ↔ s.queued n ∨ s.burst.active.get n ≠ none := by
  rw [BurstUnit.holds, Bool.or_eq_true, State.hasEntry_iff_queued, Option.isSome_iff_ne_none]

theorem servePinBay_of_occupied (h : (s.bayBlock n).occupied = true) : servePinBay s n v =
    ⟨(s.setAlloc { s.alloc with pin := s.alloc.pin.set n (some (min v (s.bayBlock n).peak)) }).withdrawForPin n,
      clampStatus v (s.bayBlock n).peak, byte1 n.val :: bytes2 (min v (s.bayBlock n).peak)⟩ := if_pos h

theorem servePinBay_of_vacant (h : (s.bayBlock n).occupied = false) : servePinBay s n v = refuse s .param :=
  if_neg (by rw [State.occupied, h]; simp)

theorem State.withdrawForPin_atService (k : LinkId) (r : Request) :
    (s.atService k t r).withdrawForPin n = (s.withdrawForPin n).atService k t r := by
  rw [State.withdrawForPin, State.withdrawForPin, apply_ite (State.atService · k t r)]
  simp only [State.atService_burst, State.atService_setBurst, State.atService_raiseServing, State.atService_bindings]

theorem servePinBay_atService (k : LinkId) (r : Request) :
    servePinBay (s.atService k t r) n v = (servePinBay s n v).atService k t r := by
  rw [servePinBay, servePinBay, apply_ite (Answer.atService · k t r)]
  simp only [State.atService_alloc, State.atService_setAlloc, State.withdrawForPin_atService, Answer.atService, refuse,
    State.atService_occupied, State.atService_bayBlock]

theorem serveUnpinBay_atService (k : LinkId) (r : Request) :
    serveUnpinBay (s.atService k t r) n = (serveUnpinBay s n).atService k t r := by
  simp only [serveUnpinBay, apply_ite (Answer.atService · k t r)]
  rfl

theorem exec_pinBay_of_service {a : Answer} {v : BitVec 16} (hidle : s.linkIdle .shelf 3 t)
    (hservice : withBay s .shelf bay (fun n => servePinBay s n v.toNat) = a) :
    exec (.pinBay t .shelf tag bay v) s =
      .next (a.state.replied t .shelf ⟨0x30, tag, bay :: bytes2 v.toNat⟩ a.status a.data) := by
  have hport : a.state.port .shelf = s.port .shelf :=
    hservice ▸ (withBay_keeps s .shelf bay _ fun n => servePinBay_keeps s .shelf n _).2
  refine requestEvent_served .pinBay (params := bay :: bytes2 v.toNat) hidle (by simp [bytes2]) (.inl rfl) (.inl rfl) ?_ hport
  rw [bytes2, dispatch_pinBay, value2_byte1, withBay_atService fun n => servePinBay_atService _ _, hservice]

theorem exec_unpinBay_of_service {a : Answer} (hidle : s.linkIdle .shelf 1 t)
    (hservice : withBay s .shelf bay (fun n => serveUnpinBay s n) = a) :
    exec (.unpinBay t .shelf tag bay) s = .next (a.state.replied t .shelf ⟨0x31, tag, [bay]⟩ a.status a.data) := by
  have hport : a.state.port .shelf = s.port .shelf :=
    hservice ▸ (withBay_keeps s .shelf bay _ fun n => serveUnpinBay_keeps s .shelf n).2
  refine requestEvent_served .unpinBay (params := [bay]) hidle (by simp) (.inl rfl) (.inl rfl) ?_ hport
  rw [dispatch_unpinBay, withBay_atService fun n => serveUnpinBay_atService _ _, hservice]

/-- A bay parameter that names no occupied bay is refused by a service that refuses vacant bays. -/
theorem withBay_of_bad {service : Bay → Answer} (hvacant : ∀ n, (s.bayBlock n).occupied = false → service n = refuse s .param)
    (hbad : 7 < bay.toNat ∨ ∃ n : Bay, bay.toNat = n.val ∧ (s.bayBlock n).occupied = false) :
    withBay s .shelf bay service = refuse s .param := by
  obtain habove | ⟨n, hbay, hn⟩ := hbad
  · exact withBay_shelf_of_above habove
  · exact (withBay_of_reaches (show s.reaches .shelf bay n from hbay)).trans (hvacant n hn)

end Pins

/-- Settles O37: the bay is occupied or not, and holds something to withdraw or not. -/
theorem pinBayPinsAndWithdraws : Obligations.PinBayPinsAndWithdraws := by
  intro t tag bay v s pinned unpinned r u bad
  refine ⟨fun hidle => ⟨fun hbad => ?_, fun n hbay hocc => ?_⟩, fun hidle => ⟨fun hbad => ?_, fun n hbay hocc => ?_⟩⟩
  · exact exec_pinBay_of_service hidle (withBay_of_bad (fun n => servePinBay_of_vacant) hbad)
  · intro x status q
    have hserved : pinned = .next ((q.withdrawForPin n).replied t .shelf r status (bay :: bytes2 x)) := by
      have hbyte : byte1 n.val = bay := byte1_of_eq hbay
      rw [← hbyte]
      exact exec_pinBay_of_service hidle
        ((withBay_of_reaches (show s.reaches .shelf bay n from hbay)).trans (servePinBay_of_occupied hocc))
    refine ⟨fun hqueued hactive => ?_, fun hheld => ?_⟩
    · have hfree : q.burst.holds n = false := by
        rw [Bool.eq_false_iff, ne_eq, BurstUnit.holds_iff]
        exact fun h => h.elim hqueued fun h => h hactive
      rw [hserved, State.withdrawForPin_of_free hfree]
    · refine ⟨s.burst.withdraw n, ?_, fun m => BurstUnit.withdraw_active _ _ _, fun p => ?_, ?_⟩
      · rw [BurstUnit.withdraw_queue]
        exact List.filter_congr fun e _ => by simp [bne, beq_eq_decide]
      · rw [State.credit_eq]
        exact BurstUnit.foldl_withdraw_pools s.burst [n] p
      · rw [hserved, State.withdrawForPin_of_held ((BurstUnit.holds_iff q).mpr hheld)]
        rfl
  · refine exec_unpinBay_of_service hidle (withBay_of_bad (fun n hvacant => ?_) hbad)
    rw [serveUnpinBay, if_neg (by simp [State.occupied, hvacant])]
  · have hserved {a : Answer} (h : serveUnpinBay s n = a) : unpinned = .next (a.state.replied t .shelf u a.status a.data) :=
      exec_unpinBay_of_service hidle ((withBay_of_reaches (show s.reaches .shelf bay n from hbay)).trans h)
    have hservice : serveUnpinBay s n = if (s.alloc.pin.get n).isSome then
        ⟨s.setAlloc { s.alloc with pin := s.alloc.pin.set n none }, .ok, []⟩ else refuse s .none := if_pos hocc
    refine ⟨fun hnone => hserved (a := refuse s .none) ?_, fun hpin =>
      hserved (a := ⟨s.setAlloc { s.alloc with pin := s.alloc.pin.set n none }, .ok, []⟩) ?_⟩
    · rw [hservice, if_neg (by simp [hnone])]
    · rw [hservice, if_pos (Option.isSome_iff_ne_none.mpr hpin)]

/-! ### The reset of a bay link -/

section LinkReset
variable (s : State) (i : Fin 8) (t : Nat)

/-- What a bay link reset does beyond the receive decoder, in the terms of the statements. -/
theorem State.bayLinkEffects_wasReset : bayLinkWasReset i s (s.bayLinkEffects i t) := by
  refine ⟨by simp [State.bayLinkEffects, State.withdrawSilently, Port.abandon],
    by simp [State.bayLinkEffects, State.withdrawSilently, Port.abandon],
    by simp [State.bayLinkEffects, State.withdrawSilently, AlertState.linkReset],
    ?_, BurstUnit.foldl_withdraw_queue _ _, fun n => BurstUnit.foldl_withdraw_active _ _ n, fun p => ?_⟩
  · rfl
  · rw [State.credit_eq]
    exact BurstUnit.foldl_withdraw_pools _ _ p

theorem RxState.atBreak_eq (rx : RxState) : rx.atBreak = if rx = .hunt ∨ rx = .discard then .hunt else .discard := by
  cases rx <;> simp [RxState.atBreak]

/-- The port of a link that is reset. -/
theorem State.bayLinkEffects_port : (s.bayLinkEffects i t).port (.bay i) =
    { s.port (.bay i) with inbox := [], reply := none, tx := cutOff (s.port (.bay i)).tx t } := by
  rw [← Transmission.cutAt_cutOff]
  simp [State.bayLinkEffects, State.withdrawSilently, Port.abandon]

theorem State.bayLinkEffects_port_of_ne {k : LinkId} (h : k ≠ .bay i) : (s.bayLinkEffects i t).port k = s.port k := by
  simp [State.bayLinkEffects, State.withdrawSilently, h]

theorem State.bayLinkEffects_alert_of_ne {k : LinkId} (h : k ≠ .bay i) : (s.bayLinkEffects i t).alert k = s.alert k := by
  simp [State.bayLinkEffects, State.withdrawSilently, h]

end LinkReset

section ReleaseBayLink
variable {s : State} {t : Nat} {tag link : Byte} {i : Fin 8}

theorem exec_releaseBayLink_of_above (hidle : s.linkIdle .shelf 1 t) (h : 7 < link.toNat) :
    exec (.releaseBayLink t .shelf tag link) s = .next (s.replied t .shelf ⟨0x33, tag, [link]⟩ .param []) := by
  refine requestEvent_answered .releaseBayLink (params := [link]) hidle (by simp) ?_
  rw [answer_of_passed (.inl rfl) (.inl rfl), dispatch_releaseBayLink, serveReleaseBayLink, bayOfNat_of_above h]
  rfl

theorem exec_releaseBayLink (hidle : s.linkIdle .shelf 1 t) (h : link.toNat = i.val) :
    exec (.releaseBayLink t .shelf tag link) s = .next
      (((s.atService .shelf t ⟨0x33, tag, [link]⟩).bayLinkReset i).send .shelf ⟨0x33, tag, Status.ok.code, []⟩) := by
  refine (requestEvent_idle s .shelf (kind := .releaseBayLink) (params := [link]) hidle (by simp)).trans ?_
  have hanswer : answer (s.atService .shelf t ⟨Kind.releaseBayLink.code, tag, [link]⟩) .shelf
      ⟨Kind.releaseBayLink.code, tag, [link]⟩ =
        ⟨(s.atService .shelf t ⟨Kind.releaseBayLink.code, tag, [link]⟩).bayLinkReset i, .ok, []⟩ := by
    rw [answer_of_passed (.inl rfl) (.inl rfl), dispatch_releaseBayLink, serveReleaseBayLink, bayOfNat_of_eq h]
  simp only [hanswer]
  rfl

end ReleaseBayLink

theorem State.atService_port_bay (s : State) (t : Nat) (r : Request) (j : Fin 8) :
    (s.atService .shelf t r).port (.bay j) = s.port (.bay j) := rfl

/-- Settles O39: the reset of the named link stands apart from the shelf link's own reply. -/
theorem releaseBayLinkResetsTheNamedLink : Obligations.ReleaseBayLinkResetsTheNamedLink := by
  intro t tag link s r
  refine ⟨fun i hidle => requestEvent_access .releaseBayLink (params := [link]) hidle (by simp) rfl,
    fun hidle => ⟨exec_releaseBayLink_of_above hidle, fun i hlink => ?_⟩⟩
  let arrived := s.atService .shelf t r
  let begun := arrived.setRx (.bay i) (arrived.port (.bay i)).rx.atBreak
  have hreset : arrived.bayLinkReset i = begun.bayLinkEffects i (max s.now t) := rfl
  have hwas : bayLinkWasReset i begun (begun.bayLinkEffects i (max s.now t)) := State.bayLinkEffects_wasReset _ _ _
  have hport := State.bayLinkEffects_port begun i (max s.now t)
  have hother (k : LinkId) (hk : k ≠ .bay i) : (begun.bayLinkEffects i (max s.now t)).port k = arrived.port k := by
    rw [State.bayLinkEffects_port_of_ne _ _ _ hk]
    simp [begun, hk]
  have halert (k : LinkId) (hk : k ≠ .bay i) : (begun.bayLinkEffects i (max s.now t)).alert k = s.alert k :=
    State.bayLinkEffects_alert_of_ne _ _ _ hk
  refine ⟨_, exec_releaseBayLink hidle hlink, hwas, ?_, ?_, fun j hj => ⟨?_, halert (.bay j) (by simpa using hj)⟩,
    halert .shelf nofun, ?_⟩
  · rw [State.send_sending, State.sending, State.setPort_port, if_neg nofun, hreset, hport]
    simp only [begun, State.setRx_port, if_true, RxState.atBreak_eq]
    rfl
  · rw [State.send_sending, State.sending, State.setPort_port, if_pos rfl, hreset, hother .shelf nofun]
    rfl
  · rw [State.send_sending, State.sending, State.setPort_port, if_neg nofun, hreset, hother (.bay j) (by simpa using hj)]
    exact State.atService_port_bay s t r j
  · rw [State.send_sending, State.sending]
    obtain ⟨hreleased, -⟩ := hidle
    exact ⟨rfl, hreleased, rfl, rfl, rfl, rfl, rfl, rfl, rfl⟩

end Sys2Proof.Machine
end

section
/-! PROOFS. PROFILE COMMIT: the ten checks as a search for the first that fails, with its lowest index (R180). -/

namespace Sys2Proof.Machine

/-! ### The lowest index at which one check fails -/

/-- The search has found the lowest number with a property, or there is none. -/
def isLowest (P : Nat → Prop) (found : Option Nat) : Prop :=
  (∀ i, found = some i → P i ∧ ∀ j, P j → i ≤ j) ∧ (found = none → ∀ j, ¬ P j)

theorem isLowest.congr {P Q : Nat → Prop} {found : Option Nat} (h : isLowest P found) (hPQ : ∀ i, P i ↔ Q i) :
    isLowest Q found := by
  obtain rfl : P = Q := funext fun i => propext (hPQ i)
  exact h

/-- A check without a list. -/
theorem isLowest_single {c : Prop} [Decidable c] : isLowest (fun i => i = 0 ∧ c) (if c then some 0 else none) := by
  constructor
  · intro i hi
    split at hi
    · next hc => cases hi; exact ⟨⟨rfl, hc⟩, fun _ _ => Nat.zero_le _⟩
    · cases hi
  · intro hnone j hj
    rw [if_pos hj.2] at hnone
    cases hnone

theorem isLowest_lowestFailing (n : Nat) (bad : Nat → Bool) :
    isLowest (fun i => i < n ∧ bad i = true) (lowestFailing n bad) := by
  constructor
  · intro i hi
    obtain ⟨hbad, hmem⟩ := And.intro (List.find?_some hi) (List.mem_of_find?_eq_some hi)
    refine ⟨⟨List.mem_range.mp hmem, hbad⟩, fun j ⟨hj, hbadj⟩ => ?_⟩
    by_contra hlt
    obtain ⟨_, as, bs, hsplit, has⟩ := List.find?_eq_some_iff_append.mp hi
    have hmemj : j ∈ as := by
      have hpair : (as ++ i :: bs).Pairwise (· < ·) := hsplit ▸ List.pairwise_lt_range
      have hin : j ∈ as ++ i :: bs := hsplit ▸ List.mem_range.mpr hj
      obtain h | h := List.mem_append.mp hin
      · exact h
      · obtain rfl | h := List.mem_cons.mp h
        · exact absurd le_rfl hlt
        · have hrest := List.rel_of_pairwise_cons (List.pairwise_append.mp hpair).2.1 h
          omega
    exact absurd hbadj (by simpa using has j hmemj)
  · intro hnone j ⟨hj, hbad⟩
    exact absurd hbad (List.find?_eq_none.mp hnone j (List.mem_range.mpr hj))

/-- The numbers of the bays are the numbers below 8. -/
theorem lowestBay_eq_lowestFailing (bad : Bay → Bool) :
    lowestBay bad = lowestFailing 8 fun i => if h : i < 8 then bad ⟨i, h⟩ else false := by
  have hrange : List.range 8 = numbers8.map Fin.val := by decide
  rw [lowestBay, lowestFailing, hrange, List.find?_map]
  refine congrArg (Option.map Fin.val) (congrArg (fun p => numbers8.find? p) (funext fun n => ?_))
  simp

theorem isLowest_lowestBay (bad : Bay → Bool) :
    isLowest (fun i => ∃ n : Bay, n.val = i ∧ bad n = true) (lowestBay bad) := by
  rw [lowestBay_eq_lowestFailing]
  refine (isLowest_lowestFailing _ _).congr fun i => ⟨fun ⟨hi, hbad⟩ => ⟨⟨i, hi⟩, rfl, by simpa [hi] using hbad⟩, ?_⟩
  rintro ⟨n, rfl, hbad⟩
  exact ⟨n.isLt, by simpa using hbad⟩

/-! ### The first check that fails -/

/-- From check `first` on, the search has found the first check that fails and its lowest index, or none fails. -/
def isFirstFailure (P : Nat → Nat → Prop) (first : Nat) (found : Option (Nat × Nat)) : Prop :=
  (∀ code index, found = some (code, index) → first ≤ code ∧ P code index ∧
    ∀ code' index', first ≤ code' → P code' index' → code < code' ∨ code = code' ∧ index ≤ index') ∧
  (found = none → ∀ code index, first ≤ code → ¬ P code index)

theorem isFirstFailure_none {P : Nat → Nat → Prop} {first : Nat} (h : ∀ code index, first ≤ code → ¬ P code index) :
    isFirstFailure P first none := ⟨nofun, fun _ => h⟩

/-- One check before the others. -/
theorem isFirstFailure.cons {P : Nat → Nat → Prop} {n : Nat} {found : Option Nat} {rest : Option (Nat × Nat)}
    (hrest : isFirstFailure P (n + 1) rest) (hfound : isLowest (P n) found) :
    isFirstFailure P n (failAt n found <|> rest) := by
  cases found with
  | some i =>
    obtain ⟨hP, hlow⟩ := hfound.1 i rfl
    refine ⟨fun code index h => ?_, nofun⟩
    cases h
    refine ⟨le_rfl, hP, fun code' index' hle hP' => ?_⟩
    obtain h | h := Nat.lt_or_eq_of_le hle
    · exact .inl h
    · subst h; exact .inr ⟨rfl, hlow _ hP'⟩
  | none =>
    have hnone := hfound.2 rfl
    have hsame : (failAt n none <|> rest) = rest := rfl
    rw [hsame]
    have hlater {code index : Nat} (hle : n ≤ code) (hP : P code index) : n + 1 ≤ code := by
      obtain h | h := Nat.lt_or_eq_of_le hle
      · exact h
      · subst h; exact absurd hP (hnone _)
    refine ⟨fun code index h => ?_, fun h code index hle hP => hrest.2 h code index (hlater hle hP) hP⟩
    obtain ⟨hle, hP, hfirst⟩ := hrest.1 code index h
    exact ⟨by omega, hP, fun code' index' hle' hP' => hfirst code' index' (hlater hle' hP') hP'⟩

/-! ### The ten checks (R180) -/

theorem exists_mem_take_iff {α : Type} {l : List α} {i : Nat} {q : α → Prop} :
    (∃ x ∈ l.take i, q x) ↔ ∃ j x, j < i ∧ l[j]? = some x ∧ q x := by
  simp only [List.mem_iff_getElem?, List.getElem?_take]
  constructor
  · rintro ⟨x, ⟨j, hj⟩, hq⟩
    split at hj
    · next hlt => exact ⟨j, x, hlt, hj, hq⟩
    · cases hj
  · rintro ⟨j, x, hlt, hj, hq⟩
    exact ⟨x, ⟨j, by rw [if_pos hlt]; exact hj⟩, hq⟩

theorem badCoupling_iff {p : Profile} {l : List Coupling} {i : Nat} {e : Coupling} :
    badCoupling p (l.take i) e = true ↔
      (p.bays.get e.down).occupied = false ∨ (p.bays.get e.up).occupied = false ∨
        p.shelf.airflow.idxOf e.down ≤ p.shelf.airflow.idxOf e.up ∨
        ∃ j f, j < i ∧ l[j]? = some f ∧ f.down = e.down ∧ f.up = e.up := by
  simp only [badCoupling, Bool.or_eq_true, Bool.not_eq_true', decide_eq_true_eq, List.any_eq_true, Bool.and_eq_true,
    beq_iff_eq, exists_mem_take_iff, or_assoc]

section Checks
variable (st : ProfileStore)

theorem isLowest_written : isLowest (st.failsAt 1)
    (if st.installed.isNone then lowestFailing 12 fun i => !st.written.getLsbD i else none) := by
  split
  · next h =>
    refine (isLowest_lowestFailing _ _).congr fun i => ?_
    have hnone : st.installed = none := Option.isNone_iff_eq_none.mp h
    simp [ProfileStore.failsAt, hnone]
  · next h =>
    refine ⟨nofun, fun _ j hj => h ?_⟩
    simp only [ProfileStore.failsAt] at hj
    simp [hj.1]

theorem isLowest_format : isLowest (st.failsAt 2) (if st.staging.shelf.format = 0x0816 then none else some 0) := by
  rw [← ite_not]
  exact isLowest_single

theorem isLowest_powers : isLowest (st.failsAt 3) (lowestBay fun n => badPowers (st.staging.bays.get n)) :=
  (isLowest_lowestBay _).congr fun i => by simp [ProfileStore.failsAt, badPowers]

theorem isLowest_pattern : isLowest (st.failsAt 4) (lowestBay fun n => badPattern (st.staging.bays.get n)) :=
  (isLowest_lowestBay _).congr fun i => by simp [ProfileStore.failsAt, badPattern]

theorem isLowest_times : isLowest (st.failsAt 5)
    (if st.staging.shelf.lostMs ≤ st.staging.shelf.staleMs then some 0 else none) := isLowest_single

theorem isLowest_order : isLowest (st.failsAt 6) (lowestBay (orderMismatch st.staging)) := by
  refine (isLowest_lowestBay _).congr fun i => ?_
  simp only [ProfileStore.failsAt]
  refine exists_congr fun n => and_congr_right fun _ => ?_
  rw [orderMismatch, bne_iff_ne, ne_eq, Bool.eq_iff_iff, List.contains_iff_mem]

theorem isLowest_couplings : isLowest (st.failsAt 7) (lowestCoupling st.staging) := by
  refine (isLowest_lowestFailing _ _).congr fun i => ?_
  simp only [ProfileStore.failsAt]
  constructor
  · rintro ⟨hi, hbad⟩
    obtain ⟨e, he⟩ : ∃ e, st.staging.couplings[i]? = some e := ⟨_, List.getElem?_eq_getElem hi⟩
    exact ⟨e, he, badCoupling_iff.mp (by simpa only [he] using hbad)⟩
  · rintro ⟨e, he, hbad⟩
    obtain ⟨hi, -⟩ := List.getElem?_eq_some_iff.mp he
    exact ⟨hi, by simpa only [he] using badCoupling_iff.mpr hbad⟩

theorem isLowest_bindings : isLowest (st.failsAt 8) (lowestBay (badBinding st.staging)) := by
  refine (isLowest_lowestBay _).congr fun i => ?_
  simp only [ProfileStore.failsAt]
  refine exists_congr fun n => and_congr_right fun _ => ?_
  simp [badBinding, timesBound]

theorem isLowest_caps : isLowest (st.failsAt 9)
    (if badCaps st.staging.floors st.staging.shelf.capNormal st.staging.shelf.capDerated then some 0 else none) :=
  isLowest_single.congr fun i => by simp [ProfileStore.failsAt, badCaps]

theorem isLowest_pools : isLowest (st.failsAt 10)
    (lowestFailing 4 fun i => decide (st.staging.shelf.capNormal < (st.staging.pools.get (Fin.ofNat 4 i)).reserve)) := by
  refine (isLowest_lowestFailing _ _).congr fun i => ?_
  simp only [ProfileStore.failsAt, decide_eq_true_eq]
  constructor
  · rintro ⟨hi, hbad⟩
    exact ⟨Fin.ofNat 4 i, Nat.mod_eq_of_lt hi, hbad⟩
  · rintro ⟨p, rfl, hbad⟩
    exact ⟨p.isLt, by rwa [Fin.ofNat_val_eq_self]⟩

/-- The search over the ten checks. -/
theorem ProfileStore.firstFailure_isFirst : isFirstFailure st.failsAt 1 st.firstFailure := by
  have hbeyond : isFirstFailure st.failsAt 11 none := isFirstFailure_none fun code index hcode hfails => by
    unfold ProfileStore.failsAt at hfails
    split at hfails <;> omega
  have hpools : isFirstFailure st.failsAt 10 (failAt 10
      (lowestFailing 4 fun i => decide (st.staging.shelf.capNormal < (st.staging.pools.get (Fin.ofNat 4 i)).reserve))) := by
    have h := hbeyond.cons (isLowest_pools st)
    rwa [Option.orElse_eq_orElse, Option.orElse_eq_or, Option.or_none] at h
  exact ((((((((hpools.cons (isLowest_caps st)).cons (isLowest_bindings st)).cons (isLowest_couplings st)).cons
    (isLowest_order st)).cons (isLowest_times st)).cons (isLowest_pattern st)).cons (isLowest_powers st)).cons
    (isLowest_format st)).cons (isLowest_written st)

variable {st}

theorem ProfileStore.failsAt_pos {code index : Nat} (h : st.failsAt code index) : 1 ≤ code := by
  cases code with
  | zero => exact h.elim
  | succ n => omega

/-- No check fails exactly when the search finds none. -/
theorem ProfileStore.firstFailure_eq_none (h : ∀ code index, ¬ st.failsAt code index) : st.firstFailure = none := by
  cases hfound : st.firstFailure with
  | none => rfl
  | some x =>
    obtain ⟨code, index⟩ := x
    obtain ⟨-, hfails, -⟩ := st.firstFailure_isFirst.1 code index hfound
    exact absurd hfails (h code index)

theorem ProfileStore.firstFailure_eq_some {code index : Nat} (h : st.failsAt code index)
    (hfirst : ∀ code' index', st.failsAt code' index' → code < code' ∨ code = code' ∧ index ≤ index') :
    st.firstFailure = some (code, index) := by
  cases hfound : st.firstFailure with
  | none => exact absurd h (st.firstFailure_isFirst.2 hfound code index (failsAt_pos h))
  | some x =>
    obtain ⟨c, i⟩ := x
    obtain ⟨-, hfails, hlow⟩ := st.firstFailure_isFirst.1 c i hfound
    have hforth := hfirst c i hfails
    have hback := hlow code index (failsAt_pos h) h
    obtain ⟨rfl, rfl⟩ : c = code ∧ i = index := by omega
    rfl

end Checks

/-! ### The request (R45, R181) -/

section Commit
variable {s : State} {t : Nat} {tag : Byte}

theorem exec_profileCommit_of_service {a : Answer} (hidle : s.linkIdle .shelf 0 t)
    (hservice : ∀ r, serveProfileCommit (s.atService .shelf t r) = a.atService .shelf t r) :
    exec (.profileCommit t .shelf tag) s = .next (a.state.replied t .shelf ⟨0x43, tag, []⟩ a.status a.data) := by
  refine requestEvent_answered .profileCommit (params := []) hidle (by simp) ?_
  rw [answer_of_passed (.inl rfl) (.inl rfl), dispatch_profileCommit, hservice]
  rfl

end Commit

/-- Settles O43: an install that waits, the first check that fails, or none. -/
theorem commitChecksThenWaitsForTheBoundary : Obligations.CommitChecksThenWaitsForTheBoundary := by
  intro t tag s r
  refine ⟨fun i hidle => requestEvent_access .profileCommit (params := []) hidle (by simp) rfl,
    fun hidle => ⟨fun hwaiting => ?_, fun code index hwaiting hfails hfirst => ?_, fun hwaiting hpass hrunning => ?_⟩⟩
  · exact exec_profileCommit_of_service hidle (a := refuse s .busy) fun r =>
      if_pos (Option.isSome_iff_ne_none.mpr hwaiting)
  · refine exec_profileCommit_of_service hidle (a := refuseCheck s code index) fun r => ?_
    have hfailure : (s.atService .shelf t r).store.firstFailure = some (code, index) :=
      ProfileStore.firstFailure_eq_some hfails hfirst
    rw [serveProfileCommit, if_neg (by simp [hwaiting]), hfailure]
    rfl
  · refine exec_profileCommit_of_service hidle
      (a := ⟨s.setStore { s.store with waiting := some s.store.staging }, .ok, bytes4 (s.alloc.epoch + 1).toNat⟩) fun r => ?_
    exact serveProfileCommit_of_running (s := s.atService .shelf t r) hwaiting
      (ProfileStore.firstFailure_eq_none hpass) hrunning

end Sys2Proof.Machine
end

section
/-! PROOFS. GET HISTORY and GET BAY: the layouts of their replies (R55, R154, R164). -/

namespace Sys2Proof.Machine

/-! ### Fields (R154) -/

theorem value2_bytes (v : Nat) : value2 (byte1 (v / 256)) (byte1 v) = v % 65536 := by
  simp only [value2, byte1, BitVec.toNat_ofNat]
  omega

theorem value2_zero : value2 (byte1 (0 / 256)) (byte1 0) = 0 := value2_bytes 0

theorem value4_bytes (v : Nat) :
    value2 (byte1 (v / 16777216)) (byte1 (v / 65536)) * 65536 + value2 (byte1 (v / 256)) (byte1 v) = v % 4294967296 := by
  simp only [value2, byte1, BitVec.toNat_ofNat]
  omega

/-! ### GET HISTORY (R55) -/

section History
variable {s : State} {k : LinkId} {t : Nat} {tag count : Byte} {x : Summary}

theorem State.summaryBytes_length : (s.summaryBytes k x).length = 11 := rfl

theorem serveGetHistory_of_bad {c : Nat} (h : ¬ (1 ≤ c ∧ c ≤ 8)) : serveGetHistory s k c = refuse s .param :=
  if_pos (by rw [inRange, decide_eq_false h]; rfl)

theorem serveGetHistory_of_good {c : Nat} (h : 1 ≤ c ∧ c ≤ 8) : serveGetHistory s k c =
    ⟨s, if s.alloc.ring.isEmpty then .none else .ok,
      byte1 (s.alloc.ring.reverse.take c).length :: (s.alloc.ring.reverse.take c).flatMap (s.summaryBytes k)⟩ :=
  if_neg (by rw [inRange, decide_eq_true h]; decide)

theorem serveGetHistory_atService (r : Request) (c : Nat) :
    serveGetHistory (s.atService k t r) k c = (serveGetHistory s k c).atService k t r := by
  rw [serveGetHistory, serveGetHistory, apply_ite (Answer.atService · k t r)]
  rfl

theorem exec_getHistory_of_service {a : Answer} (hidle : s.linkIdle k 1 t) (hbound : s.unbound k = false)
    (hservice : serveGetHistory s k count.toNat = a) :
    exec (.getHistory t k tag count) s = .next (a.state.replied t k ⟨0x16, tag, [count]⟩ a.status a.data) :=
  requestEvent_served .getHistory (params := [count]) hidle (by simp) (.inr rfl) (.inr hbound)
    (by rw [dispatch_getHistory, serveGetHistory_atService, hservice]) (hservice ▸ (serveGetHistory_keeps s k k _).2)

theorem exec_getHistory_of_unbound (hidle : s.linkIdle k 1 t) (hunbound : s.unbound k = true) :
    exec (.getHistory t k tag count) s = .next (s.replied t k ⟨0x16, tag, [count]⟩ .notBound []) :=
  requestEvent_answered .getHistory (params := [count]) hidle (by simp)
    (answer_of_unbound rfl rfl (by rwa [State.atService_unbound]))

theorem State.unbound_eq_false_iff : s.unbound k = false ↔ ∀ i, k = .bay i → s.bindings.get i ≠ [] := by
  rw [← Bool.not_eq_true, State.unbound_iff]
  simp

/-- The flags of a byte beyond its eight bits are clear. -/
theorem Byte.getLsbD_of_ge (v : Byte) {i : Nat} (h : 8 ≤ i) : v.getLsbD i = false := BitVec.getLsbD_of_ge v i h

theorem flagsOf_getLsbD_of_two_le (a b : Bool) {i : Nat} (h : 2 ≤ i) :
    (flagsOf a b false false false false false false).getLsbD i = false := by
  obtain ⟨-, -, h2, h3, h4, h5, h6, h7⟩ := flagsOf_getLsbD a b false false false false false false
  by_cases hi : i < 8
  · interval_cases i <;> assumption
  · exact Byte.getLsbD_of_ge _ (by omega)

theorem flagsOf_getLsbD_of_three_le (a b c : Bool) {i : Nat} (h : 3 ≤ i) :
    (flagsOf a b c false false false false false).getLsbD i = false := by
  obtain ⟨-, -, -, h3, h4, h5, h6, h7⟩ := flagsOf_getLsbD a b c false false false false false
  by_cases hi : i < 8
  · interval_cases i <;> assumption
  · exact Byte.getLsbD_of_ge _ (by omega)

/-- A presence vector in a bay link's own terms (R55). -/
theorem selectorFlags_cons (first : Bay) (rest : List Bay) (v : Flags8) :
    selectorFlags (first :: rest) v =
      flagsOf (v.getLsbD first.val) (rest.head?.any fun second => v.getLsbD second.val) false false false false false false := by
  cases rest <;> rfl

end History

/-- Settles O32: the newest summaries, each at its place of 11 bytes. -/
theorem getHistoryReadsTheRing : Obligations.GetHistoryReadsTheRing := by
  intro t k tag count s hidle r got bound good
  have hbound : s.unbound k = false ↔ bound := State.unbound_eq_false_iff
  refine ⟨fun hunbound => ?_, fun hb hbad => ?_, fun hb hgood hempty => ?_, fun hb hgood hring => ?_⟩
  · exact exec_getHistory_of_unbound hidle (by rwa [← Bool.not_eq_false, hbound])
  · exact exec_getHistory_of_service hidle (hbound.mpr hb) (serveGetHistory_of_bad hbad)
  · have hservice := serveGetHistory_of_good (s := s) (k := k) hgood
    rw [hempty] at hservice
    exact exec_getHistory_of_service hidle (hbound.mpr hb) (hservice.trans (by simp; rfl))
  · intro m
    have hstatus : (if s.alloc.ring.isEmpty then Status.none else .ok) = .ok := if_neg (by simpa using hring)
    have hlen : (s.alloc.ring.reverse.take count.toNat).length = m := by simp [m]
    have hservice := serveGetHistory_of_good (s := s) (k := k) hgood
    rw [hstatus, hlen] at hservice
    have hlength (l : List Summary) : (l.flatMap (s.summaryBytes k)).length = 11 * l.length := by
      induction l with
      | nil => rfl
      | cons x l ih => rw [List.flatMap_cons, List.length_append, ih, State.summaryBytes_length, List.length_cons]; omega
    refine ⟨_, exec_getHistory_of_service hidle (hbound.mpr hb) hservice, ?_, rfl, fun j x hj hx => ?_⟩
    · rw [List.length_cons, hlength, hlen, Nat.add_comm]
    · intro a
      have htaken : (s.alloc.ring.reverse.take count.toNat)[j]? = some x := by
        rw [List.getElem?_take, if_pos (by omega), hx]
      have hplace {i : Nat} (hi : i < 11) :
          (byte1 m :: (s.alloc.ring.reverse.take count.toNat).flatMap (s.summaryBytes k)).getD (a + i) 0 =
            (s.summaryBytes k x).getD i 0 := by
        rw [show a + i = 11 * j + i + 1 by simp only [a]; omega, List.getD_cons_succ,
          getD_flatMap (f := s.summaryBytes k) (fun _ => State.summaryBytes_length) htaken hi]
      have hpresence : field1 (byte1 m :: (s.alloc.ring.reverse.take count.toNat).flatMap (s.summaryBytes k)) (a + 9) =
          s.presenceFor k x.presence := hplace (by decide)
      have hflags : field1 (byte1 m :: (s.alloc.ring.reverse.take count.toNat).flatMap (s.summaryBytes k)) (a + 10) =
          x.flagByte := hplace (by decide)
      obtain ⟨h0, h1, h2, -⟩ := flagsOf_getLsbD x.clamped x.derated x.short false false false false false
      have hfield {i : Nat} (hi : i + 1 < 11) :
          field2 (byte1 m :: (s.alloc.ring.reverse.take count.toNat).flatMap (s.summaryBytes k)) (a + i) =
            value2 ((s.summaryBytes k x).getD i 0) ((s.summaryBytes k x).getD (i + 1) 0) := by
        rw [field2, hplace (by omega), Nat.add_assoc, hplace hi]
      have hepoch : field4 (byte1 m :: (s.alloc.ring.reverse.take count.toNat).flatMap (s.summaryBytes k)) a =
          x.epoch.toNat := by
        have hfirst := hfield (i := 0) (by decide)
        rw [field4, hfield (by decide), ← Nat.mod_eq_of_lt x.epoch.isLt]
        exact (congrArg (· * 65536 + _) hfirst).trans (value4_bytes x.epoch.toNat)
      rw [hpresence, hflags]
      refine ⟨hepoch, (hfield (by decide)).trans (value2_bytes x.cap), (hfield (by decide)).trans (value2_bytes x.grants),
        hplace (by decide), fun hshelf => by subst hshelf; rfl, fun i first rest hk hrest => ?_, h0, h1, h2,
        fun b hb => flagsOf_getLsbD_of_three_le _ _ _ hb⟩
      subst hk
      obtain ⟨hfirst, hsecond, -⟩ := flagsOf_getLsbD (x.presence.getLsbD first.val)
        (rest.head?.any fun second => x.presence.getLsbD second.val) false false false false false false
      rw [State.presenceFor, hrest, selectorFlags_cons]
      refine ⟨hfirst, fun second hrest => ?_, fun hnil => ?_, fun b hb => flagsOf_getLsbD_of_two_le _ _ hb⟩
      · rw [hsecond, List.head?_eq_getElem?, hrest]
        rfl
      · rw [hsecond, hnil]
        rfl

/-! ### GET BAY (R35, R164, R165) -/

section GetBay
variable {s : State} {k : LinkId} {t : Nat} {tag sel : Byte} {n : Bay}

theorem exec_getBay_of_above (hidle : s.linkIdle .shelf 1 t) (habove : 7 < sel.toNat) :
    exec (.getBay t .shelf tag sel) s = .next (s.replied t .shelf ⟨0x10, tag, [sel]⟩ .param []) := by
  refine requestEvent_answered .getBay (params := [sel]) hidle (by simp) ?_
  rw [answer_of_passed (.inl rfl) (.inr rfl), dispatch_getBay, withBay_shelf_of_above habove]
  rfl

theorem exec_getBay (hidle : s.linkIdle k 1 t) (hreach : s.reaches k sel n) :
    exec (.getBay t k tag sel) s =
      .next (s.replied t k ⟨0x10, tag, [sel]⟩ .ok ((s.atService k t ⟨0x10, tag, [sel]⟩).bayView n)) := by
  refine requestEvent_answered .getBay (params := [sel]) hidle (by simp) ?_
  rw [answer_of_passed (.inr rfl) (.inr (by rw [State.atService_unbound]; exact hreach.bound)), dispatch_getBay, withBay,
    State.atService_relocate, hreach.relocate]
  rfl

/-- The search finds the bay's first entry with its position. -/
theorem findEntry_of_first {q : List QueueEntry} {i : Nat} {e : QueueEntry} (hi : q[i]? = some e) (he : e.bay = n)
    (hfirst : ∀ j e', j < i → q[j]? = some e' → e'.bay ≠ n) (pos : Nat) : findEntry q n pos = some (pos + i, e) := by
  induction q generalizing i pos with
  | nil => simp at hi
  | cons a q ih =>
    cases i with
    | zero => cases hi; rw [findEntry, if_pos he]; rfl
    | succ i =>
      rw [findEntry, if_neg (hfirst 0 a (by omega) rfl),
        ih hi (fun j e' hj hj' => hfirst (j + 1) e' (by omega) hj'), Nat.add_assoc, Nat.add_comm 1]

theorem findEntry_eq_none {q : List QueueEntry} (h : ∀ e ∈ q, e.bay ≠ n) (pos : Nat) : findEntry q n pos = none := by
  induction q generalizing pos with
  | nil => rfl
  | cons a q ih => rw [findEntry, if_neg (h a (by simp)), ih fun e he => h e (List.mem_cons_of_mem _ he)]

theorem findEntry_isSome {q : List QueueEntry} {e : QueueEntry} (he : e ∈ q) (hbay : e.bay = n) (pos : Nat) :
    (findEntry q n pos).isSome = true := by
  induction q generalizing pos with
  | nil => simp at he
  | cons a q ih =>
    rw [findEntry]
    split
    · rfl
    · next hne =>
      obtain rfl | he := List.mem_cons.mp he
      · exact absurd hbay hne
      · exact ih he _

theorem findEntry_isSome_iff : (findEntry s.burst.queue n 1).isSome = true ↔ s.queued n := by
  constructor
  · intro h
    by_contra hnone
    rw [findEntry_eq_none fun e he hbay => hnone ⟨e, he, hbay⟩] at h
    cases h
  · rintro ⟨e, he, hbay⟩
    exact findEntry_isSome he hbay 1

end GetBay

/-! ### The layout of the reply (R164) -/

section Layout
variable (s : State) (n : Bay)

/-- The present marks. -/
def State.bayMarks (s : State) (n : Bay) : Byte :=
  flagsOf (s.occupied n) (s.alloc.demand.get n).isSome (s.alloc.pin.get n).isSome (s.lines.get n).staged.isSome
    (findEntry s.burst.queue n 1).isSome (s.burst.active.get n).isSome (s.alloc.records.get n).isSome false

/-- The reply byte by byte. -/
theorem State.bayView_eq : ∃ held rec? entry act, held = (s.sensors.get n).held ∧ rec? = s.alloc.records.get n ∧
    entry = findEntry s.burst.queue n 1 ∧ act = s.burst.active.get n ∧ s.bayView n =
    [byte1 n.val, s.bayMarks n, (s.sensors.get n).state.code,
      byte1 (held.elim 0 Sample.temp / 256), byte1 (held.elim 0 Sample.temp),
      byte1 (held.elim 0 Sample.power / 256), byte1 (held.elim 0 Sample.power),
      byte1 ((s.sensors.get n).age s.now / 256), byte1 ((s.sensors.get n).age s.now),
      byte1 (s.reportedDemand n / 256), byte1 (s.reportedDemand n),
      byte1 ((s.alloc.pin.get n).getD 0 / 256), byte1 ((s.alloc.pin.get n).getD 0),
      byte1 (rec?.elim 0 EpochRecord.grant / 256), byte1 (rec?.elim 0 EpochRecord.grant),
      byte1 (rec?.elim 0 EpochRecord.ceiling / 256), byte1 (rec?.elim 0 EpochRecord.ceiling),
      byte1 (rec?.elim 0 EpochRecord.count),
      byte1 (rec?.elim 0 EpochRecord.burst / 256), byte1 (rec?.elim 0 EpochRecord.burst),
      rec?.elim 0 fun x => x.flags.byte, byte1 (s.lines.get n).live,
      byte1 (entry.elim 0 Prod.fst),
      byte1 ((entry.elim 0 fun e => e.2.amount) / 256), byte1 (entry.elim 0 fun e => e.2.amount),
      entry.elim 0 fun e => e.2.tag,
      byte1 ((entry.elim 0 fun e => e.2.roundsLeft) / 256), byte1 (entry.elim 0 fun e => e.2.roundsLeft),
      byte1 (act.elim 0 ActiveBurst.amount / 256), byte1 (act.elim 0 ActiveBurst.amount),
      byte1 (act.elim 0 ActiveBurst.remaining / 256), byte1 (act.elim 0 ActiveBurst.remaining),
      act.elim 0 ActiveBurst.tag,
      byte1 ((s.sensors.get n).maxTemp / 256), byte1 (s.sensors.get n).maxTemp] := by
  refine ⟨_, _, _, _, rfl, rfl, rfl, rfl, ?_⟩
  delta State.bayView
  extract_lets r rec? l entry act marks
  simp only [bytes2, List.cons_append, List.nil_append]
  rfl

/-- The eight flags of a record's flag byte (R154). -/
theorem RecordFlags.byte_flags (f : RecordFlags) :
    f.byte.getLsbD 7 = f.thermal ∧ f.byte.getLsbD 6 = f.deficit ∧ f.byte.getLsbD 5 = f.subst ∧
    f.byte.getLsbD 4 = f.pinned ∧ f.byte.getLsbD 3 = f.short ∧ f.byte.getLsbD 2 = f.pool ∧ f.byte.getLsbD 1 = f.shelf ∧
    f.byte.getLsbD 0 = f.burst := by
  obtain ⟨h0, h1, h2, h3, h4, h5, h6, h7⟩ :=
    flagsOf_getLsbD f.burst f.shelf f.pool f.short f.pinned f.subst f.deficit f.thermal
  exact ⟨h7, h6, h5, h4, h3, h2, h1, h0⟩

end Layout

/-- Settles O25: every field at its place in the 35 bytes. -/
theorem getBayReportsTheBay : Obligations.GetBayReportsTheBay := by
  intro t k tag sel s hidle
  refine ⟨fun hshelf habove => ?_, fun n hreach => ⟨_, exec_getBay hidle hreach, ?_⟩⟩
  · subst hshelf
    exact exec_getBay_of_above hidle habove
  obtain ⟨held, rec?, entry, act, hheld, hrec, hentry, hact, hview⟩ :=
    (s.atService k t ⟨0x10, tag, [sel]⟩).bayView_eq n
  rw [hview]
  intro r b l mark
  have hqueued : entry.isSome = true ↔ s.queued n := by
    rw [hentry]; exact findEntry_isSome_iff
  obtain ⟨m0, m1, m2, m3, m4, m5, m6, m7⟩ := flagsOf_getLsbD b.occupied (s.alloc.demand.get n).isSome
    (s.alloc.pin.get n).isSome l.staged.isSome entry.isSome act.isSome rec?.isSome false
  have hmarks : (s.atService k t ⟨0x10, tag, [sel]⟩).bayMarks n = flagsOf b.occupied (s.alloc.demand.get n).isSome
      (s.alloc.pin.get n).isSome l.staged.isSome entry.isSome act.isSome rec?.isSome false := by
    rw [hentry, hact, hrec]; rfl
  have hmark (i : Nat) : mark i ↔ (flagsOf b.occupied (s.alloc.demand.get n).isSome
      (s.alloc.pin.get n).isSome l.staged.isSome entry.isSome act.isSome rec?.isSome false).getLsbD i = true := by
    rw [← hmarks]; rfl
  refine ⟨rfl, ?_, ?_, ?_, ?_, ?_, ?_, ?_, ?_, ?_, ?_, fun h => ?_, fun x h => ?_, fun h => ?_, fun a h => ?_,
    fun v h => ?_, fun h => ?_, ?_, fun h => ?_, fun x h => ?_, rfl, fun h => ?_, fun i e hi he hfirst => ?_,
    fun h => ?_, fun x h => ?_, ?_⟩
  case refine_2 => rw [hmark, m0]
  case refine_3 => rw [hmark, m1, Option.isSome_iff_ne_none]
  case refine_4 => rw [hmark, m2, Option.isSome_iff_ne_none]
  case refine_5 => rw [hmark, m3, Option.isSome_iff_ne_none]
  case refine_6 => rw [hmark, m4, hqueued]
  case refine_7 => rw [hmark, m5, Option.isSome_iff_ne_none, hact]; rfl
  case refine_8 => rw [hmark, m6, Option.isSome_iff_ne_none, hrec]; rfl
  case refine_9 => rw [hmark, m7]; exact Bool.false_ne_true
  case refine_1 =>
    show (byte1 n.val).toNat = n.val
    have hn := n.isLt
    simp only [byte1, BitVec.toNat_ofNat]
    omega
  case refine_10 =>
    show r.state.code = _
    cases r.state <;> rfl
  case refine_11 =>
    have hnone : held = none := hheld.trans h
    rw [hnone]
    exact ⟨value2_zero, value2_zero⟩
  case refine_12 =>
    have hsome : held = some x := hheld.trans h
    rw [hsome]
    exact ⟨value2_bytes _, value2_bytes _⟩
  case refine_13 =>
    refine (value2_bytes (r.age (max s.now t))).trans ?_
    simp only [SensorRec.age, h, Nat.reduceMod]
  case refine_14 =>
    refine (value2_bytes (r.age (max s.now t))).trans ?_
    simp only [SensorRec.age, h]
    exact Nat.mod_eq_of_lt (Nat.lt_of_le_of_lt (Nat.min_le_left _ _) (by decide))
  case refine_15 =>
    refine (value2_bytes (s.reportedDemand n)).trans ?_
    simp only [State.reportedDemand, h]
  case refine_16 =>
    refine (value2_bytes (s.reportedDemand n)).trans ?_
    simp only [State.reportedDemand, h, State.occupied]
    split <;> simp_all [b]
  case refine_17 => exact value2_bytes _
  case refine_18 =>
    have hnone : rec? = none := hrec.trans h
    rw [hnone]
    exact ⟨value2_zero, value2_zero, rfl, value2_zero, rfl⟩
  case refine_19 =>
    have hsome : rec? = some x := hrec.trans h
    rw [hsome]
    exact ⟨value2_bytes _, value2_bytes _, rfl, value2_bytes _, x.flags.byte_flags⟩
  case refine_20 =>
    have hnone : entry = none := by rw [← Option.not_isSome_iff_eq_none, hqueued]; exact h
    rw [hnone]
    exact ⟨rfl, value2_zero, rfl, value2_zero⟩
  case refine_21 =>
    have hsome : entry = some (i + 1, e) := by
      rw [hentry, Nat.add_comm]
      exact findEntry_of_first hi he hfirst 1
    rw [hsome]
    exact ⟨rfl, value2_bytes _, rfl, value2_bytes _⟩
  case refine_22 =>
    have hnone : act = none := hact.trans h
    rw [hnone]
    exact ⟨value2_zero, value2_zero, rfl⟩
  case refine_23 =>
    have hsome : act = some x := hact.trans h
    rw [hsome]
    exact ⟨value2_bytes _, value2_bytes _, rfl⟩
  case refine_24 => exact value2_bytes _

end Sys2Proof.Machine
end

section
/-! PROOFS. The resets: the values of every block after each of the three, and what passes while RST is asserted (R19, R37,
R58, R101, R123, R147, R159, R171, R176, R177). -/

namespace Sys2Proof.Machine

section Resets
variable {s s' : State} {t u : Nat}

theorem State.atRelease_capture (s : State) (t : Nat) (n : Bay) :
    (s.atRelease t).capture.get n = Decoder.atRelease (s.capture.get n).raw t := by simp [State.atRelease]

theorem State.atRelease_port (s : State) (t : Nat) (k : LinkId) : (s.atRelease t).port k = (s.port k).atRelease t := by
  simp [State.atRelease, State.port]

theorem State.atRelease_lines (s : State) (t : Nat) (n : Bay) : (s.atRelease t).lines.get n = Line.defaultAt t := by
  simp [State.atRelease]

theorem State.atRelease_sensors (s : State) (t : Nat) (n : Bay) : (s.atRelease t).sensors.get n = SensorRec.reset := by
  simp [State.atRelease, State.reset]

theorem State.atRelease_alert_bay (s : State) (t : Nat) (i : Fin 8) : (s.atRelease t).alert (.bay i) = AlertState.resetBay := by
  simp [State.atRelease, State.reset, State.alert, PerLink.get]

/-- A link's alerts hold nothing and mask nothing after a reset (R176). -/
theorem State.atRelease_alert (s : State) (t : Nat) (k : LinkId) :
    ((s.atRelease t).alert k).pendingCauses = Row8.const none ∧ ((s.atRelease t).alert k).mask = 0 := by
  cases k with
  | bay i => rw [State.atRelease_alert_bay]; exact ⟨rfl, rfl⟩
  | shelf => exact ⟨rfl, rfl⟩

/-- A lowSince timed from a release. -/
theorem Option.map_const_eq_ite {α β : Type} (o : Option α) (t : β) :
    (o.map fun _ => t) = if o.isSome = true then some t else none := by
  cases o <;> rfl

theorem State.atRelease_hasResetValues (s : State) (t : Nat) : (s.atRelease t).hasResetValues s t := by
  refine ⟨fun n => ?_, fun n => ?_, rfl, ?_, rfl, rfl, rfl, rfl, rfl, rfl, fun n => ?_, rfl, rfl, rfl, rfl, rfl, rfl, fun n => ?_,
    fun p => ?_, fun n => ?_, fun k => ?_, s.atRelease_alert t, fun i => ?_, rfl, rfl, rfl, rfl, rfl, rfl⟩
  · rw [State.atRelease_capture]; rfl
  · rw [State.atRelease_sensors]; exact ⟨rfl, rfl, rfl, rfl, rfl, rfl, fun _ => rfl⟩
  · simp only [State.presence, State.atRelease_sensors]; decide
  · simp [State.atRelease, State.reset, Allocator.reset]
  · simp [State.atRelease, State.reset, BurstUnit.reset]
  · simp [State.atRelease, State.reset, BurstUnit.reset]
  · rw [State.atRelease_lines]; exact ⟨rfl, rfl, rfl, rfl, rfl, rfl, rfl, rfl, rfl⟩
  · rw [State.atRelease_port]
    exact ⟨rfl, rfl, rfl, rfl, rfl, rfl, rfl, rfl, rfl, Option.map_const_eq_ite _ _⟩
  · rw [State.atRelease_alert_bay]; rfl

/-- The reset's values do not depend on the clock, before or after. -/
theorem State.hasResetValues.advance (h : s'.hasResetValues (s.advance t) u) (v : Nat) :
    (s'.advance v).hasResetValues s u := h

theorem State.hasResetValues.of_advance (h : s'.hasResetValues (s.advance t) u) : s'.hasResetValues s u := h

/-- Reset values with RST asserted again. -/
theorem State.hasResetValues.inReset (h : s'.hasResetValues s u) (b : Bool) : (s'.setInReset b).hasResetValues s u := h

theorem State.txLevel_of_inReset (h : s.inReset = true) (k : LinkId) (u : Nat) : s.txLevel k u = true := by
  simp [State.txLevel, h]

theorem State.txLevel_of_empty {k : LinkId} (h : (s.port k).tx.bytes = []) (u : Nat) : s.txLevel k u = true := by
  simp [State.txLevel, h, lineBits]

/-- The outputs while RST is asserted (R147, R159). -/
theorem State.outputs_of_inReset (h : s.inReset = true) :
    (∀ k, s.rdy k = false ∧ s.alt k = false ∧ ∀ u, s.txLevel k u = true) ∧ ∀ n, s.throttle n = false := by
  refine ⟨fun k => ⟨?_, ?_, State.txLevel_of_inReset h k⟩, fun n => ?_⟩ <;> simp [State.rdy, State.alt, State.throttle, h]

/-- The outputs after a release (R147, R159, R176). -/
theorem State.outputs_of_release (s : State) (t v : Nat) :
    (∀ k, ((s.atRelease t).advance v).rdy k = true ∧ ((s.atRelease t).advance v).alt k = false ∧
      ∀ u, ((s.atRelease t).advance v).txLevel k u = true) ∧ ∀ n, ((s.atRelease t).advance v).throttle n = true := by
  have hport (k : LinkId) : ((s.atRelease t).advance v).port k = (s.port k).atRelease t := s.atRelease_port t k
  refine ⟨fun k => ⟨?_, ?_, State.txLevel_of_empty (by rw [hport]; rfl)⟩, fun n => ?_⟩
  · rw [State.rdy, hport]; rfl
  · have hnone := (s.atRelease_alert t k).1
    show (!false && ((s.atRelease t).alert k).unmasked) = false
    simp [AlertState.unmasked, hnone]
  · show (!false && ((s.atRelease t).lines.get n).asserted) = true
    rw [State.atRelease_lines]
    rfl

theorem exec_releaseOfReset (hreset : s.inReset = true) :
    exec (.releaseOfReset t) s = .next ((s.advance t).atRelease (max s.now t)) := by
  show execReleaseOfReset t s = _
  rw [execReleaseOfReset, if_pos hreset]; rfl

theorem exec_shelfResetTaken (hreset : s.inReset = false) :
    exec (.shelfResetTaken t) s = .next ((if s.shelfResetArmed && decide ((s.port .shelf).tx.ends ≤ max s.now t)
      then s.takeShelfReset else s).advance t) := by
  show execShelfResetTaken t s = _
  rw [execShelfResetTaken, eventsUpTo_of_released _ hreset]

/-- The reset a served SHELF RESET arranged, once the clock has moved on to `t` (R171). -/
theorem State.takeShelfReset_spec (s : State) (t : Nat) :
    let s' := s.takeShelfReset.advance t
    s'.hasResetValues s (max s.now (sentBy (s.port .shelf).tx)) ∧ s'.inReset = false ∧
      (∀ k, s'.rdy k = true ∧ s'.alt k = false ∧ ∀ u, s'.txLevel k u = true) ∧ ∀ n, s'.throttle n = true := by
  rw [← Transmission.ends_sentBy]
  exact ⟨((s.advance _).atRelease_hasResetValues _).advance t, rfl, State.outputs_of_release _ _ _⟩

/-- A command that is no link's, no raw line's and no reset's waits for RST (log 7). -/
theorem exec_inReset_elsewhere {c : Instr} (hreset : s.inReset = true) (hlink : c.onLink = none)
    (hreset' : ∀ t, c ≠ .powerOnReset t ∧ c ≠ .releaseOfReset t ∧ ∀ high, c ≠ .rawDrtChange t high)
    (hedge : ∀ raw n, c ≠ .acceptedEdge raw n) : exec c s = .next (s.advance c.instant) := by
  cases c <;> cases hlink
  case powerOnReset t => exact absurd rfl (hreset' t).1
  case releaseOfReset t => exact absurd rfl (hreset' t).2.1
  case rawDrtChange t high => exact absurd rfl ((hreset' t).2.2 high)
  case acceptedEdge raw n => exact absurd rfl (hedge raw n)
  all_goals exact if_pos hreset

/-- A receive line's command but for its trace waits for RST. -/
theorem exec_inReset_line {c : Instr} {k : LinkId} (hreset : s.inReset = true) (hlink : c.onLink = some k)
    (hrequest : c.request = none) (hchar : ∀ t k changes, c ≠ .characterTaken t k changes) :
    exec c s = .next (s.advance c.instant) := by
  cases c <;> cases hlink <;> cases hrequest
  case characterTaken t changes => exact absurd rfl (hchar t k changes)
  all_goals exact if_pos hreset

end Resets

/-- Settles O3: each reset is the release's values, and every command is looked at under RST. -/
theorem resetsSetEveryBlock : Obligations.ResetsSetEveryBlock := by
  refine ⟨fun t s => ?_, fun t s hreset => ?_, fun t s hreset harmed hsent => ?_, fun t s hreset hnot => ?_, fun s hreset =>
    ⟨fun c hother hedge hchar hrequest => ?_, fun t k changes => ?_, fun c t k r hc => ?_, fun t high => ?_, fun raw n => ?_⟩⟩
  · exact ⟨_, rfl, ((s.advance t).atRelease_hasResetValues _).of_advance.inReset true, rfl, rfl,
      State.outputs_of_inReset rfl⟩
  · refine ⟨_, exec_releaseOfReset hreset, ((s.advance t).atRelease_hasResetValues _).of_advance, rfl, rfl, ?_⟩
    have houtputs := State.outputs_of_release (s.advance t) (max s.now t) 0
    rwa [State.advance_past _ (Nat.zero_le _)] at houtputs
  · have hends : (s.shelfResetArmed && decide ((s.port .shelf).tx.ends ≤ max s.now t)) = true := by
      rw [harmed, Transmission.ends_sentBy, decide_eq_true hsent]; rfl
    obtain ⟨hvalues, hout, houtputs⟩ := s.takeShelfReset_spec t
    refine ⟨_, (exec_shelfResetTaken hreset).trans (by rw [if_pos hends]), hvalues, ?_, hout, houtputs⟩
    show max (max s.now (s.port .shelf).tx.ends) t = max s.now t
    rw [Transmission.ends_sentBy]
    omega
  · rw [exec_shelfResetTaken hreset, if_neg]
    rw [Transmission.ends_sentBy, Bool.and_eq_true, decide_eq_true_eq]
    rintro ⟨harmed, hsent⟩
    obtain hnot | hnot := hnot
    · rw [hnot] at harmed; cases harmed
    · omega
  · cases hlink : c.onLink with
    | none => exact exec_inReset_elsewhere hreset hlink hother hedge
    | some k => exact exec_inReset_line hreset hlink hrequest hchar
  · refine (if_pos hreset).trans ?_
    rw [State.lineInReset, rawAfter]
    congr 3
    rcases Nat.mod_two_eq_zero_or_one changes.length with h | h <;> cases (s.port k).lowSince <;> simp [h]
  · rw [exec_of_request hc, if_pos hreset]; rfl
  · exact if_pos hreset
  · refine (if_pos hreset).trans ?_
    rw [rawAfter]
    rfl

end Sys2Proof.Machine
end

section
/-! PROOFS. PROFILE BLOCK: a block's data in the layout of Chapter 11's tables, byte for byte, is what its parser reads
(R178). -/

namespace Sys2Proof.Machine

/-! ### Bytes that stand in a list -/

/-- The bytes of `l` stand in `body` from byte `i` on. -/
def standsAt (body : List Byte) (i : Nat) (l : List Byte) : Prop := ∀ j, j < l.length → byteAt body (i + j) = byteAt l j

section Stands
variable {body l l' : List Byte} {i n v : Nat}

theorem byteAt_lt (body : List Byte) (i : Nat) : byteAt body i < 256 := (body.getD i 0).isLt

theorem byteAt_append_left (h : i < l.length) : byteAt (l ++ l') i = byteAt l i := by
  rw [byteAt, byteAt, List.getD_append _ _ _ _ h]

theorem byteAt_append_right (i : Nat) : byteAt (l ++ l') (l.length + i) = byteAt l' i := by
  rw [byteAt, byteAt, List.getD_append_right _ _ _ _ (Nat.le_add_right _ _), Nat.add_sub_cancel_left]

@[simp] theorem standsAt_nil : standsAt body i [] := nofun

theorem standsAt_append : standsAt body i (l ++ l') ↔ standsAt body i l ∧ standsAt body (i + l.length) l' := by
  constructor
  · intro h
    refine ⟨fun j hj => ?_, fun j hj => ?_⟩
    · rw [h j (by rw [List.length_append]; omega), byteAt_append_left hj]
    · rw [Nat.add_assoc, h _ (by rw [List.length_append]; omega), byteAt_append_right]
  · rintro ⟨h, h'⟩ j hj
    rw [List.length_append] at hj
    by_cases hl : j < l.length
    · rw [h j hl, byteAt_append_left hl]
    · obtain ⟨d, rfl⟩ := Nat.exists_eq_add_of_le (Nat.le_of_not_lt hl)
      rw [← Nat.add_assoc, h' d (by omega), byteAt_append_right]

theorem standsAt_singleton {b : Byte} : standsAt body i [b] ↔ byteAt body i = b.toNat :=
  ⟨fun h => h 0 Nat.zero_lt_one, fun h j hj => by
    obtain rfl : j = 0 := Nat.lt_one_iff.mp hj
    exact h⟩

theorem standsAt_cons {b : Byte} : standsAt body i (b :: l) ↔ byteAt body i = b.toNat ∧ standsAt body (i + 1) l := by
  rw [← standsAt_singleton]
  exact standsAt_append (l := [b])

theorem standsAt_byte1 : standsAt body i [byte1 v] ↔ byteAt body i = v % 256 := by
  rw [standsAt_singleton, byte1, BitVec.toNat_ofNat]

theorem standsAt_bytes2 : standsAt body i (bytes2 v) ↔ wordAt body i = v % 65536 := by
  have hhigh := byteAt_lt body i
  have hlow := byteAt_lt body (i + 1)
  rw [bytes2, standsAt_cons, standsAt_singleton, wordAt]
  simp only [byte1, BitVec.toNat_ofNat]
  omega

@[simp] theorem bytes2_length : (bytes2 v).length = 2 := rfl

/-- Entries of one width stand one after the other. -/
theorem standsAt_flatMap {α : Type} {f : α → List Byte} {w : Nat} (hw : ∀ x, (f x).length = w) {xs : List α} :
    standsAt body i (xs.flatMap f) ↔ ∀ j x, xs[j]? = some x → standsAt body (i + w * j) (f x) := by
  induction xs generalizing i with
  | nil => simp
  | cons a xs ih =>
    rw [List.flatMap_cons, standsAt_append, hw, ih]
    constructor
    · rintro ⟨hfirst, hrest⟩ j x hx
      cases j with
      | zero => cases hx; exact hfirst
      | succ j => rw [show i + w * (j + 1) = i + w + w * j by ring]; exact hrest j x hx
    · refine fun h => ⟨h 0 a rfl, fun j x hx => ?_⟩
      rw [show i + w + w * j = i + w * (j + 1) by ring]
      exact h (j + 1) x hx

/-- The bytes at one place agree, of lists of the same length. -/
theorem getElem?_eq_iff_byteAt (hlen : body.length = l.length) (hi : i < l.length) :
    body[i]? = l[i]? ↔ byteAt body i = byteAt l i := by
  rw [List.getElem?_eq_getElem hi, List.getElem?_eq_getElem (hlen ▸ hi), Option.some.injEq, byteAt, byteAt,
    List.getD_eq_getElem _ _ hi, List.getD_eq_getElem _ _ (hlen ▸ hi), BitVec.toNat_inj]

/-- Agreement up to a list's spare rest is the list's standing at the front. -/
theorem agree_iff_standsAt (hlen : body.length = (l ++ l').length) (spare : Nat → Prop)
    (hspare : ∀ i, i < (l ++ l').length → (spare i ↔ l.length ≤ i)) :
    (∀ i, ¬ spare i → body[i]? = (l ++ l')[i]?) ↔ standsAt body 0 l := by
  constructor
  · intro h j hj
    have hj' : j < (l ++ l').length := by rw [List.length_append]; omega
    have hagree := (getElem?_eq_iff_byteAt hlen hj').mp (h j (by rw [hspare j hj']; omega))
    rw [Nat.zero_add, hagree, byteAt_append_left hj]
  · intro h i hi
    by_cases hin : i < (l ++ l').length
    · have hfront : i < l.length := by rw [hspare i hin] at hi; omega
      rw [getElem?_eq_iff_byteAt hlen hin, byteAt_append_left hfront, ← h i hfront, Nat.zero_add]
    · rw [List.getElem?_eq_none (by omega), List.getElem?_eq_none (by omega)]

end Stands

/-! ### Lists of entries -/

/-- A search of `count` entries succeeds with the list of them. -/
theorem mapM_range'_eq_some {α : Type} (f : Nat → Option α) (s c : Nat) (xs : List α) :
    (List.range' s c).mapM f = some xs ↔ xs.length = c ∧ ∀ j x, xs[j]? = some x → f (s + j) = some x := by
  induction c generalizing s xs with
  | zero =>
    cases xs with
    | nil => simp [pure]
    | cons x xs => simp [pure]
  | succ c ih =>
    rw [List.range'_succ, List.mapM_cons]
    simp only [Option.bind_eq_bind, Option.bind_eq_some_iff, Option.pure_def, Option.some.injEq]
    constructor
    · rintro ⟨a, ha, as, has, rfl⟩
      obtain ⟨hlen, hrest⟩ := (ih (s + 1) as).mp has
      refine ⟨by rw [List.length_cons, hlen], fun j x hx => ?_⟩
      cases j with
      | zero => cases hx; exact ha
      | succ j => rw [← hrest j x hx, Nat.add_assoc, Nat.add_comm 1]
    · rintro ⟨hlen, h⟩
      cases xs with
      | nil => cases hlen
      | cons a as =>
        refine ⟨a, h 0 a rfl, as, (ih (s + 1) as).mpr ⟨by simpa using hlen, fun j x hx => ?_⟩, rfl⟩
        rw [← h (j + 1) x hx, Nat.add_assoc, Nat.add_comm 1]

theorem mapM_range_eq_some {α : Type} (f : Nat → Option α) (c : Nat) (xs : List α) :
    (List.range c).mapM f = some xs ↔ xs.length = c ∧ ∀ j x, xs[j]? = some x → f j = some x := by
  rw [List.range_eq_range', mapM_range'_eq_some]
  simp only [Nat.zero_add]

/-! ### The parsers -/

section Parsers
variable {body : List Byte} {i count : Nat}

theorem inRange_iff {lo hi v : Nat} : inRange lo hi v = true ↔ lo ≤ v ∧ v ≤ hi := by simp [inRange]

theorem bayOfNat_eq_some {m : Nat} {n : Bay} : bayOfNat m = some n ↔ m = n.val := by
  unfold bayOfNat
  split
  · rw [Option.some.injEq, Fin.ext_iff]
  · exact iff_of_false nofun fun h => by have := n.isLt; omega

theorem poolOfNat_eq_some {m : Nat} {p : Pool} : poolOfNat m = some p ↔ m = p.val := by
  unfold poolOfNat
  split
  · rw [Option.some.injEq, Fin.ext_iff]
  · exact iff_of_false nofun fun h => by have := p.isLt; omega

/-- The bytes of a list of bays. -/
theorem standsAt_bays {l : List Bay} :
    standsAt body i (l.map fun b => byte1 b.val) ↔ ∀ j n, l[j]? = some n → byteAt body (i + j) = n.val := by
  have hmap : (l.map fun b : Bay => byte1 b.val) = l.flatMap fun b => [byte1 b.val] := by
    rw [List.map_eq_flatMap]
  rw [hmap, standsAt_flatMap (w := 1) fun _ => rfl]
  simp only [standsAt_byte1, Nat.one_mul]
  have hmod (n : Bay) : n.val % 256 = n.val := Nat.mod_eq_of_lt (Nat.lt_trans n.isLt (by decide))
  simp only [hmod]

theorem parseBays_eq_some {l : List Bay} : parseBays body i count = some l ↔
    l.length = count ∧ l.Nodup ∧ standsAt body i (l.map fun b => byte1 b.val) := by
  have hfind (l : List Bay) : ((List.range count).mapM fun k => bayOfNat (byteAt body (i + k))) = some l ↔
      l.length = count ∧ standsAt body i (l.map fun b => byte1 b.val) := by
    simp only [mapM_range_eq_some, bayOfNat_eq_some, standsAt_bays]
  unfold parseBays
  cases hm : (List.range count).mapM fun k => bayOfNat (byteAt body (i + k)) with
  | none =>
    refine iff_of_false nofun fun ⟨hlen, _, hstands⟩ => ?_
    rw [(hfind l).mpr ⟨hlen, hstands⟩] at hm
    cases hm
  | some m =>
    obtain ⟨hlen, hstands⟩ := (hfind m).mp hm
    simp only [Option.ite_none_right_eq_some, Option.some.injEq]
    constructor
    · rintro ⟨hnodup, rfl⟩
      exact ⟨hlen, hnodup, hstands⟩
    · rintro ⟨hlen', hnodup, hstands'⟩
      have heq := hm.symm.trans ((hfind l).mpr ⟨hlen', hstands'⟩)
      cases heq
      exact ⟨hnodup, rfl⟩

end Parsers

/-! ### Block 0 -/

/-- The bytes of block 0 without the list's spare entries. -/
def ShelfBlock.front (b : ShelfBlock) : List Byte :=
  bytes2 b.format ++ bytes2 b.epochMs ++ bytes2 b.capNormal ++ bytes2 b.capDerated ++ [byte1 b.margin] ++
    [byte1 b.alertThreshold] ++ bytes2 b.staleMs ++ bytes2 b.lostMs ++ bytes2 b.stepLimit ++ bytes2 b.slotTimeUs ++
    [byte1 b.airflow.length] ++ b.airflow.map fun b => byte1 b.val

section Shelf
variable {body : List Byte} {b : ShelfBlock}

theorem ShelfBlock.bytes_eq : b.bytes = b.front ++ List.replicate (8 - b.airflow.length) 0 := by
  simp [ShelfBlock.bytes, ShelfBlock.front, bayBytes]

theorem ShelfBlock.front_length : b.front.length = 19 + b.airflow.length := by
  simp [ShelfBlock.front]
  omega

theorem ShelfBlock.front_standsAt : standsAt body 0 b.front ↔
    wordAt body 0 = b.format % 65536 ∧ wordAt body 2 = b.epochMs % 65536 ∧ wordAt body 4 = b.capNormal % 65536 ∧
    wordAt body 6 = b.capDerated % 65536 ∧ byteAt body 8 = b.margin % 256 ∧ byteAt body 9 = b.alertThreshold % 256 ∧
    wordAt body 10 = b.staleMs % 65536 ∧ wordAt body 12 = b.lostMs % 65536 ∧ wordAt body 14 = b.stepLimit % 65536 ∧
    wordAt body 16 = b.slotTimeUs % 65536 ∧ byteAt body 18 = b.airflow.length % 256 ∧
    standsAt body 19 (b.airflow.map fun b => byte1 b.val) := by
  simp only [ShelfBlock.front, standsAt_append, standsAt_bytes2, standsAt_byte1, List.length_append, bytes2_length,
    List.length_cons, List.length_nil, and_assoc, Nat.zero_add, Nat.reduceAdd]

theorem parseShelf_eq_some : parseShelf body = some b ↔ (Block.shelf b).inRanges ∧ standsAt body 0 b.front := by
  have hmargin := byteAt_lt body 8
  have hthreshold := byteAt_lt body 9
  have hcount := byteAt_lt body 18
  have hformat : wordAt body 0 < 65536 := by
    have := byteAt_lt body 0
    have := byteAt_lt body (0 + 1)
    unfold wordAt
    omega
  rw [ShelfBlock.front_standsAt, Block.inRanges, parseShelf]
  simp only [Option.ite_none_right_eq_some, Option.map_eq_some_iff, parseBays_eq_some, Bool.and_eq_true, inRange_iff]
  constructor
  · rintro ⟨hranges, order, ⟨hlen, hnodup, hstands⟩, rfl⟩
    dsimp only
    refine ⟨?_, ?_⟩
    · simp only [hnodup, and_true]; omega
    · simp only [hstands, and_true]; omega
  · rintro ⟨⟨h1, h2, h3, h4, h5, h6, h7, h8, h9, h10, h11, h12, h13, h14, h15, h16, h17, h18, hnodup⟩,
      f1, f2, f3, f4, f5, f6, f7, f8, f9, f10, f11, hstands⟩
    refine ⟨by omega, b.airflow, ⟨by omega, hnodup, hstands⟩, ?_⟩
    rw [f1, f2, f3, f4, f5, f6, f7, f8, f9, f10]
    obtain ⟨_, _, _, _, _, _, _, _, _, _, _⟩ := b
    simp only [ShelfBlock.mk.injEq, and_true]
    dsimp only at *
    omega

end Shelf

/-! ### Block 1 -/

section Bindings
variable {body : List Byte} {r : Row8 (List Bay)}

theorem sequence8_eq_some {α : Type} {f : Fin 8 → Option α} {r : Row8 α} :
    sequence8 f = some r ↔ ∀ i, f i = some (r.get i) := by
  have hall : (∀ i, f i = some (r.get i)) ↔ f 0 = some (r.get 0) ∧ f 1 = some (r.get 1) ∧ f 2 = some (r.get 2) ∧
      f 3 = some (r.get 3) ∧ f 4 = some (r.get 4) ∧ f 5 = some (r.get 5) ∧ f 6 = some (r.get 6) ∧
      f 7 = some (r.get 7) := by
    simp [Fin.forall_fin_succ]
  rw [hall]
  unfold sequence8
  split
  · next h0 h1 h2 h3 h4 h5 h6 h7 =>
    simp only [h0, h1, h2, h3, h4, h5, h6, h7, Option.some.injEq]
    obtain ⟨⟩ := r
    simp only [Row8.mk.injEq]
    rfl
  · next hnone =>
    exact iff_of_false nofun fun ⟨h0, h1, h2, h3, h4, h5, h6, h7⟩ => hnone _ _ _ _ _ _ _ _ h0 h1 h2 h3 h4 h5 h6 h7

theorem parseBinding_eq_some {k : Fin 8} {l : List Bay} : parseBinding body k = some l ↔ l.length ≤ 2 ∧ l.Nodup ∧
    standsAt body (3 * k.val) (byte1 l.length :: l.map fun b => byte1 b.val) := by
  have hcount := byteAt_lt body (3 * k.val)
  rw [parseBinding, Option.ite_none_right_eq_some, parseBays_eq_some, standsAt_cons, byte1, BitVec.toNat_ofNat]
  constructor
  · rintro ⟨hle, hlen, hnodup, hstands⟩
    exact ⟨by omega, hnodup, by omega, hstands⟩
  · rintro ⟨hle, hnodup, hlen, hstands⟩
    exact ⟨by omega, by omega, hnodup, hstands⟩

theorem parseBindings_eq_some : parseBindings body = some r ↔ (Block.bindings r).inRanges ∧
    ∀ k : Fin 8, standsAt body (3 * k.val) (byte1 (r.get k).length :: (r.get k).map fun b => byte1 b.val) := by
  rw [parseBindings, sequence8_eq_some, Block.inRanges, ← forall_and]
  exact forall_congr' fun k => parseBinding_eq_some.trans and_assoc.symm

theorem bayBytes_length {l : List Bay} {size : Nat} (h : l.length ≤ size) : (bayBytes l size).length = size := by
  simp [bayBytes, h]

theorem bindingsBytes_length (h : (Block.bindings r).inRanges) : (bindingsBytes r).length = 24 := by
  have hentry (k : Fin 8) : (byte1 (r.get k).length :: bayBytes (r.get k) 2).length = 3 := by
    rw [List.length_cons, bayBytes_length (h k).1]
  simp only [bindingsBytes, List.length_flatMap, hentry]
  rfl

/-- Byte `j` of the three of link `k`. -/
theorem byteAt_bindingsBytes (h : (Block.bindings r).inRanges) (k : Fin 8) {j : Nat} (hj : j < 3) :
    byteAt (bindingsBytes r) (3 * k.val + j) = byteAt (byte1 (r.get k).length :: bayBytes (r.get k) 2) j := by
  have hk : numbers8[k.val]? = some k := by revert k; decide
  rw [byteAt, byteAt, bindingsBytes, getD_flatMap (w := 3) (fun k => ?_) hk hj]
  rw [List.length_cons, bayBytes_length (h k).1]

theorem bindings_spare_iff (k : Fin 8) {j : Nat} (hj : j < 3) :
    (Block.bindings r).spare (3 * k.val + j) ↔ 1 + (r.get k).length ≤ j := by
  constructor
  · rintro ⟨k', j', hle, hlt, heq⟩
    obtain rfl : k = k' := Fin.ext (by omega)
    omega
  · exact fun hle => ⟨k, j - 1, by omega, by omega, by omega⟩

theorem bindings_agree (h : (Block.bindings r).inRanges) (hlen : body.length = 24) :
    (∀ i, ¬ (Block.bindings r).spare i → body[i]? = (bindingsBytes r)[i]?) ↔
    ∀ k : Fin 8, standsAt body (3 * k.val) (byte1 (r.get k).length :: (r.get k).map fun b => byte1 b.val) := by
  have hlen' : body.length = (bindingsBytes r).length := by rw [hlen, bindingsBytes_length h]
  have hfront (k : Fin 8) {j : Nat} (hj : j < 1 + (r.get k).length) : byteAt (bindingsBytes r) (3 * k.val + j) =
      byteAt (byte1 (r.get k).length :: (r.get k).map fun b => byte1 b.val) j := by
    have hk := (h k).1
    rw [byteAt_bindingsBytes h k (by omega), bayBytes, ← List.cons_append,
      byteAt_append_left (by rw [List.length_cons, List.length_map]; omega)]
  constructor
  · intro hagree k j hj
    rw [List.length_cons, List.length_map] at hj
    have hk := (h k).1
    have hk8 := k.isLt
    rw [← hfront k (by omega)]
    exact (getElem?_eq_iff_byteAt hlen' (by omega)).mp
      (hagree _ (by rw [bindings_spare_iff k (by omega)]; omega))
  · intro hstands i hi
    by_cases hin : i < 24
    · obtain ⟨k, j, hj, rfl⟩ : ∃ (k : Fin 8) (j : Nat), j < 3 ∧ i = 3 * k.val + j :=
        ⟨⟨i / 3, by omega⟩, i % 3, Nat.mod_lt _ (by decide), (Nat.div_add_mod i 3).symm⟩
      rw [bindings_spare_iff k hj] at hi
      rw [getElem?_eq_iff_byteAt hlen' (by omega), hfront k (by omega)]
      exact hstands k j (by rw [List.length_cons, List.length_map]; omega)
    · rw [List.getElem?_eq_none (by omega), List.getElem?_eq_none (by omega)]

end Bindings

/-! ### Blocks 2 to 9 -/

section Bays
variable {body : List Byte} {b : BayBlock} {n : Bay}

theorem BayBlock.bytes_standsAt : standsAt body 0 b.bytes ↔
    byteAt body 0 = (if b.occupied then 1#8 else 0#8).toNat ∧ wordAt body 1 = b.floor % 65536 ∧
    wordAt body 3 = b.idle % 65536 ∧ wordAt body 5 = b.peak % 65536 ∧ wordAt body 7 = b.fallback % 65536 ∧
    wordAt body 9 = b.limit % 65536 ∧ wordAt body 11 = b.selfGain % 65536 ∧ byteAt body 13 = b.pool.val % 256 ∧
    byteAt body 14 = b.len % 256 ∧ byteAt body 15 = b.countMin % 256 ∧ byteAt body 16 = b.countDerate % 256 ∧
    byteAt body 17 = b.countFallback % 256 ∧ byteAt body 18 = b.phi % 256 := by
  have hlast : [byte1 b.pool.val, byte1 b.len, byte1 b.countMin, byte1 b.countDerate, byte1 b.countFallback, byte1 b.phi] =
      [byte1 b.pool.val] ++ ([byte1 b.len] ++ ([byte1 b.countMin] ++ ([byte1 b.countDerate] ++
        ([byte1 b.countFallback] ++ [byte1 b.phi])))) := rfl
  rw [BayBlock.bytes, hlast]
  simp only [standsAt_append, standsAt_bytes2, standsAt_byte1, standsAt_singleton (b := if _ then _ else _),
    List.length_append, bytes2_length, List.length_cons, List.length_nil, and_assoc, Nat.zero_add, Nat.reduceAdd]
  rfl

theorem BayBlock.bytes_length : b.bytes.length = 19 := rfl

theorem parseBay_eq_some : parseBay body = some b ↔ (Block.bay n b).inRanges ∧ standsAt body 0 b.bytes := by
  have hpool (p : Pool) : p.val < 4 := p.isLt
  rw [BayBlock.bytes_standsAt, Block.inRanges, parseBay]
  simp only [Option.ite_none_right_eq_some, Option.map_eq_some_iff, poolOfNat_eq_some, Bool.and_eq_true, inRange_iff]
  constructor
  · rintro ⟨hranges, pool, hp, rfl⟩
    have hpool := hpool pool
    dsimp only
    refine ⟨by omega, ?_, by omega⟩
    obtain hocc | hocc : byteAt body 0 = 0 ∨ byteAt body 0 = 1 := by omega
    all_goals rw [hocc]; rfl
  · rintro ⟨hranges, hocc, f1, f2, f3, f4, f5, f6, f7, f8, f9, f10, f11, f12⟩
    have hpool := hpool b.pool
    have hocc' : byteAt body 0 ≤ 1 ∧ (byteAt body 0 == 1) = b.occupied := by
      rw [hocc]; cases b.occupied <;> decide
    refine ⟨by omega, b.pool, by omega, ?_⟩
    rw [hocc'.2, f1, f2, f3, f4, f5, f6, f8, f9, f10, f11, f12]
    obtain ⟨_, _, _, _, _, _, _, _, _, _, _, _, _⟩ := b
    simp only [BayBlock.mk.injEq, true_and]
    dsimp only at *
    omega

end Bays

/-! ### Block 10 -/

/-- The bytes of one coupling. -/
def Coupling.bytes (e : Coupling) : List Byte := byte1 e.down.val :: byte1 e.up.val :: bytes2 e.strength

/-- The bytes of block 10 without the list's spare entries. -/
def couplingsFront (l : List Coupling) : List Byte := byte1 l.length :: l.flatMap Coupling.bytes

section Couplings
variable {body : List Byte} {l : List Coupling}

theorem couplingsBytes_eq : couplingsBytes l = couplingsFront l ++ List.replicate (64 - 4 * l.length) 0 := rfl

theorem couplingsFront_length : (couplingsFront l).length = 1 + 4 * l.length := by
  have hsum : (l.map fun _ => 4).sum = 4 * l.length := by simp [Nat.mul_comm]
  rw [couplingsFront, List.length_cons, List.length_flatMap]
  exact (congrArg (· + 1) hsum).trans (Nat.add_comm _ _)

theorem parseCoupling_eq_some {j : Nat} {e : Coupling} : parseCoupling body j = some e ↔
    (1 ≤ e.strength ∧ e.strength ≤ 1023) ∧ standsAt body (1 + 4 * j) e.bytes := by
  have hdown := e.down.isLt
  have hup := e.up.isLt
  rw [Coupling.bytes, standsAt_cons, standsAt_cons, standsAt_bytes2, byte1, byte1, BitVec.toNat_ofNat, BitVec.toNat_ofNat,
    Nat.add_comm 1, Nat.add_assoc, Nat.add_assoc, parseCoupling]
  simp only [Nat.reduceAdd]
  split
  · next down up hdown' hup' =>
    rw [bayOfNat_eq_some] at hdown' hup'
    simp only [Option.ite_none_right_eq_some, inRange_iff, Option.some.injEq]
    constructor
    · rintro ⟨hrange, rfl⟩
      dsimp only at *
      omega
    · rintro ⟨hrange, h1, h2, h3⟩
      obtain ⟨edown, eup, estrength⟩ := e
      simp only [Coupling.mk.injEq, Fin.ext_iff]
      dsimp only at *
      omega
  · next hnone =>
    refine iff_of_false nofun fun ⟨_, h1, h2, _⟩ => ?_
    exact hnone _ _ (bayOfNat_eq_some.mpr (h1.trans (Nat.mod_eq_of_lt (by omega))))
      (bayOfNat_eq_some.mpr (h2.trans (Nat.mod_eq_of_lt (by omega))))

theorem parseCouplings_eq_some : parseCouplings body = some l ↔
    (Block.coupling l).inRanges ∧ standsAt body 0 (couplingsFront l) := by
  have hcount := byteAt_lt body 0
  rw [parseCouplings, Option.ite_none_right_eq_some, mapM_range_eq_some, couplingsFront, standsAt_cons,
    standsAt_flatMap (w := 4) fun _ => rfl, byte1, BitVec.toNat_ofNat, Block.inRanges]
  simp only [parseCoupling_eq_some, Nat.zero_add]
  have hrange : (∀ e ∈ l, 1 ≤ e.strength ∧ e.strength ≤ 1023) ↔
      ∀ (j : Nat) e, l[j]? = some e → 1 ≤ e.strength ∧ e.strength ≤ 1023 := by
    simp only [List.mem_iff_getElem?]
    exact ⟨fun h j e he => h e ⟨j, he⟩, fun h e ⟨j, he⟩ => h j e he⟩
  rw [hrange]
  constructor
  · rintro ⟨hle, hlen, h⟩
    exact ⟨⟨by omega, fun j e he => (h j e he).1⟩, by omega, fun j e he => (h j e he).2⟩
  · rintro ⟨⟨hle, hranges⟩, hlen, h⟩
    exact ⟨by omega, by omega, fun j e he => ⟨hranges j e he, h j e he⟩⟩

end Couplings

/-! ### Block 11 -/

section Pools
variable {body : List Byte} {r : Row4 PoolBlock}

theorem parsePool_eq_some {p : Pool} {x : PoolBlock} : parsePool body p = some x ↔
    (x.reserve ≤ 8191 ∧ x.extra ≤ 8191) ∧ wordAt body (4 * p.val) = x.reserve % 65536 ∧
      wordAt body (4 * p.val + 2) = x.extra % 65536 := by
  obtain ⟨reserve, extra⟩ := x
  simp only [parsePool, Option.ite_none_right_eq_some, Bool.and_eq_true, inRange_iff, Option.some.injEq, PoolBlock.mk.injEq]
  omega

theorem poolsBytes_standsAt : standsAt body 0 (poolsBytes r) ↔
    ∀ p : Pool, wordAt body (4 * p.val) = (r.get p).reserve % 65536 ∧
      wordAt body (4 * p.val + 2) = (r.get p).extra % 65536 := by
  rw [poolsBytes, standsAt_flatMap (w := 4) fun _ => rfl]
  simp only [standsAt_append, standsAt_bytes2, bytes2_length, Nat.zero_add]
  constructor
  · exact fun h p => h p.val p (by revert p; decide)
  · intro h j p hp
    have hj : j = p.val := by
      rcases j with _ | _ | _ | _ | j <;> simp at hp <;> subst hp <;> rfl
    rw [hj]
    exact h p

theorem parsePools_eq_some : parsePools body = some r ↔ (Block.pools r).inRanges ∧ standsAt body 0 (poolsBytes r) := by
  have hall : parsePools body = some r ↔ ∀ p, parsePool body p = some (r.get p) := by
    have hfour : (∀ p, parsePool body p = some (r.get p)) ↔ parsePool body 0 = some (r.get 0) ∧
        parsePool body 1 = some (r.get 1) ∧ parsePool body 2 = some (r.get 2) ∧ parsePool body 3 = some (r.get 3) := by
      simp [Fin.forall_fin_succ]
    rw [hfour]
    unfold parsePools
    split
    · next h0 h1 h2 h3 =>
      simp only [h0, h1, h2, h3, Option.some.injEq]
      obtain ⟨⟩ := r
      simp only [Row4.mk.injEq]
      rfl
    · next hnone => exact iff_of_false nofun fun ⟨h0, h1, h2, h3⟩ => hnone _ _ _ _ h0 h1 h2 h3
  rw [hall, poolsBytes_standsAt, Block.inRanges, ← forall_and]
  exact forall_congr' fun p => parsePool_eq_some

end Pools

/-! ### Every block -/

section Blocks
variable {body : List Byte} {b : Block} {m : Nat}

theorem Block.bytes_length (h : b.inRanges) : blockSize b.number = some b.bytes.length := by
  cases b with
  | shelf x =>
    have hlen : (Block.shelf x).bytes.length = 27 := by
      obtain ⟨-, -, -, -, -, -, -, -, -, -, -, -, -, -, -, -, -, hle, -⟩ := h
      show x.bytes.length = 27
      rw [ShelfBlock.bytes_eq, List.length_append, ShelfBlock.front_length, List.length_replicate]
      omega
    rw [hlen]; rfl
  | bindings r => exact congrArg some (bindingsBytes_length h).symm
  | bay n x =>
    have hn := n.isLt
    rw [Block.number, blockSize, if_neg (by omega), if_neg (by omega), if_pos (by omega)]
    rfl
  | coupling l =>
    have hlen : (Block.coupling l).bytes.length = 65 := by
      have hle := h.1
      show (couplingsBytes l).length = 65
      rw [couplingsBytes_eq, List.length_append, couplingsFront_length, List.length_replicate]
      omega
    rw [hlen]; rfl
  | pools r => rfl

/-- What parses as a block of a kind is that kind's number and its own parser's. -/
theorem parseBlock_eq_some : parseBlock m body = some b ↔ m = b.number ∧
    match b with
    | .shelf x => parseShelf body = some x
    | .bindings r => parseBindings body = some r
    | .bay _ x => parseBay body = some x
    | .coupling l => parseCouplings body = some l
    | .pools r => parsePools body = some r := by
  unfold parseBlock Block.number
  by_cases hbay : 2 ≤ m ∧ m ≤ 9
  · obtain ⟨n, hn⟩ : ∃ n, bayOfNat (m - 2) = some n := ⟨⟨m - 2, by omega⟩, bayOfNat_eq_some.mpr rfl⟩
    have hnum := bayOfNat_eq_some.mp hn
    rw [if_neg (by omega), if_neg (by omega), if_pos hbay.2, hn]
    cases b <;> simp only [Option.map_eq_some_iff, reduceCtorEq, and_false, exists_false, Block.bay.injEq, false_iff, not_and]
    case bay k x =>
      have hk : m = k.val + 2 ↔ n = k := by rw [Fin.ext_iff]; omega
      rw [hk]
      exact ⟨fun ⟨_, hx, hn, he⟩ => ⟨hn, he ▸ hx⟩, fun ⟨hn, hx⟩ => ⟨_, hx, hn, rfl⟩⟩
    all_goals exact fun h => by omega
  · split_ifs with h0 h1 h9 h10 h11
    · subst h0; cases b <;> simp
    · subst h1; cases b <;> simp
    · omega
    · subst h10; cases b <;> simp; omega
    · subst h11; cases b <;> simp; omega
    · cases b <;> simp <;> omega

/-- A block's parser reads exactly the data that stands for it. -/
theorem parse_iff_readFrom (hsize : blockSize b.number = some body.length) : parseBlock b.number body = some b ↔
    b.inRanges ∧ b.readFrom body := by
  rw [parseBlock_eq_some, eq_self_iff_true, true_and]
  have hlen (h : b.inRanges) : body.length = b.bytes.length :=
    Option.some.inj (hsize.symm.trans (Block.bytes_length h))
  cases b with
  | shelf x =>
    refine parseShelf_eq_some.trans (and_congr_right fun h => ?_)
    have hlength := hlen h
    have hbytes : (Block.shelf x).bytes = x.front ++ List.replicate (8 - x.airflow.length) 0 := ShelfBlock.bytes_eq
    rw [Block.readFrom, hlength, hbytes, eq_self_iff_true, true_and, agree_iff_standsAt (hbytes ▸ hlength)]
    exact fun i _ => by rw [ShelfBlock.front_length]; rfl
  | bindings r =>
    refine parseBindings_eq_some.trans (and_congr_right fun h => ?_)
    rw [Block.readFrom, hlen h, eq_self_iff_true, true_and]
    exact (bindings_agree h ((hlen h).trans (bindingsBytes_length h))).symm
  | bay n x =>
    refine parseBay_eq_some.trans (and_congr_right fun h => ?_)
    have hbytes : (Block.bay n x).bytes = x.bytes ++ [] := (List.append_nil _).symm
    rw [Block.readFrom, hlen h, hbytes, eq_self_iff_true, true_and, agree_iff_standsAt (hbytes ▸ hlen h)]
    exact fun i hi => iff_of_false not_false (by rw [List.append_nil] at hi; omega)
  | coupling l =>
    refine parseCouplings_eq_some.trans (and_congr_right fun h => ?_)
    have hbytes : (Block.coupling l).bytes = couplingsFront l ++ List.replicate (64 - 4 * l.length) 0 := couplingsBytes_eq
    rw [Block.readFrom, hlen h, hbytes, eq_self_iff_true, true_and, agree_iff_standsAt (hbytes ▸ hlen h)]
    exact fun i _ => by rw [couplingsFront_length]; rfl
  | pools r =>
    refine parsePools_eq_some.trans (and_congr_right fun h => ?_)
    have hbytes : (Block.pools r).bytes = poolsBytes r ++ [] := (List.append_nil _).symm
    rw [Block.readFrom, hlen h, hbytes, eq_self_iff_true, true_and, agree_iff_standsAt (hbytes ▸ hlen h)]
    exact fun i hi => iff_of_false not_false (by rw [List.append_nil] at hi; omega)

/-- A body of the right size that parses as a block is that block's data, and a block's data parses as it. -/
theorem spells_iff_parses : (b.inRanges ∧ m = b.number ∧ b.readFrom body) ↔
    blockSize m = some body.length ∧ parseBlock m body = some b := by
  constructor
  · rintro ⟨hranges, rfl, hread⟩
    have hsize : blockSize b.number = some body.length := by rw [hread.1]; exact Block.bytes_length hranges
    exact ⟨hsize, (parse_iff_readFrom hsize).mpr ⟨hranges, hread⟩⟩
  · rintro ⟨hsize, hparse⟩
    obtain rfl := (parseBlock_eq_some.mp hparse).1
    obtain ⟨hranges, hread⟩ := (parse_iff_readFrom hsize).mp hparse
    exact ⟨hranges, rfl, hread⟩

end Blocks

/-! ### The request (R178) -/

section ProfileBlockRequest
variable {s : State} {t : Nat} {tag block : Byte} {body : List Byte}

theorem serveProfileBlock_of_parsed {n : Nat} {b : Block} (hsize : blockSize n = some body.length)
    (hparse : parseBlock n body = some b) : serveProfileBlock s n body =
      ⟨s.setStore { s.store with staging := s.store.staging.setBlock b, written := s.store.written ||| (1#12 <<< n) },
        .ok, [byte1 n]⟩ := by
  rw [serveProfileBlock, if_pos hsize, hparse]

theorem serveProfileBlock_of_bad {n : Nat} (h : blockSize n = some body.length → parseBlock n body = none) :
    serveProfileBlock s n body = refuse s .param := by
  unfold serveProfileBlock
  split
  · next hsize => rw [h hsize]
  · rfl

theorem exec_profileBlock_access {i : Fin 8} (hidle : s.linkIdle (.bay i) (body.length + 1) t) (hbody : body.length ≤ 69) :
    exec (.profileBlock t (.bay i) tag block body) s =
      .next (s.replied t (.bay i) ⟨0x40, tag, block :: body⟩ .access []) :=
  requestEvent_access .profileBlock (params := block :: body) hidle (by rw [List.length_cons]; omega) rfl

theorem exec_profileBlock_of_service {a : Answer} (hidle : s.linkIdle .shelf (body.length + 1) t) (hbody : body.length ≤ 69)
    (hservice : ∀ k r, serveProfileBlock (s.atService k t r) block.toNat body = a.atService k t r)
    (hport : a.state.port .shelf = s.port .shelf) : exec (.profileBlock t .shelf tag block body) s =
      .next (a.state.replied t .shelf ⟨0x40, tag, block :: body⟩ a.status a.data) :=
  requestEvent_served .profileBlock (params := block :: body) hidle (by rw [List.length_cons]; omega) (.inl rfl) (.inl rfl)
    (by rw [dispatch_profileBlock, hservice]) hport

theorem exec_profileBlock_of_parsed {b : Block} (hidle : s.linkIdle .shelf (body.length + 1) t) (hbody : body.length ≤ 69)
    (hsize : blockSize block.toNat = some body.length) (hparse : parseBlock block.toNat body = some b) :
    exec (.profileBlock t .shelf tag block body) s = .next ((s.setStore
      { s.store with
        staging := s.store.staging.setBlock b
        written := s.store.written ||| (1#12 <<< block.toNat) }).replied t .shelf ⟨0x40, tag, block :: body⟩ .ok [block]) := by
  refine exec_profileBlock_of_service hidle hbody (a := ⟨_, .ok, [block]⟩) (fun k r => ?_) rfl
  have hbyte : byte1 block.toNat = block := BitVec.eq_of_toNat_eq (Nat.mod_eq_of_lt block.isLt)
  rw [serveProfileBlock_of_parsed hsize hparse, hbyte]
  rfl

theorem exec_profileBlock_of_bad (hidle : s.linkIdle .shelf (body.length + 1) t) (hbody : body.length ≤ 69)
    (hbad : blockSize block.toNat = some body.length → parseBlock block.toNat body = none) :
    exec (.profileBlock t .shelf tag block body) s =
      .next (s.replied t .shelf ⟨0x40, tag, block :: body⟩ .param []) :=
  exec_profileBlock_of_service hidle hbody (a := refuse s .param)
    (fun _ _ => serveProfileBlock_of_bad hbad) rfl

end ProfileBlockRequest

/-- Settles O41: the parser and the tables' layout agree byte for byte. -/
theorem profileBlocksAreStagedWhole : Obligations.ProfileBlocksAreStagedWhole := by
  intro t tag block body s hbody r staged spells
  refine ⟨fun i hidle => exec_profileBlock_access hidle hbody, fun hidle => ⟨fun b hb => ?_, fun hnone => ?_, fun hbad => ?_⟩⟩
  · obtain ⟨hsize, hparse⟩ := spells_iff_parses.mp hb
    rw [exec_profileBlock_of_parsed hidle hbody hsize hparse, hb.2.1]
  · refine exec_profileBlock_of_bad hidle hbody fun hsize => Option.eq_none_iff_forall_not_mem.mpr fun b hb => ?_
    exact hnone b (spells_iff_parses.mpr ⟨hsize, hb⟩)
  · refine exec_profileBlock_of_bad hidle hbody fun hsize => ?_
    obtain habove | hne := hbad
    · have hnone := Option.isNone_iff_eq_none.mp (blockSize_isNone_iff.mpr habove)
      rw [hnone] at hsize
      cases hsize
    · exact absurd hsize hne

end Sys2Proof.Machine
end

section
/-! PROOFS. What raisings leave pending, cause by cause: the layer under the alerts of a completion, a boundary and an
install (R53, R120, R172). -/

namespace Sys2Proof.Machine

/-! ### Raisings on one cause -/

section Raised
variable (held : Option Raised) (v w : Flags8) (r : BitVec 2)

theorem raisedWith_zero : raisedWith held 0 r = held := if_pos rfl

theorem raisedWith_of_ne {v : Flags8} (h : v ≠ 0) : raisedWith held v r = some (Raised.merge held v r) := by
  cases held <;> exact if_neg h

/-- A raising with the empty vector makes the cause pending. -/
theorem merge_zero : some (Raised.merge held 0 0) = raisedEmpty held true := by
  cases held with
  | none => rfl
  | some x => simp [Raised.merge, raisedEmpty]

theorem raisedEmpty_false : raisedEmpty held false = held := rfl

/-- Two raisings with the same reasons are one with both vectors. -/
theorem raisedWith_or : raisedWith (raisedWith held v r) w r = raisedWith held (v ||| w) r := by
  by_cases hv : v = 0
  · rw [hv, raisedWith_zero, show (0 : Flags8) ||| w = w from BitVec.zero_or]
  · by_cases hw : w = 0
    · rw [hw, raisedWith_zero, show v ||| (0 : Flags8) = v from BitVec.or_zero]
    · have hvw : v ||| w ≠ 0 := fun h => hv (BitVec.or_eq_zero_iff.mp h).1
      rw [raisedWith_of_ne _ _ hv, raisedWith_of_ne _ _ hw, raisedWith_of_ne _ _ hvw]
      cases held with
      | none => simp [Raised.merge]
      | some x => simp only [Raised.merge, BitVec.or_assoc, BitVec.or_self]

end Raised

/-! ### Selectors (R160) -/

section Selectors
variable (b : Row8 (List Bay)) (i : Fin 8) (n : Bay) (l : List Bay)

theorem flagsOf_or (a b c d : Bool) : flagsOf (a || c) (b || d) false false false false false false =
    flagsOf a b false false false false false false ||| flagsOf c d false false false false false false := by
  revert a b c d
  decide

theorem selectorsOf_nil : selectorsOf b i [] = 0 := by
  simp only [selectorsOf, List.any_nil]
  decide

theorem selectorsOf_cons : selectorsOf b i (n :: l) = selectorsOf b i [n] ||| selectorsOf b i l := by
  simp only [selectorsOf, List.any_cons, List.any_nil, Bool.or_false]
  exact flagsOf_or _ _ _ _

/-- One bay's selector: the flag its link has for it, and nothing at any other link. -/
theorem selectorsOf_singleton_of_some {j : Fin 8} {sel : Fin 2} (h : servingLink b n = some (j, sel)) :
    selectorsOf b i [n] = if j = i then 1#8 <<< sel.val else 0 := by
  simp only [selectorsOf, List.any_cons, List.any_nil, Bool.or_false, h]
  have hbeq (x : Fin 2) : (some (j, sel) == some (i, x)) = (decide (j = i) && decide (sel = x)) := by
    rw [Bool.eq_iff_iff]
    simp
  rw [hbeq, hbeq]
  by_cases hj : j = i
  · rw [decide_eq_true hj, if_pos hj]
    clear h hbeq
    revert sel
    decide
  · rw [decide_eq_false hj, if_neg hj, Bool.false_and, Bool.false_and]
    decide

theorem selectorsOf_singleton_of_none (h : servingLink b n = none) : selectorsOf b i [n] = 0 := by
  simp only [selectorsOf, List.any_cons, List.any_nil, Bool.or_false, h]
  have hbeq (x : Fin 2) : (none == some (i, x)) = false := rfl
  rw [hbeq, hbeq]
  decide

theorem selectorFlag_ne_zero (sel : Fin 2) : 1#8 <<< sel.val ≠ 0 := by
  revert sel
  decide

end Selectors

/-! ### Raisings on a state -/

section Raising
variable (s : State)

@[simp] theorem State.raiseServing_alert_shelf (b : Row8 (List Bay)) (n : Bay) (c : BayCause) (r : BitVec 2) :
    (s.raiseServing b n c r).alert .shelf = s.alert .shelf := by
  rw [State.raiseServing_alert]
  split <;> simp

@[simp] theorem State.raiseServing_alert_mask (b : Row8 (List Bay)) (n : Bay) (c : BayCause) (r : BitVec 2) (k : LinkId) :
    ((s.raiseServing b n c r).alert k).mask = (s.alert k).mask := by
  rw [State.raiseServing_alert]
  split
  · split
    · next hk => subst hk; rfl
    · rfl
  · rfl

@[simp] theorem State.raiseServing_alert_groups (b : Row8 (List Bay)) (n : Bay) (c : BayCause) (r : BitVec 2) (k : LinkId) :
    ((s.raiseServing b n c r).alert k).groups = (s.alert k).groups := by
  rw [State.raiseServing_alert]
  split
  · split
    · next hk => subst hk; rfl
    · rfl
  · rfl

theorem State.raiseServing_pendingCauses (b : Row8 (List Bay)) (n : Bay) (c : BayCause) (r : BitVec 2) (i d : Fin 8) :
    ((s.raiseServing b n c r).alert (.bay i)).pendingCauses.get d =
      if d = c.number then raisedWith ((s.alert (.bay i)).pendingCauses.get d) (selectorsOf b i [n]) r
      else (s.alert (.bay i)).pendingCauses.get d := by
  rw [State.raiseServing_alert]
  split
  · next j sel hserving =>
    rw [selectorsOf_singleton_of_some b i n hserving]
    simp only [LinkId.bay.injEq]
    by_cases hj : j = i
    · subst hj
      rw [if_pos rfl, if_pos rfl, AlertState.raise_pending, raisedWith_of_ne _ _ (selectorFlag_ne_zero sel)]
      split
      · next hd => rw [hd]
      · rfl
    · rw [if_neg (Ne.symm hj), if_neg hj, raisedWith_zero, ite_self]
  · next hserving => rw [selectorsOf_singleton_of_none b i n hserving, raisedWith_zero, ite_self]

@[simp] theorem State.raiseEach_alert_shelf (b : Row8 (List Bay)) (l : List Bay) (c : BayCause) (r : BitVec 2) :
    (s.raiseEach b l c r).alert .shelf = s.alert .shelf := by
  induction l generalizing s with
  | nil => rfl
  | cons n l ih => rw [State.raiseEach_cons, ih, State.raiseServing_alert_shelf]

@[simp] theorem State.raiseEach_alert_mask (b : Row8 (List Bay)) (l : List Bay) (c : BayCause) (r : BitVec 2) (k : LinkId) :
    ((s.raiseEach b l c r).alert k).mask = (s.alert k).mask := by
  induction l generalizing s with
  | nil => rfl
  | cons n l ih => rw [State.raiseEach_cons, ih, State.raiseServing_alert_mask]

@[simp] theorem State.raiseEach_alert_groups (b : Row8 (List Bay)) (l : List Bay) (c : BayCause) (r : BitVec 2) (k : LinkId) :
    ((s.raiseEach b l c r).alert k).groups = (s.alert k).groups := by
  induction l generalizing s with
  | nil => rfl
  | cons n l ih => rw [State.raiseEach_cons, ih, State.raiseServing_alert_groups]

/-- One cause raised for the bays of a list stands at each bay link for its selectors of the list. -/
theorem State.raiseEach_pendingCauses (b : Row8 (List Bay)) (l : List Bay) (c : BayCause) (r : BitVec 2) (i d : Fin 8) :
    ((s.raiseEach b l c r).alert (.bay i)).pendingCauses.get d =
      if d = c.number then raisedWith ((s.alert (.bay i)).pendingCauses.get d) (selectorsOf b i l) r
      else (s.alert (.bay i)).pendingCauses.get d := by
  induction l generalizing s with
  | nil => rw [State.raiseEach_nil, selectorsOf_nil, raisedWith_zero, ite_self]
  | cons n l ih =>
    rw [State.raiseEach_cons, ih, State.raiseServing_pendingCauses, selectorsOf_cons b i n l]
    split
    · rw [raisedWith_or]
    · rfl

@[simp] theorem State.raiseShelf_alert_bay (c : ShelfCause) (v : Flags8) (i : Fin 8) :
    (s.raiseShelf c v).alert (.bay i) = s.alert (.bay i) := by simp

@[simp] theorem State.raiseShelf_alert_mask (c : ShelfCause) (v : Flags8) (k : LinkId) :
    ((s.raiseShelf c v).alert k).mask = (s.alert k).mask := by
  rw [State.raiseShelf_alert]
  split
  · next hk => subst hk; rfl
  · rfl

@[simp] theorem State.raiseShelf_alert_groups (c : ShelfCause) (v : Flags8) (k : LinkId) :
    ((s.raiseShelf c v).alert k).groups = (s.alert k).groups := by
  rw [State.raiseShelf_alert]
  split
  · next hk => subst hk; rfl
  · rfl

theorem State.raiseShelf_pendingCauses_empty (c : ShelfCause) (d : Fin 8) :
    ((s.raiseShelf c 0).alert .shelf).pendingCauses.get d =
      raisedEmpty ((s.alert .shelf).pendingCauses.get d) (d == c.number) := by
  rw [State.raiseShelf_alert, if_pos rfl, AlertState.raise_pending]
  by_cases hd : d = c.number
  · rw [if_pos hd, hd, beq_self_eq_true, merge_zero]
  · rw [if_neg hd, beq_false_of_ne hd, raisedEmpty_false]

theorem State.raiseShelf_pendingCauses {v : Flags8} (hv : v ≠ 0) (c : ShelfCause) (d : Fin 8) :
    ((s.raiseShelf c v).alert .shelf).pendingCauses.get d =
      if d = c.number then raisedWith ((s.alert .shelf).pendingCauses.get d) v 0
      else (s.alert .shelf).pendingCauses.get d := by
  rw [State.raiseShelf_alert, if_pos rfl, AlertState.raise_pending]
  by_cases hd : d = c.number
  · rw [if_pos hd, if_pos hd, hd, raisedWith_of_ne _ _ hv]
  · rw [if_neg hd, if_neg hd]

end Raising

end Sys2Proof.Machine
end

section
/-! PROOFS. COMPLETION: the published allocation, the staged counts and the alerts (R51 to R54, R134, R141). -/

namespace Sys2Proof.Machine

section Completion
variable (s : State) (x : Snapshot)

theorem exec_completion {s : State} {x : Snapshot} {t : Nat} (hreset : s.inReset = false) (hflight : s.alloc.flight = some x) :
    exec (.completion t) s = .next ((s.advance t).complete x) := by
  show execCompletion t s = _
  have hflight' : (s.advance t).alloc.flight = some x := hflight
  rw [execCompletion, event_of_released _ hreset, State.completeFlight, hflight']

/-- A line at a completion: its count is staged, the least one under a hold, and a reassessed hold is released (R134, R141). -/
theorem Line.stage_of_profile {l : Line} (h : l.mode = .profile) (count countMin : Nat) (derated : Bool) :
    l.stage count countMin derated = { l with
      staged := some ⟨if l.hold = .held then countMin else count, derated⟩
      hold := if l.hold = .reassessing then .releasing else l.hold } := by
  simp only [Line.stage, h]
  cases l.hold <;> rfl

theorem Line.stage_of_default {l : Line} (h : l.mode = .default) (count countMin : Nat) (derated : Bool) :
    l.stage count countMin derated = l := by
  simp only [Line.stage, h]

theorem State.complete_lines (n : Bay) : (s.complete x).lines.get n =
    if (x.profile.bays.get n).occupied = true then
      (s.lines.get n).stage (countOf (x.profile.bays.get n) (x.grant n)) (x.profile.bays.get n).countMin x.derated
    else s.lines.get n := by
  simp [State.complete, State.stageCounts]
  rfl

theorem State.complete_alloc : (s.complete x).alloc = s.alloc.publish x := by simp [State.complete]

/-- THERMAL's bays (R53). -/
theorem thermalRaised_record (before : Option EpochRecord) (n : Bay) :
    thermalRaised before (x.record n) = ((x.profile.bays.get n).occupied && x.deficit n &&
      match before with
      | some old => !old.flags.deficit
      | none => true) := by
  have hnow : hasDeficit (x.record n) = ((x.profile.bays.get n).occupied && x.deficit n) := by
    show hasDeficit (if (x.profile.bays.get n).occupied = true then _ else _) = _
    cases (x.profile.bays.get n).occupied <;> rfl
  rw [thermalRaised, hnow]
  cases before <;> rfl

/-- GRANT's bays (R53): a difference of at least the threshold, told without one. -/
theorem grantRaised_record (before : Option EpochRecord) (threshold : Nat) (n : Bay) :
    grantRaised threshold before (x.record n) = ((x.profile.bays.get n).occupied &&
      match before with
      | some old => decide (threshold + old.grant ≤ x.grant n ∨ threshold + x.grant n ≤ old.grant)
      | none => false) := by
  show grantRaised threshold before (if (x.profile.bays.get n).occupied = true then _ else _) = _
  cases (x.profile.bays.get n).occupied <;> cases before
  case true.some old =>
    show decide (threshold ≤ max old.grant (x.grant n) - min old.grant (x.grant n)) = _
    rw [Bool.true_and, decide_eq_decide]
    omega
  all_goals rfl

theorem State.raiseCompletion_alert_mask (before : Row8 (Option EpochRecord)) (k : LinkId) :
    ((s.raiseCompletion x before).alert k).mask = (s.alert k).mask := by
  unfold State.raiseCompletion
  dsimp only
  split <;> simp only [State.raiseShelf_alert_mask, State.raiseEach_alert_mask]

theorem State.raiseCompletion_alert_groups (before : Row8 (Option EpochRecord)) (k : LinkId) :
    ((s.raiseCompletion x before).alert k).groups = (s.alert k).groups := by
  unfold State.raiseCompletion
  dsimp only
  split <;> simp only [State.raiseShelf_alert_groups, State.raiseEach_alert_groups]

theorem State.raiseCompletion_pendingCauses (before : Row8 (Option EpochRecord)) (i c : Fin 8) :
    ((s.raiseCompletion x before).alert (.bay i)).pendingCauses.get c = raisedWith ((s.alert (.bay i)).pendingCauses.get c)
      (if c = 1 then selectorsOf x.profile.bindings i
          (numbers8.filter fun n => thermalRaised (before.get n) (x.record n))
        else if c = 7 then selectorsOf x.profile.bindings i
          (numbers8.filter fun n => grantRaised x.profile.shelf.alertThreshold (before.get n) (x.record n))
        else 0) 0 := by
  have hraised : ((s.raiseCompletion x before).alert (.bay i)).pendingCauses.get c =
      (((s.raiseEach x.profile.bindings (numbers8.filter fun n => thermalRaised (before.get n) (x.record n))
        .thermal 0).raiseEach x.profile.bindings
        (numbers8.filter fun n => grantRaised x.profile.shelf.alertThreshold (before.get n) (x.record n))
        .grant 0).alert (.bay i)).pendingCauses.get c := by
    unfold State.raiseCompletion
    dsimp only
    split
    · rw [State.raiseShelf_alert_bay]
    · rfl
  rw [hraised, State.raiseEach_pendingCauses, State.raiseEach_pendingCauses]
  by_cases hthermal : c = 1
  · subst hthermal; rfl
  · by_cases hgrant : c = 7
    · subst hgrant; rfl
    · rw [if_neg hthermal, if_neg hgrant, if_neg (show c ≠ BayCause.number .grant from hgrant),
        if_neg (show c ≠ BayCause.number .thermal from hthermal), raisedWith_zero]

theorem State.raiseCompletion_pendingCauses_shelf (before : Row8 (Option EpochRecord)) (c : Fin 8) :
    ((s.raiseCompletion x before).alert .shelf).pendingCauses.get c =
      raisedEmpty ((s.alert .shelf).pendingCauses.get c) (c == 2 && x.short) := by
  unfold State.raiseCompletion
  dsimp only
  split
  · next hshort =>
    rw [State.raiseShelf_pendingCauses_empty, State.raiseEach_alert_shelf, State.raiseEach_alert_shelf, hshort, Bool.and_true]
    rfl
  · next hshort =>
    rw [State.raiseEach_alert_shelf, State.raiseEach_alert_shelf, Bool.eq_false_of_not_eq_true hshort, Bool.and_false,
      raisedEmpty_false]

end Completion

/-- Settles O16: each block of the completed state by the rule of its own. -/
theorem completionPublishesTheAllocation : Obligations.CompletionPublishesTheAllocation := by
  intro t x s hreset hflight thermal moved
  refine ⟨(s.advance t).complete x, exec_completion hreset hflight, by simp [State.advance], by simp [hreset], by simp, by simp,
    by simp, by simp, by simp, by simp, by simp, by simp, ?_, fun n => ?_, fun k => ?_, fun i c => ?_, fun c => ?_⟩
  · rw [State.complete_alloc]
    show s.alloc.publish x = _
    rw [Allocator.publish, pushSummary, show s.alloc.ring.length - 7 = s.alloc.ring.length + 1 - 8 by omega]
    rfl
  · rw [State.complete_lines]
    show (if _ then (s.lines.get n).stage _ _ _ else s.lines.get n) = _
    cases hmode : (s.lines.get n).mode with
    | profile =>
      rw [Line.stage_of_profile hmode]
      simp only [hmode, and_true]
    | default =>
      rw [Line.stage_of_default hmode, ite_self, if_neg]
      exact fun h => nomatch h.2
  · exact ⟨State.raiseCompletion_alert_mask _ x _ k, State.raiseCompletion_alert_groups _ x _ k⟩
  · refine (State.raiseCompletion_pendingCauses (((s.advance t).stageCounts x)) x s.alloc.records i c).trans ?_
    simp only [thermalRaised_record, grantRaised_record]
    rfl
  · exact State.raiseCompletion_pendingCauses_shelf ((s.advance t).stageCounts x) x s.alloc.records c

end Sys2Proof.Machine
end

section
/-! PROOFS. A boundary that installs nothing: transfer, derate check, snapshot and alerts (R38, R40, R44 to R47, R111, R115,
R126, R130, R135, R136, R140, R172). -/

namespace Sys2Proof.Machine

/-! ### The alerts of a round and of the derate check -/

section RoundAlerts
variable (s : State) (r : RoundResult)

/-- The state before a round's POOL_EXHAUSTED. -/
def State.raiseRoundBays (s : State) (r : RoundResult) : State :=
  ((s.raiseEach s.bindings r.ended .burstEnded 0).raiseEach s.bindings r.admitted .burstAdmitted 0).raiseEach s.bindings
    r.expired .burstExpired 0

theorem State.raiseRound_eq : s.raiseRound r = match r.outcome with
    | .blockedByPool p => (s.raiseRoundBays r).raiseShelf .poolExhausted (1#8 <<< p.val)
    | _ => s.raiseRoundBays r := by
  cases h : r.outcome <;> simp only [State.raiseRound, State.raiseRoundBays, h]

theorem State.raiseRound_alert_mask (k : LinkId) : ((s.raiseRound r).alert k).mask = (s.alert k).mask := by
  rw [State.raiseRound_eq]
  split <;> simp only [State.raiseRoundBays, State.raiseShelf_alert_mask, State.raiseEach_alert_mask]

theorem State.raiseRound_alert_groups (k : LinkId) : ((s.raiseRound r).alert k).groups = (s.alert k).groups := by
  rw [State.raiseRound_eq]
  split <;> simp only [State.raiseRoundBays, State.raiseShelf_alert_groups, State.raiseEach_alert_groups]

theorem State.raiseRoundBays_alert_shelf : (s.raiseRoundBays r).alert .shelf = s.alert .shelf := by
  simp only [State.raiseRoundBays, State.raiseEach_alert_shelf]

/-- What a round raises at a bay link: its selectors whose bays the round ended, expired or admitted (R113). -/
theorem State.raiseRound_pendingCauses (i c : Fin 8) : ((s.raiseRound r).alert (.bay i)).pendingCauses.get c =
    raisedWith ((s.alert (.bay i)).pendingCauses.get c)
      (if c = 3 then selectorsOf s.bindings i r.ended
        else if c = 4 then selectorsOf s.bindings i r.expired
        else if c = 6 then selectorsOf s.bindings i r.admitted
        else 0) 0 := by
  have hbays : ((s.raiseRound r).alert (.bay i)) = (s.raiseRoundBays r).alert (.bay i) := by
    rw [State.raiseRound_eq]
    split
    · rw [State.raiseShelf_alert_bay]
    · rfl
  rw [hbays, State.raiseRoundBays, State.raiseEach_pendingCauses, State.raiseEach_pendingCauses,
    State.raiseEach_pendingCauses]
  by_cases hended : c = 3
  · subst hended; rfl
  · by_cases hexpired : c = 4
    · subst hexpired; rfl
    · by_cases hadmitted : c = 6
      · subst hadmitted; rfl
      · rw [if_neg hended, if_neg hexpired, if_neg hadmitted, if_neg (show c ≠ BayCause.number .burstExpired from hexpired),
          if_neg (show c ≠ BayCause.number .burstAdmitted from hadmitted),
          if_neg (show c ≠ BayCause.number .burstEnded from hended), raisedWith_zero]

theorem poolFlag_ne_zero (p : Pool) : (1#8 <<< p.val : Flags8) ≠ 0 := by
  revert p
  decide

theorem State.raiseRound_pendingCauses_shelf {c : Fin 8} (hc : c ≠ 6) :
    ((s.raiseRound r).alert .shelf).pendingCauses.get c = (s.alert .shelf).pendingCauses.get c := by
  rw [State.raiseRound_eq]
  split
  · rw [State.raiseShelf_pendingCauses _ (poolFlag_ne_zero _), State.raiseRoundBays_alert_shelf]
    exact if_neg hc
  · rw [State.raiseRoundBays_alert_shelf]

/-- POOL_EXHAUSTED names the pool that blocked the queue's head (R115). -/
theorem State.raiseRound_poolExhausted : ((s.raiseRound r).alert .shelf).pendingCauses.get 6 =
    match r.outcome with
    | .blockedByPool pool => raisedWith ((s.alert .shelf).pendingCauses.get 6) (1#8 <<< pool.val) 0
    | _ => (s.alert .shelf).pendingCauses.get 6 := by
  rw [State.raiseRound_eq]
  cases r.outcome
  case blockedByPool p =>
    dsimp only
    rw [State.raiseShelf_pendingCauses _ (poolFlag_ne_zero _), State.raiseRoundBays_alert_shelf]
    exact if_pos rfl
  all_goals
    dsimp only
    rw [State.raiseRoundBays_alert_shelf]

end RoundAlerts

section DerateCheck
variable (s : State) (first : Bool)

/-- The derate check raises DERATE where it clears the flag, and at the first boundary where the flag is set (R43, R45). -/
theorem State.derateCheck_alert (k : LinkId) : (s.derateCheck first).alert k =
    if s.cycle.derate && (!s.cycle.debounced || first) then (s.raiseShelf .derate 0).alert k else s.alert k := by
  unfold State.derateCheck
  cases s.cycle.derate <;> cases s.cycle.debounced <;> cases first <;> rfl

theorem State.derateCheck_alert_mask (k : LinkId) : ((s.derateCheck first).alert k).mask = (s.alert k).mask := by
  rw [State.derateCheck_alert]
  split
  · exact State.raiseShelf_alert_mask s _ _ k
  · rfl

theorem State.derateCheck_alert_groups (k : LinkId) : ((s.derateCheck first).alert k).groups = (s.alert k).groups := by
  rw [State.derateCheck_alert]
  split
  · exact State.raiseShelf_alert_groups s _ _ k
  · rfl

theorem State.derateCheck_alert_bay (i : Fin 8) : (s.derateCheck first).alert (.bay i) = s.alert (.bay i) := by
  rw [State.derateCheck_alert, State.raiseShelf_alert_bay, ite_self]

theorem State.derateCheck_pendingCauses_shelf (c : Fin 8) : ((s.derateCheck first).alert .shelf).pendingCauses.get c =
    raisedEmpty ((s.alert .shelf).pendingCauses.get c) (c == 1 && (s.cycle.derate && (!s.cycle.debounced || first))) := by
  rw [State.derateCheck_alert]
  split
  · next h => rw [State.raiseShelf_pendingCauses_empty, h, Bool.and_true]; rfl
  · next h => rw [Bool.eq_false_of_not_eq_true h, Bool.and_false, raisedEmpty_false]

end DerateCheck

/-! ### The boundary, block by block -/

section Boundary
variable (s : State) (start : Nat)

@[simp] theorem State.takeBoundary_sensors : (s.takeBoundary start).sensors = (s.atBoundary start).sensors := by
  simp [State.takeBoundary_eq, State.beforeSnapshot]

@[simp] theorem State.takeBoundary_params : (s.takeBoundary start).params = (s.atBoundary start).params := by
  simp [State.takeBoundary_eq, State.beforeSnapshot]

theorem State.takeBoundary_lines (n : Bay) :
    (s.takeBoundary start).lines.get n = ((s.atBoundary start).lines.get n).atSnapshot := by
  simp [State.takeBoundary_eq, State.beforeSnapshot, State.holdsAtSnapshot]

@[simp] theorem State.beforeSnapshot_bindings : (s.beforeSnapshot start).bindings = (s.atBoundary start).bindings := by
  simp [State.bindings]

theorem State.beforeSnapshot_alert (k : LinkId) : (s.beforeSnapshot start).alert k =
    ((s.atBoundary start).derateCheck (s.alloc.engine == .stopped)).alert k :=
  State.restartEpochTimer_alert _ start k

/-- The round of a boundary, said of the state that the transfer and the install have left. -/
theorem State.beforeSnapshot_round {p : Profile} (hp : (s.atBoundary start).store.installed = some p) :
    (s.beforeSnapshot start).round p = (s.atBoundary start).burst.round
      (capInForce p (s.cycle.derate && s.cycle.debounced)) (commitmentBase p (s.atBoundary start).alloc.pin) := by
  rw [State.round, State.beforeSnapshot_cycle _ _ hp, State.beforeSnapshot_burst, State.beforeSnapshot_alloc]

theorem State.bindings_of_installed {p : Profile} (h : s.store.installed = some p) : s.bindings = p.bindings := by
  rw [State.bindings, h]

theorem State.bayBlock_of_installed {p : Profile} (h : s.store.installed = some p) (n : Bay) :
    s.bayBlock n = p.bays.get n := by
  rw [State.bayBlock, h]

theorem State.takeBoundary_alert {p : Profile} (hp : (s.atBoundary start).store.installed = some p) (k : LinkId) :
    (s.takeBoundary start).alert k = (((s.beforeSnapshot start).setBurst ((s.beforeSnapshot start).round p).unit).raiseRound
      ((s.beforeSnapshot start).round p)).alert k := by
  rw [State.takeBoundary_eq, State.beginOperation_of_installed _ (by simpa using hp)]
  rfl

theorem State.takeBoundary_alert_marks {p : Profile} (hp : (s.atBoundary start).store.installed = some p) (k : LinkId) :
    ((s.takeBoundary start).alert k).mask = ((s.atBoundary start).alert k).mask ∧
    ((s.takeBoundary start).alert k).groups = ((s.atBoundary start).alert k).groups := by
  rw [State.takeBoundary_alert s start hp, State.raiseRound_alert_mask, State.raiseRound_alert_groups]
  show ((s.beforeSnapshot start).alert k).mask = _ ∧ ((s.beforeSnapshot start).alert k).groups = _
  rw [State.beforeSnapshot_alert, State.derateCheck_alert_mask, State.derateCheck_alert_groups]
  exact ⟨rfl, rfl⟩

theorem State.takeBoundary_pendingCauses {p : Profile} (hp : (s.atBoundary start).store.installed = some p) {r : RoundResult}
    (hr : (s.beforeSnapshot start).round p = r) (i c : Fin 8) :
    ((s.takeBoundary start).alert (.bay i)).pendingCauses.get c =
      raisedWith (((s.atBoundary start).alert (.bay i)).pendingCauses.get c)
        (if c = 3 then selectorsOf p.bindings i r.ended
          else if c = 4 then selectorsOf p.bindings i r.expired
          else if c = 6 then selectorsOf p.bindings i r.admitted
          else 0) 0 := by
  rw [State.takeBoundary_alert s start hp, hr, State.raiseRound_pendingCauses, State.setBurst_bindings,
    State.beforeSnapshot_bindings, State.bindings_of_installed _ hp]
  show raisedWith (((s.beforeSnapshot start).alert (.bay i)).pendingCauses.get c) _ 0 = _
  rw [State.beforeSnapshot_alert, State.derateCheck_alert_bay]

theorem State.takeBoundary_pendingCauses_shelf {p : Profile} (hp : (s.atBoundary start).store.installed = some p)
    {c : Fin 8} (hc : c ≠ 6) : ((s.takeBoundary start).alert .shelf).pendingCauses.get c =
      raisedEmpty (((s.atBoundary start).alert .shelf).pendingCauses.get c)
        (c == 1 && (s.cycle.derate && (!s.cycle.debounced || s.alloc.engine == .stopped))) := by
  rw [State.takeBoundary_alert s start hp, State.raiseRound_pendingCauses_shelf _ _ hc]
  show ((s.beforeSnapshot start).alert .shelf).pendingCauses.get c = _
  rw [State.beforeSnapshot_alert, State.derateCheck_pendingCauses_shelf, State.atBoundary_cycle]

theorem State.takeBoundary_poolExhausted {p : Profile} (hp : (s.atBoundary start).store.installed = some p)
    {r : RoundResult} (hr : (s.beforeSnapshot start).round p = r) :
    ((s.takeBoundary start).alert .shelf).pendingCauses.get 6 =
      match r.outcome with
      | .blockedByPool pool => raisedWith (((s.atBoundary start).alert .shelf).pendingCauses.get 6) (1#8 <<< pool.val) 0
      | _ => ((s.atBoundary start).alert .shelf).pendingCauses.get 6 := by
  have hbefore : (((s.beforeSnapshot start).setBurst r.unit).alert .shelf).pendingCauses.get 6 =
      ((s.atBoundary start).alert .shelf).pendingCauses.get 6 := by
    show ((s.beforeSnapshot start).alert .shelf).pendingCauses.get 6 = _
    rw [State.beforeSnapshot_alert, State.derateCheck_pendingCauses_shelf]
    exact raisedEmpty_false _
  rw [State.takeBoundary_alert s start hp, hr, State.raiseRound_poolExhausted, hbefore]

/-- A record's usable sample, by its state (R35, R62). -/
theorem SensorRec.usable_eq (r : SensorRec) :
    r.usable = if r.state = .valid ∨ r.state = .stale then r.held else none := by
  unfold SensorRec.usable
  cases r.state <;> simp

/-- The transfer takes the clamp where a PROFILE line's staged count meets it (R136). -/
theorem State.takesClamp_eq : s.takesClamp = decide (∃ n, (s.lines.get n).mode = .profile ∧
    ∃ x, (s.lines.get n).staged = some x ∧ s.cycle.derate = true ∧ x.derateMark = false) := by
  have hmem (n : Bay) : n ∈ numbers8 := by revert n; decide
  have hline (l : Line) : l.takesClamp s.cycle.derate = true ↔ l.mode = .profile ∧
      ∃ x, l.staged = some x ∧ s.cycle.derate = true ∧ x.derateMark = false := by
    unfold Line.takesClamp
    cases hmode : l.mode <;> cases hstaged : l.staged <;> simp [Staged.clamps]
  rw [Bool.eq_iff_iff, decide_eq_true_eq]
  simp only [State.takesClamp, List.any_eq_true, hline]
  exact ⟨fun ⟨n, _, h⟩ => ⟨n, h⟩, fun ⟨n, h⟩ => ⟨n, hmem n, h⟩⟩

@[simp] theorem State.beforeSnapshot_sensors : (s.beforeSnapshot start).sensors = (s.atBoundary start).sensors := by
  simp [State.beforeSnapshot]

@[simp] theorem State.beforeSnapshot_presence : (s.beforeSnapshot start).presence = (s.atBoundary start).presence := by
  simp [State.presence]

/-- What the snapshot of a boundary copies (R46, R47). -/
theorem State.beforeSnapshot_snapshot {p : Profile} (hp : (s.atBoundary start).store.installed = some p) (clamped : Bool)
    (r : RoundResult) : (s.beforeSnapshot start).snapshot p clamped r =
      { epoch := (s.atBoundary start).alloc.epoch
        profile := p
        cap := if (s.cycle.derate && s.cycle.debounced) = true then p.shelf.capDerated else p.shelf.capNormal
        derated := s.cycle.derate && s.cycle.debounced
        usable := Row8.ofFn fun n => ((s.atBoundary start).sensors.get n).usable
        presence := (s.atBoundary start).presence
        demand := (s.atBoundary start).alloc.demand
        pin := (s.atBoundary start).alloc.pin
        rotation := (s.atBoundary start).alloc.rotation
        clamped := clamped
        bursts := r.copy
        admitted := r.admitted.length } := by
  rw [State.snapshot, State.beforeSnapshot_alloc, State.beforeSnapshot_cycle _ _ hp, State.beforeSnapshot_sensors,
    State.beforeSnapshot_presence]
  rfl

/-- A line in PROFILE mode after the transfer and the snapshot of a boundary (R126, R130, R135, R140). -/
theorem Line.transfer_atSnapshot {l : Line} (h : l.mode = .profile) (derate : Bool) (countDerate : Nat) :
    (l.transfer derate countDerate start).atSnapshot =
      let live := match l.staged with
        | none => l.live
        | some x => if derate = true ∧ x.derateMark = false then min x.count countDerate else x.count
      { l with
        live := live
        staged := none
        hold := match l.hold with
          | .held => .reassessing
          | .releasing => .free
          | h => h
        slotIndex := 0
        slotStart := start
        asserted := !openSlot live l.len (l.phi % l.len) } := by
  obtain ⟨mode, len, live, phi, slotIndex, slotTimeUs, staged, hold, slotStart, asserted⟩ := l
  cases h
  have hlive : (Line.transferred ⟨.profile, len, live, phi, slotIndex, slotTimeUs, staged, hold, slotStart, asserted⟩ derate
      countDerate) = match staged with
        | none => live
        | some x => if derate = true ∧ x.derateMark = false then min x.count countDerate else x.count := by
    cases staged with
    | none => rfl
    | some x => simp [Line.transferred, Staged.clamps]
  dsimp only
  rw [← hlive]
  cases hold <;> simp [Line.transfer, Line.startSlot, Line.atSnapshot, Hold.atTransfer]

theorem Line.transfer_of_default {l : Line} (h : l.mode = .default) (derate : Bool) (countDerate : Nat) :
    l.transfer derate countDerate start = l := by
  rw [Line.transfer, h]

theorem State.transfer_lines (n : Bay) : (s.transfer start).lines.get n =
    (s.lines.get n).transfer s.cycle.derate (s.bayBlock n).countDerate start := by
  simp [State.transfer]

theorem Line.atSnapshot_of_default {l : Line} (h : l.mode = .default) : l.atSnapshot = l := by
  rw [Line.atSnapshot, h]

end Boundary

theorem exec_boundary {s : State} {t due : Nat} (hreset : s.inReset = false) (hflight : s.alloc.flight = none)
    (hdue : s.cycle.epochDue = some due) (hle : due ≤ max s.now t) :
    exec (.boundary t) s = .next ((s.advance t).takeBoundary due) := by
  show execBoundary t s = _
  have hdue' : (s.advance t).cycle.epochDue = some due := hdue
  have hflight' : (s.advance t).alloc.flight = none := hflight
  rw [execBoundary, event_of_released _ hreset, hdue']
  dsimp only
  rw [if_pos (show due ≤ (s.advance t).now from hle), State.completeFlight, hflight']

/-- Settles O14: each block of the state at the boundary by the rule of its own. -/
theorem boundaryTransfersAndTakesTheSnapshot : Obligations.BoundaryTransfersAndTakesTheSnapshot := by
  intro t due p s hreset hengine hinstalled hwaiting hflight hdue hle flag cap base r
  have hat := (s.advance t).atBoundary_of_none due hwaiting
  have hp : ((s.advance t).atBoundary due).store.installed = some p := by rw [hat]; exact hinstalled
  have hround : ((s.advance t).beforeSnapshot due).round p = r := by
    rw [State.beforeSnapshot_round _ _ hp, hat]
    rfl
  have hstopped : (s.alloc.engine == .stopped) = false := by rw [hengine]; rfl
  refine ⟨(s.advance t).takeBoundary due, exec_boundary hreset hflight hdue hle, by simp [State.advance], by simp [hreset],
    by simp, by simp, ?_, ?_, by simp, ?_, ?_, ?_, ?_, fun n => ⟨fun hmode => ?_, fun hmode => ?_⟩, fun k => ?_,
    fun i c => ?_, fun c hc => ?_, ?_⟩
  · rw [State.takeBoundary_sensors, hat]; rfl
  · rw [State.takeBoundary_params, hat]; rfl
  · rw [State.takeBoundary_store, hat]; rfl
  · rw [State.takeBoundary_burst _ _ hp, hround]
  · rw [State.takeBoundary_cycle, State.beforeSnapshot_cycle _ _ hp]; rfl
  · rw [State.takeBoundary_alloc _ _ hp, hround, State.beforeSnapshot_snapshot _ _ hp, hat, State.takesClamp_eq]
    simp only [SensorRec.usable_eq]
    obtain ⟨_, _, _, _, _, _, _, _, ⟨_, _, _, _, _, _, _, _, _⟩, _, _, _, _, _⟩ := s
    cases hengine
    rfl
  · rw [State.takeBoundary_lines, hat]
    refine (congrArg Line.atSnapshot ((s.advance t).transfer_lines due n)).trans ?_
    show ((s.lines.get n).transfer s.cycle.derate (s.bayBlock n).countDerate due).atSnapshot = _
    rw [Line.transfer_of_default _ hmode, Line.atSnapshot_of_default hmode]
  · rw [State.takeBoundary_lines, hat]
    refine (congrArg Line.atSnapshot ((s.advance t).transfer_lines due n)).trans ?_
    show ((s.lines.get n).transfer s.cycle.derate (s.bayBlock n).countDerate due).atSnapshot = _
    rw [State.bayBlock_of_installed _ hinstalled]
    exact Line.transfer_atSnapshot due hmode s.cycle.derate (p.bays.get n).countDerate
  · obtain ⟨hmask, hgroups⟩ := State.takeBoundary_alert_marks _ due hp k
    rw [hmask, hgroups, hat]
    exact ⟨rfl, rfl⟩
  · rw [State.takeBoundary_pendingCauses _ _ hp hround, hat]
    rfl
  · rw [State.takeBoundary_pendingCauses_shelf _ _ hp hc, hat]
    show raisedEmpty ((s.alert .shelf).pendingCauses.get c)
      (c == 1 && (s.cycle.derate && (!s.cycle.debounced || s.alloc.engine == .stopped))) = _
    rw [hstopped, Bool.or_false, Bool.and_assoc]
  · rw [State.takeBoundary_poolExhausted _ _ hp hround, hat]
    rfl

end Sys2Proof.Machine
end

section
/-! PROOFS. The install of a profile: the sensor timers measured anew, the lines, the bursts and the alerts (R34, R120, R143,
R144, R181). -/

namespace Sys2Proof.Machine

/-! ### The Sensor Monitor (R34) -/

section Remeasure
variable {s : State} {p : SensorParams}

/-- The three timers in turn are the record aged at once. -/
theorem SensorRec.remeasure_eq (r : SensorRec) (p : SensorParams) (now : Nat) :
    r.remeasure p now = r.agedUnder p.stale p.lost now := by
  have hpast (limit : Nat) : (r.acceptedAt.any fun a => decide (a + ms limit ≤ now)) = r.ageReached now limit := by
    unfold SensorRec.ageReached
    cases r.acceptedAt with
    | none => rfl
    | some a => rw [Option.any_some]
  unfold SensorRec.agedUnder
  simp only [hpast]
  cases hstate : r.state with
  | absent => simp [SensorRec.remeasure, SensorRec.staleExpiry, SensorRec.lostExpiry, SensorRec.silenceExpiry, hstate]
  | lost => simp [SensorRec.remeasure, SensorRec.staleExpiry, SensorRec.lostExpiry, SensorRec.silenceExpiry, hstate]
  | acquiring run =>
    simp only [SensorRec.remeasure, SensorRec.staleExpiry, SensorRec.lostExpiry, SensorRec.silenceExpiry, hstate,
      Run.silent, decide_eq_true_eq]
    by_cases hsilent : run.lastAt + ms p.stale ≤ now
    · rw [if_pos hsilent, if_neg (Nat.not_lt.mpr hsilent)]
      rfl
    · rw [if_neg hsilent, if_pos (Nat.lt_of_not_le hsilent)]
  | stale =>
    simp only [SensorRec.remeasure, SensorRec.staleExpiry, SensorRec.lostExpiry, hstate]
    cases hlost : r.ageReached now p.lost <;> simp [SensorRec.silenceExpiry, hstate]
  | valid =>
    simp only [SensorRec.remeasure, SensorRec.staleExpiry, hstate]
    cases hstale : r.ageReached now p.stale
    · simp [SensorRec.lostExpiry, SensorRec.silenceExpiry, hstate]
    · have hreached : ({ r with state := .stale } : SensorRec).ageReached now p.lost = r.ageReached now p.lost := rfl
      cases hlost : r.ageReached now p.lost <;> simp [SensorRec.lostExpiry, SensorRec.silenceExpiry, hreached, hlost]

/-- The bay's sensor state changes when its record is measured under new parameters. -/
def State.movesUnder (s : State) (p : SensorParams) (n : Bay) : Bool :=
  ((s.sensors.get n).remeasure p s.now).state.code != (s.sensors.get n).state.code

/-- The records of some bays measured one after the other under new parameters. -/
def State.remeasureEach (s : State) (p : SensorParams) (l : List Bay) : State :=
  l.foldl (fun s n => s.updateSensor n ((s.sensors.get n).remeasure p s.now) false) s

/-- One bay's record measured under new parameters. -/
def State.remeasureBay (s : State) (p : SensorParams) (n : Bay) : State :=
  s.updateSensor n ((s.sensors.get n).remeasure p s.now) false

theorem State.remeasureEach_cons (n : Bay) (l : List Bay) :
    s.remeasureEach p (n :: l) = (s.remeasureBay p n).remeasureEach p l := rfl

theorem State.remeasureBay_eq (n : Bay) : s.remeasureBay p n =
    if s.movesUnder p n = true then (s.setSensor n ((s.sensors.get n).remeasure p s.now)).announceSensor n
    else s.setSensor n ((s.sensors.get n).remeasure p s.now) := by
  rw [State.remeasureBay, State.updateSensor, Bool.false_or]
  rfl

@[simp] theorem State.remeasureBay_now (n : Bay) : (s.remeasureBay p n).now = s.now := State.updateSensor_now ..

@[simp] theorem State.remeasureBay_bindings (n : Bay) : (s.remeasureBay p n).bindings = s.bindings :=
  State.updateSensor_bindings ..

theorem State.remeasureBay_sensors (n m : Bay) : (s.remeasureBay p n).sensors.get m =
    if m = n then (s.sensors.get n).remeasure p s.now else s.sensors.get m := by
  simp [State.remeasureBay]

/-- Measuring one bay leaves whether another moves. -/
theorem State.remeasureBay_movesUnder {n m : Bay} (h : m ≠ n) : (s.remeasureBay p n).movesUnder p m = s.movesUnder p m := by
  simp only [State.movesUnder, State.remeasureBay_sensors, if_neg h, State.remeasureBay_now]

theorem State.remeasureBay_pendingCauses (n : Bay) (i c : Fin 8) :
    ((s.remeasureBay p n).alert (.bay i)).pendingCauses.get c =
      if c = 2 then raisedWith ((s.alert (.bay i)).pendingCauses.get c)
        (selectorsOf s.bindings i ([n].filter (s.movesUnder p))) 0
      else (s.alert (.bay i)).pendingCauses.get c := by
  rw [State.remeasureBay_eq]
  split
  · next hmoves =>
    rw [List.filter_cons_of_pos hmoves, State.announceSensor, State.raiseShelf_alert_bay, State.raiseServing_pendingCauses]
    rfl
  · next hmoves => rw [List.filter_cons_of_neg hmoves, List.filter_nil, selectorsOf_nil, raisedWith_zero, ite_self]; rfl

theorem flagBit_ne_zero (n : Bay) : flagBit n ≠ 0 := by
  revert n
  decide

/-- The vector of a list of bays. -/
def bayFlags (l : List Bay) : Flags8 := flags8 fun n => l.contains n

theorem bayFlags_cons (n : Bay) (l : List Bay) : bayFlags (n :: l) = flagBit n ||| bayFlags l := by
  refine BitVec.eq_of_getLsbD_eq fun i hi => ?_
  have hget (m : Fin 8) : (bayFlags (n :: l)).getLsbD m.val = (flagBit n ||| bayFlags l).getLsbD m.val := by
    rw [BitVec.getLsbD_or, flagBit_getLsbD, bayFlags, bayFlags, flags8_getLsbD, flags8_getLsbD, List.contains_cons]
    congr 1
    rw [Bool.eq_iff_iff, beq_iff_eq, decide_eq_true_eq]
    exact eq_comm
  exact hget ⟨i, hi⟩

theorem bayFlags_nil : bayFlags [] = 0 := by decide

theorem State.remeasureBay_pendingCauses_shelf (n : Bay) (c : Fin 8) :
    ((s.remeasureBay p n).alert .shelf).pendingCauses.get c =
      if c = 3 then raisedWith ((s.alert .shelf).pendingCauses.get c) (bayFlags ([n].filter (s.movesUnder p))) 0
      else (s.alert .shelf).pendingCauses.get c := by
  rw [State.remeasureBay_eq]
  split
  · next hmoves =>
    rw [List.filter_cons_of_pos hmoves, List.filter_nil, bayFlags_cons, bayFlags_nil, State.announceSensor,
      State.raiseShelf_pendingCauses _ (flagBit_ne_zero n), State.raiseServing_alert_shelf,
      show flagBit n ||| (0 : Flags8) = flagBit n from BitVec.or_zero]
    rfl
  · next hmoves => rw [List.filter_cons_of_neg hmoves, List.filter_nil, bayFlags_nil, raisedWith_zero, ite_self]; rfl

theorem State.remeasureBay_marks (n : Bay) (k : LinkId) : ((s.remeasureBay p n).alert k).mask = (s.alert k).mask ∧
    ((s.remeasureBay p n).alert k).groups = (s.alert k).groups := by
  rw [State.remeasureBay_eq]
  split
  · rw [State.announceSensor, State.raiseShelf_alert_mask, State.raiseShelf_alert_groups, State.raiseServing_alert_mask,
      State.raiseServing_alert_groups]
    exact ⟨rfl, rfl⟩
  · exact ⟨rfl, rfl⟩

/-- A list of distinct bays is measured as each of them is on its own, and announced once. -/
theorem State.remeasureEach_spec {l : List Bay} (hl : l.Nodup) :
    (∀ m, (s.remeasureEach p l).sensors.get m =
      if m ∈ l then (s.sensors.get m).remeasure p s.now else s.sensors.get m) ∧
    (∀ i c, ((s.remeasureEach p l).alert (.bay i)).pendingCauses.get c =
      if c = 2 then raisedWith ((s.alert (.bay i)).pendingCauses.get c)
        (selectorsOf s.bindings i (l.filter (s.movesUnder p))) 0
      else (s.alert (.bay i)).pendingCauses.get c) ∧
    (∀ c, ((s.remeasureEach p l).alert .shelf).pendingCauses.get c =
      if c = 3 then raisedWith ((s.alert .shelf).pendingCauses.get c) (bayFlags (l.filter (s.movesUnder p))) 0
      else (s.alert .shelf).pendingCauses.get c) ∧
    ∀ k, ((s.remeasureEach p l).alert k).mask = (s.alert k).mask ∧
      ((s.remeasureEach p l).alert k).groups = (s.alert k).groups := by
  induction l generalizing s with
  | nil =>
    refine ⟨fun m => (if_neg (List.not_mem_nil)).symm, fun i c => ?_, fun c => ?_, fun k => ⟨rfl, rfl⟩⟩
    · rw [List.filter_nil, selectorsOf_nil, raisedWith_zero, ite_self]; rfl
    · rw [List.filter_nil, bayFlags_nil, raisedWith_zero, ite_self]; rfl
  | cons n l ih =>
    obtain ⟨hn, hl⟩ := List.nodup_cons.mp hl
    obtain ⟨hsensors, hbays, hshelf, hmarks⟩ := ih (s := s.remeasureBay p n) hl
    have hne {m : Bay} (hm : m ∈ l) : m ≠ n := fun h => hn (h ▸ hm)
    have hfilter : l.filter ((s.remeasureBay p n).movesUnder p) = l.filter (s.movesUnder p) :=
      List.filter_congr fun m hm => State.remeasureBay_movesUnder (hne hm)
    have hsplit : (n :: l).filter (s.movesUnder p) = [n].filter (s.movesUnder p) ++ l.filter (s.movesUnder p) := by
      rw [← List.filter_append]; rfl
    have hselectors (b : Row8 (List Bay)) (i : Fin 8) (l l' : List Bay) :
        selectorsOf b i (l ++ l') = selectorsOf b i l ||| selectorsOf b i l' := by
      induction l with
      | nil => rw [List.nil_append, selectorsOf_nil]; exact BitVec.zero_or.symm
      | cons a l ih => rw [List.cons_append, selectorsOf_cons, ih, selectorsOf_cons b i a l, BitVec.or_assoc]
    have hflags (l l' : List Bay) : bayFlags (l ++ l') = bayFlags l ||| bayFlags l' := by
      induction l with
      | nil => rw [List.nil_append, bayFlags_nil]; exact BitVec.zero_or.symm
      | cons a l ih => rw [List.cons_append, bayFlags_cons, ih, bayFlags_cons a l, BitVec.or_assoc]
    rw [State.remeasureEach_cons]
    refine ⟨fun m => ?_, fun i c => ?_, fun c => ?_, fun k => ?_⟩
    · rw [hsensors, State.remeasureBay_sensors, State.remeasureBay_now]
      by_cases hm : m = n
      · subst hm; simp [hn]
      · simp [hm]
    · rw [hbays, hfilter, State.remeasureBay_bindings, State.remeasureBay_pendingCauses, hsplit, hselectors]
      split
      · rw [raisedWith_or]
      · rfl
    · rw [hshelf, hfilter, State.remeasureBay_pendingCauses_shelf, hsplit, hflags]
      split
      · rw [raisedWith_or]
      · rfl
    · rw [(hmarks k).1, (hmarks k).2]
      exact State.remeasureBay_marks n k

end Remeasure

end Sys2Proof.Machine
end

section
/-! PROOFS. A boundary that installs the pending profile: every block's install effects, the snapshot under it, and the
alerts (R34, R45, R81, R120, R143, R144, R181). -/

namespace Sys2Proof.Machine

/-! ### One line through transfer, install and snapshot (R135, R140, R143, R144) -/

section Lines
variable (l : Line) (old new : BayBlock) (slotTimeUs : Nat) (derate : Bool) (countDerate start : Nat)

theorem Line.transfer_hold : (l.transfer derate countDerate start).hold =
    if l.mode = .profile ∧ l.hold = .releasing then .free else l.hold := by
  unfold Line.transfer
  cases l.mode
  · rfl
  · show l.hold.atTransfer = _
    cases l.hold <;> rfl

theorem Line.transfer_live : (l.transfer derate countDerate start).live =
    match l.mode, l.staged with
    | .profile, some x => if derate = true ∧ x.derateMark = false then min x.count countDerate else x.count
    | _, _ => l.live := by
  unfold Line.transfer
  cases l.mode
  · rfl
  · show l.transferred derate countDerate = _
    unfold Line.transferred
    cases l.staged with
    | none => rfl
    | some x => simp only [Staged.clamps, Bool.and_eq_true, Bool.not_eq_true']

theorem Line.transfer_mode : (l.transfer derate countDerate start).mode = l.mode := by
  unfold Line.transfer
  cases h : l.mode
  · exact h
  · rfl

theorem BayBlock.samePattern_iff : old.samePattern new = true ↔ old.len = new.len ∧ old.countMin = new.countMin ∧
    old.countDerate = new.countDerate ∧ old.countFallback = new.countFallback ∧ old.phi = new.phi := by
  simp only [BayBlock.samePattern, Bool.and_eq_true, beq_iff_eq, and_assoc]

theorem Line.installedCount_eq : l.installedCount old new derate =
    if l.hold ≠ .free then new.countMin
    else if old.occupied = true ∧ old.len = new.len ∧ old.countMin = new.countMin ∧ old.countDerate = new.countDerate ∧
        old.countFallback = new.countFallback ∧ old.phi = new.phi then l.live
    else if derate = true then min new.countFallback new.countDerate
    else new.countFallback := by
  have hsame : (old.occupied && old.samePattern new) = true ↔ old.occupied = true ∧ old.len = new.len ∧
      old.countMin = new.countMin ∧ old.countDerate = new.countDerate ∧ old.countFallback = new.countFallback ∧
      old.phi = new.phi := by
    rw [Bool.and_eq_true, BayBlock.samePattern_iff]
  unfold Line.installedCount
  cases l.hold
  case free =>
    rw [if_neg (not_not_intro rfl)]
    exact if_congr hsame rfl rfl
  all_goals rfl

/-- A line of a bay that the new profile occupies, once the snapshot is taken. -/
theorem Line.install_atSnapshot_of_occupied (h : new.occupied = true) :
    (l.install old new slotTimeUs derate start).atSnapshot =
      { mode := .profile, len := new.len, live := l.installedCount old new derate, phi := new.phi, slotIndex := 0
        slotTimeUs := slotTimeUs, staged := none
        hold := if l.hold = .held then .reassessing else l.hold
        slotStart := start
        asserted := !openSlot (l.installedCount old new derate) new.len (new.phi % new.len) } := by
  have hslot : (0 + new.phi) % new.len = new.phi % new.len := by rw [Nat.zero_add]
  unfold Line.install
  rw [if_pos h]
  cases l.hold <;> simp only [Line.startSlot, Line.atSnapshot, hslot, reduceCtorEq, if_false, if_true]

/-- A line of a bay that the new profile leaves vacant: back to the default pattern (R144). -/
theorem Line.install_atSnapshot_of_vacant (h : new.occupied = false) (hmode : l.mode = .profile) :
    (l.install old new slotTimeUs derate start).atSnapshot =
      { mode := .default, len := 16, live := 8, phi := 0, slotIndex := 0, slotTimeUs := 100, staged := none
        hold := .free, slotStart := start, asserted := true } := by
  rw [Line.install, h, if_neg Bool.false_ne_true, hmode]
  rfl

theorem Line.install_of_default (h : new.occupied = false) (hmode : l.mode = .default) :
    l.install old new slotTimeUs derate start = l := by
  rw [Line.install, h, if_neg Bool.false_ne_true, hmode]

end Lines

/-! ### The install, block by block -/

section Install
variable (s : State) (p : Profile) (start : Nat)

/-- The state in which the Sensor Monitor measures its records anew: every other block is installed. -/
def State.installedButSensors (s : State) (p : Profile) (start : Nat) : State :=
  let s1 := s.installBurst s.bindings p
  let s2 := s1.setLines
    (s.lines.mapIdx fun n l => l.install (s.bayBlock n) (p.bays.get n) p.shelf.slotTimeUs s.cycle.derate start)
  let s3 := s2.setStore { s2.store with installed := some p, waiting := none }
  (s3.setAlloc { s3.alloc with demand := installLimit p s3.alloc.demand, pin := installLimit p s3.alloc.pin }).setParams
    p.sensorParams

theorem State.install_eq : s.install p start =
    ((s.installedButSensors p start).remeasureEach p.sensorParams numbers8).raiseShelf .profileInstalled 0 := rfl

@[simp] theorem State.installedButSensors_now : (s.installedButSensors p start).now = s.now := by
  simp [State.installedButSensors, State.installBurst]

@[simp] theorem State.installedButSensors_sensors : (s.installedButSensors p start).sensors = s.sensors := by
  simp [State.installedButSensors, State.installBurst]

@[simp] theorem State.installedButSensors_bindings : (s.installedButSensors p start).bindings = p.bindings := by
  simp [State.installedButSensors, State.bindings]

theorem State.installedButSensors_alert (k : LinkId) : (s.installedButSensors p start).alert k =
    (s.raiseEach s.bindings s.burst.holders .burstWithdrawn reasonProfile).alert k := by
  simp only [State.installedButSensors, State.installBurst, State.setParams_alert, State.setAlloc_alert, State.setStore_alert,
    State.setLines_alert, State.setBurst_alert]

theorem numbers8_nodup : numbers8.Nodup := by decide

theorem mem_numbers8 (n : Bay) : n ∈ numbers8 := by revert n; decide

theorem State.install_sensors (n : Bay) :
    (s.install p start).sensors.get n = (s.sensors.get n).remeasure p.sensorParams s.now := by
  rw [State.install_eq, State.raiseShelf_sensors, (State.remeasureEach_spec numbers8_nodup).1, if_pos (mem_numbers8 n),
    State.installedButSensors_sensors, State.installedButSensors_now]

theorem State.remeasureEach_params (s : State) (P : SensorParams) (l : List Bay) :
    (s.remeasureEach P l).params = s.params := by
  induction l generalizing s with
  | nil => rfl
  | cons n l ih => rw [State.remeasureEach_cons, ih]; exact State.updateSensor_params ..

theorem State.install_params : (s.install p start).params = p.sensorParams := by
  rw [State.install_eq, State.raiseShelf_params, State.remeasureEach_params]
  simp [State.installedButSensors]

/-- The bays whose sensor state an install changes. -/
def State.moved (s : State) (p : Profile) : List Bay := numbers8.filter (s.movesUnder p.sensorParams)

theorem State.installedButSensors_movesUnder :
    (s.installedButSensors p start).movesUnder p.sensorParams = s.movesUnder p.sensorParams := by
  funext n
  rw [State.movesUnder, State.installedButSensors_sensors, State.installedButSensors_now]
  rfl

theorem State.install_marks (k : LinkId) : ((s.install p start).alert k).mask = (s.alert k).mask ∧
    ((s.install p start).alert k).groups = (s.alert k).groups := by
  obtain ⟨-, -, -, hmarks⟩ := State.remeasureEach_spec (s := s.installedButSensors p start) (p := p.sensorParams) numbers8_nodup
  rw [State.install_eq, State.raiseShelf_alert_mask, State.raiseShelf_alert_groups, (hmarks k).1, (hmarks k).2,
    State.installedButSensors_alert, State.raiseEach_alert_mask, State.raiseEach_alert_groups]
  exact ⟨rfl, rfl⟩

/-- BURST_WITHDRAWN by the old bindings, SENSOR by the new ones (R32, R120). -/
theorem State.install_pendingCauses (i c : Fin 8) : ((s.install p start).alert (.bay i)).pendingCauses.get c =
    if c = 5 then raisedWith ((s.alert (.bay i)).pendingCauses.get c) (selectorsOf s.bindings i s.burst.holders) 2
    else if c = 2 then raisedWith ((s.alert (.bay i)).pendingCauses.get c) (selectorsOf p.bindings i (s.moved p)) 0
    else (s.alert (.bay i)).pendingCauses.get c := by
  obtain ⟨-, hbays, -, -⟩ := State.remeasureEach_spec (s := s.installedButSensors p start) (p := p.sensorParams) numbers8_nodup
  rw [State.install_eq, State.raiseShelf_alert_bay, hbays, State.installedButSensors_movesUnder,
    State.installedButSensors_bindings, State.installedButSensors_alert, State.raiseEach_pendingCauses]
  by_cases hwithdrawn : c = 5
  · subst hwithdrawn; rfl
  · rw [if_neg hwithdrawn, if_neg (show c ≠ BayCause.number .burstWithdrawn from hwithdrawn)]
    rfl

/-- SENSOR_ANY and PROFILE_INSTALLED (R32, R181). -/
theorem State.install_pendingCauses_shelf (c : Fin 8) : ((s.install p start).alert .shelf).pendingCauses.get c =
    if c = 3 then raisedWith ((s.alert .shelf).pendingCauses.get c) (bayFlags (s.moved p)) 0
    else raisedEmpty ((s.alert .shelf).pendingCauses.get c) (c == 7) := by
  obtain ⟨-, -, hshelf, -⟩ := State.remeasureEach_spec (s := s.installedButSensors p start) (p := p.sensorParams) numbers8_nodup
  rw [State.install_eq, State.raiseShelf_pendingCauses_empty, hshelf, State.installedButSensors_movesUnder,
    State.installedButSensors_alert, State.raiseEach_alert_shelf]
  by_cases hany : c = 3
  · subst hany; rfl
  · rw [if_neg hany, if_neg hany]
    rfl

/-- The round of a boundary that installs a profile finds nothing (R120). -/
theorem BurstUnit.round_install (b : BurstUnit) (p : Profile) (cap base : Nat) :
    (b.install p).round cap base = ⟨b.install p, Row8.const none, [], [], [], .emptied⟩ := rfl

end Install

/-! ### The boundary with an install -/

section Boundary
variable (s : State) (start : Nat) {q : Profile}

/-- The install at a boundary acts on the state that the transfer has left. -/
theorem State.atBoundary_sensors (hwaiting : s.store.waiting = some q) (n : Bay) :
    (s.atBoundary start).sensors.get n = (s.sensors.get n).agedUnder q.shelf.staleMs q.shelf.lostMs s.now := by
  rw [State.atBoundary_of_some _ _ hwaiting, State.install_sensors, SensorRec.remeasure_eq]
  rfl

theorem State.atBoundary_moved (q : Profile) : ((s.transfer start).nextEpoch).moved q =
    numbers8.filter fun n => ((s.sensors.get n).agedUnder q.shelf.staleMs q.shelf.lostMs s.now).state.code !=
      (s.sensors.get n).state.code := by
  refine List.filter_congr fun n _ => ?_
  rw [State.movesUnder, SensorRec.remeasure_eq]
  rfl

theorem State.takeBoundary_lines_of_install (hwaiting : s.store.waiting = some q) (n : Bay) :
    (s.takeBoundary start).lines.get n =
      (((s.lines.get n).transfer s.cycle.derate (s.bayBlock n).countDerate start).install (s.bayBlock n) (q.bays.get n)
        q.shelf.slotTimeUs s.cycle.derate start).atSnapshot := by
  rw [State.takeBoundary_lines, State.atBoundary_of_some _ _ hwaiting, State.install_lines, Row8.get_mapIdx]
  exact congrArg (fun l : Line => (l.install (s.bayBlock n) (q.bays.get n) q.shelf.slotTimeUs s.cycle.derate start).atSnapshot)
    (s.transfer_lines start n)

/-- The allocator after the install: demands and pins reduced to the new peaks (R81). -/
theorem State.atBoundary_alloc_of_install (hwaiting : s.store.waiting = some q) : (s.atBoundary start).alloc =
    { s.alloc with
      engine := .running
      epoch := s.alloc.epoch + 1
      demand := installLimit q s.alloc.demand
      pin := installLimit q s.alloc.pin } := by
  rw [State.atBoundary_of_some _ _ hwaiting, State.install_alloc]
  rfl

theorem State.atBoundary_installed (hwaiting : s.store.waiting = some q) : (s.atBoundary start).store.installed = some q := by
  rw [State.atBoundary_store, hwaiting]
  rfl

theorem SensorRec.isValid_eq (r : SensorRec) : r.isValid = decide (r.state = .valid) := by
  unfold SensorRec.isValid
  cases r.state <;> rfl

theorem State.atBoundary_presence (hwaiting : s.store.waiting = some q) : (s.atBoundary start).presence =
    flags8 fun n => decide (((s.sensors.get n).agedUnder q.shelf.staleMs q.shelf.lostMs s.now).state = .valid) := by
  rw [State.presence]
  congr 1
  funext n
  rw [SensorRec.isValid_eq, State.atBoundary_sensors _ _ hwaiting]

theorem State.takeBoundary_sensors_of_install (hwaiting : s.store.waiting = some q) : (s.takeBoundary start).sensors =
    Row8.ofFn fun n => (s.sensors.get n).agedUnder q.shelf.staleMs q.shelf.lostMs s.now :=
  Row8.ext_get fun n => by rw [State.takeBoundary_sensors, State.atBoundary_sensors _ _ hwaiting, Row8.get_ofFn]

theorem State.takeBoundary_params_of_install (hwaiting : s.store.waiting = some q) :
    (s.takeBoundary start).params = ⟨q.shelf.staleMs, q.shelf.lostMs, q.shelf.stepLimit⟩ := by
  rw [State.takeBoundary_params, State.atBoundary_of_some _ _ hwaiting, State.install_params]
  rfl

theorem State.takeBoundary_store_of_install (hwaiting : s.store.waiting = some q) :
    (s.takeBoundary start).store = { s.store with installed := some q, waiting := none } := by
  rw [State.takeBoundary_store, State.atBoundary_store, hwaiting]
  rfl

theorem State.beforeSnapshot_round_of_install (hwaiting : s.store.waiting = some q) :
    (s.beforeSnapshot start).round q = ⟨s.burst.install q, Row8.const none, [], [], [], .emptied⟩ := by
  rw [State.beforeSnapshot_round _ _ (s.atBoundary_installed start hwaiting), State.atBoundary_of_some _ _ hwaiting,
    State.install_burst, BurstUnit.round_install]
  rfl

theorem State.takeBoundary_burst_of_install (hwaiting : s.store.waiting = some q) :
    (s.takeBoundary start).burst = s.burst.install q := by
  rw [State.takeBoundary_burst _ _ (s.atBoundary_installed start hwaiting),
    State.beforeSnapshot_round_of_install _ _ hwaiting]

theorem State.takeBoundary_cycle_of_install (hwaiting : s.store.waiting = some q) : (s.takeBoundary start).cycle =
    { s.cycle with derate := s.cycle.derate && s.cycle.debounced, epochDue := some (start + ms q.shelf.epochMs) } := by
  rw [State.takeBoundary_cycle, State.beforeSnapshot_cycle _ _ (s.atBoundary_installed start hwaiting)]

/-- The operation in flight after an install (R34, R46, R81, R120). -/
theorem State.takeBoundary_alloc_of_install (hwaiting : s.store.waiting = some q) : (s.takeBoundary start).alloc =
    { s.alloc with
      engine := .running
      epoch := s.alloc.epoch + 1
      demand := installLimit q s.alloc.demand
      pin := installLimit q s.alloc.pin
      flight := some
        { epoch := s.alloc.epoch + 1
          profile := q
          cap := if (s.cycle.derate && s.cycle.debounced) = true then q.shelf.capDerated else q.shelf.capNormal
          derated := s.cycle.derate && s.cycle.debounced
          usable := Row8.ofFn fun n =>
            let r := (s.sensors.get n).agedUnder q.shelf.staleMs q.shelf.lostMs s.now
            if r.state = .valid ∨ r.state = .stale then r.held else none
          presence := flags8 fun n =>
            decide (((s.sensors.get n).agedUnder q.shelf.staleMs q.shelf.lostMs s.now).state = .valid)
          demand := installLimit q s.alloc.demand
          pin := installLimit q s.alloc.pin
          rotation := s.alloc.rotation
          clamped := s.takesClamp
          bursts := Row8.const none
          admitted := 0 } } := by
  have hp := s.atBoundary_installed start hwaiting
  rw [State.takeBoundary_alloc _ _ hp, State.beforeSnapshot_round_of_install _ _ hwaiting, State.beforeSnapshot_snapshot _ _ hp,
    State.atBoundary_alloc_of_install _ _ hwaiting, State.atBoundary_presence _ _ hwaiting]
  simp only [SensorRec.usable_eq, State.atBoundary_sensors _ _ hwaiting, List.length_nil]

theorem State.takeBoundary_marks_of_install (hwaiting : s.store.waiting = some q) (k : LinkId) :
    ((s.takeBoundary start).alert k).mask = (s.alert k).mask ∧ ((s.takeBoundary start).alert k).groups = (s.alert k).groups := by
  obtain ⟨hmask, hgroups⟩ := State.takeBoundary_alert_marks s start (s.atBoundary_installed start hwaiting) k
  rw [hmask, hgroups, State.atBoundary_of_some _ _ hwaiting]
  exact State.install_marks _ q start k

theorem State.takeBoundary_pendingCauses_of_install (hwaiting : s.store.waiting = some q) (i c : Fin 8) :
    ((s.takeBoundary start).alert (.bay i)).pendingCauses.get c =
      if c = 5 then raisedWith ((s.alert (.bay i)).pendingCauses.get c) (selectorsOf s.bindings i s.burst.holders) 2
      else if c = 2 then raisedWith ((s.alert (.bay i)).pendingCauses.get c) (selectorsOf q.bindings i
        (numbers8.filter fun n => ((s.sensors.get n).agedUnder q.shelf.staleMs q.shelf.lostMs s.now).state.code !=
          (s.sensors.get n).state.code)) 0
      else (s.alert (.bay i)).pendingCauses.get c := by
  rw [State.takeBoundary_pendingCauses _ _ (s.atBoundary_installed start hwaiting)
    (State.beforeSnapshot_round_of_install _ _ hwaiting)]
  simp only [selectorsOf_nil, ite_self, raisedWith_zero]
  rw [State.atBoundary_of_some _ _ hwaiting, State.install_pendingCauses, State.atBoundary_moved]
  rfl

theorem State.takeBoundary_pendingCauses_shelf_of_install (hwaiting : s.store.waiting = some q) (c : Fin 8) :
    ((s.takeBoundary start).alert .shelf).pendingCauses.get c =
      if c = 3 then raisedWith ((s.alert .shelf).pendingCauses.get c)
        (flags8 fun n => (numbers8.filter fun n => ((s.sensors.get n).agedUnder q.shelf.staleMs q.shelf.lostMs
          s.now).state.code != (s.sensors.get n).state.code).contains n) 0
      else raisedEmpty ((s.alert .shelf).pendingCauses.get c)
        (c == 7 || c == 1 && (s.cycle.derate && (!s.cycle.debounced || s.alloc.engine == .stopped))) := by
  have hp := s.atBoundary_installed start hwaiting
  have hat : ((s.atBoundary start).alert .shelf).pendingCauses.get c =
      if c = 3 then raisedWith ((s.alert .shelf).pendingCauses.get c)
        (flags8 fun n => (numbers8.filter fun n => ((s.sensors.get n).agedUnder q.shelf.staleMs q.shelf.lostMs
          s.now).state.code != (s.sensors.get n).state.code).contains n) 0
      else raisedEmpty ((s.alert .shelf).pendingCauses.get c) (c == 7) := by
    rw [State.atBoundary_of_some _ _ hwaiting, State.install_pendingCauses_shelf, State.atBoundary_moved]
    rfl
  by_cases hpool : c = 6
  · subst hpool
    rw [State.takeBoundary_poolExhausted _ _ hp (State.beforeSnapshot_round_of_install _ _ hwaiting), hat]
    rfl
  · rw [State.takeBoundary_pendingCauses_shelf _ _ hp hpool, hat]
    by_cases hsensor : c = 3
    · subst hsensor
      rfl
    · rw [if_neg hsensor, if_neg hsensor]
      by_cases hderate : c = 1
      · subst hderate; rfl
      · rw [beq_false_of_ne hderate, Bool.false_and, Bool.or_false, raisedEmpty_false]

end Boundary

/-- Settles O15: each block of the state at the boundary by the rule of its own. -/
theorem boundaryInstallsThePendingProfile : Obligations.BoundaryInstallsThePendingProfile := by
  intro t due q s hreset hengine hwaiting hflight hdue hle flag aged moved held limited
  have hw : (s.advance t).store.waiting = some q := hwaiting
  have hstopped : (s.alloc.engine == .stopped) = false := by rw [hengine]; rfl
  refine ⟨(s.advance t).takeBoundary due, exec_boundary hreset hflight hdue hle, by simp [State.advance], by simp [hreset],
    by simp, by simp, by simp, State.takeBoundary_store_of_install _ due hw, State.takeBoundary_params_of_install _ due hw,
    State.takeBoundary_cycle_of_install _ due hw, State.takeBoundary_burst_of_install _ due hw,
    State.takeBoundary_sensors_of_install _ due hw, ?_, fun n => ⟨fun hocc => ?_, fun hvacant hmode => ?_,
    fun hvacant hmode => ?_⟩, State.takeBoundary_marks_of_install _ due hw,
    State.takeBoundary_pendingCauses_of_install _ due hw, fun c => ?_⟩
  · rw [State.takeBoundary_alloc_of_install _ due hw, State.takesClamp_eq]
    obtain ⟨_, _, _, _, _, _, _, _, ⟨_, _, _, _, _, _, _, _, _⟩, _, _, _, _, _⟩ := s
    cases hengine
    rfl
  · rw [State.takeBoundary_lines_of_install _ due hw, Line.install_atSnapshot_of_occupied _ _ _ _ _ _ hocc,
      Line.installedCount_eq, Line.transfer_hold, Line.transfer_live]
    rfl
  · rw [State.takeBoundary_lines_of_install _ due hw]
    exact Line.install_atSnapshot_of_vacant _ _ _ _ _ _ hvacant ((Line.transfer_mode ..).trans hmode)
  · have hdefault : ((s.advance t).lines.get n).mode = .default := hmode
    rw [State.takeBoundary_lines_of_install _ due hw, Line.transfer_of_default due hdefault,
      Line.install_of_default _ _ _ _ _ _ hvacant hdefault]
    exact Line.atSnapshot_of_default hdefault
  · refine (State.takeBoundary_pendingCauses_shelf_of_install _ due hw c).trans ?_
    show (if c = 3 then _ else raisedEmpty ((s.alert .shelf).pendingCauses.get c)
      (c == 7 || c == 1 && (s.cycle.derate && (!s.cycle.debounced || s.alloc.engine == .stopped)))) = _
    rw [hstopped, Bool.or_false, Bool.and_assoc]
    rfl

end Sys2Proof.Machine
end

section
/-! PROOFS. PROFILE COMMIT while STOPPED: the install as the first boundary (R39, R43, R143, R180, R181). -/

namespace Sys2Proof.Machine

section FirstCommit
variable {s : State} {t : Nat} {tag : Byte}

/-- The state in which a first commit takes its boundary. -/
def State.atFirstCommit (s : State) (t : Nat) (tag : Byte) : State :=
  let q := s.atService .shelf t ⟨0x43, tag, []⟩
  q.setStore { q.store with waiting := some q.store.staging }

theorem bytes4_one : bytes4 1 = [0, 0, 0, 1] := by decide

theorem exec_profileCommit_of_stopped (hidle : s.linkIdle .shelf 0 t) (hwaiting : s.store.waiting = none)
    (hpass : s.store.firstFailure = none) (hstopped : s.alloc.engine = .stopped) :
    exec (.profileCommit t .shelf tag) s = .next (((s.atFirstCommit t tag).takeBoundary (max s.now t)).send .shelf
      ⟨0x43, tag, Status.ok.code, [0, 0, 0, 1]⟩) := by
  refine (requestEvent_idle (kind := .profileCommit) (params := []) s .shelf hidle (by simp)).trans ?_
  dsimp only
  rw [answer_of_passed (.inl rfl) (.inl rfl), dispatch_profileCommit,
    serveProfileCommit_of_stopped (s := s.atService .shelf t _) hwaiting hpass hstopped, bytes4_one]
  have hcode : Kind.profileCommit.code = 0x43 := rfl
  dsimp only [Answer.reply, State.atFirstCommit, State.atService_now]
  rw [hcode]

/-- The transmitter of two states that agree on a link's port and the clock starts the same reply. -/
theorem State.send_port_congr {q q' : State} {k : LinkId} (hport : q.port k = q'.port k) (hnow : q.now = q'.now) (x : Reply) :
    (q.send k x).port k = (q'.send k x).port k := by
  simp [State.send, State.replyStart, hport, hnow]

theorem State.send_port_of_ne {q : State} {k j : LinkId} (h : j ≠ k) (x : Reply) : (q.send k x).port j = q.port j := by
  simp [State.send, h]

/-- With nothing declared or pinned an install leaves nothing declared or pinned. -/
theorem installLimit_none (p : Profile) : installLimit p (Row8.const none) = Row8.const none :=
  Row8.ext_get fun n => by simp [installLimit]

theorem BurstUnit.holders_reset : BurstUnit.reset.holders = [] := by decide

end FirstCommit

/-- Settles O44: the boundary of an install, taken of the state that has served the commit. -/
theorem firstCommitStartsTheEngine : Obligations.FirstCommitStartsTheEngine := by
  intro t tag s hidle hsound hstopped hpass p now aged moved met
  obtain ⟨hinstalled, -, hreset, -, -⟩ := hsound
  obtain ⟨halloc, hwaiting, hburst, hderate⟩ := hreset hstopped
  have hnone : s.store.installed = none := by
    rw [← Option.not_isSome_iff_eq_none, ← hinstalled, hstopped]
    exact nofun
  have hw : (s.atFirstCommit t tag).store.waiting = some p := rfl
  have hvacantBefore (n : Bay) : (s.bayBlock n).occupied = false := by rw [State.bayBlock, hnone]; rfl
  have hflag : (s.cycle.derate && s.cycle.debounced) = s.cycle.derate := by rw [← hderate, Bool.and_self]
  have hrun := exec_profileCommit_of_stopped (tag := tag) hidle hwaiting (ProfileStore.firstFailure_eq_none hpass) hstopped
  have hnow : ((s.atFirstCommit t tag).takeBoundary now).now = now := by simp [State.atFirstCommit, now]
  have hinReset : ((s.atFirstCommit t tag).takeBoundary now).inReset = false := by simp [State.atFirstCommit, hidle.1]
  have harmed : ((s.atFirstCommit t tag).takeBoundary now).shelfResetArmed = s.shelfResetArmed := by
    simp [State.atFirstCommit]
  have hcapture : ((s.atFirstCommit t tag).takeBoundary now).capture = s.capture := by simp [State.atFirstCommit]
  have hport (k : LinkId) : ((s.atFirstCommit t tag).takeBoundary now).port k =
      (s.atService .shelf t ⟨0x43, tag, []⟩).port k := State.takeBoundary_port ..
  have hstore := State.takeBoundary_store_of_install _ now hw
  have hparams := State.takeBoundary_params_of_install _ now hw
  have hcycle := State.takeBoundary_cycle_of_install _ now hw
  have hbursts := State.takeBoundary_burst_of_install _ now hw
  have hsensors := State.takeBoundary_sensors_of_install _ now hw
  have hallocs := State.takeBoundary_alloc_of_install _ now hw
  have hlines := State.takeBoundary_lines_of_install _ now hw
  have hmarks := State.takeBoundary_marks_of_install _ now hw
  have hbays := State.takeBoundary_pendingCauses_of_install _ now hw
  have hshelf := State.takeBoundary_pendingCauses_shelf_of_install _ now hw
  rw [State.takesClamp_eq] at hallocs
  generalize (s.atFirstCommit t tag).takeBoundary now = B at *
  refine ⟨_, hrun, hnow, hinReset, harmed, hcapture, ?_, fun i => ?_, hstore, hparams, hcycle.trans ?_, hbursts.trans ?_,
    hsensors, hallocs.trans ?_, fun n => ?_, hmarks, fun i c => (hbays i c).trans ?_, fun c => (hshelf c).trans ?_⟩
  · refine State.send_port_congr (q' := s.atService .shelf t ⟨0x43, tag, []⟩) (hport .shelf) hnow _
  · rw [State.send_port_of_ne (k := .shelf) (j := .bay i) nofun, hport]
    simp
  · rw [show (s.atFirstCommit t tag).cycle = s.cycle from rfl, hflag]
  · show s.burst.install p = _
    rw [hburst]
    rfl
  · rw [show (s.atFirstCommit t tag).alloc = Allocator.reset from halloc,
      show (s.atFirstCommit t tag).cycle = s.cycle from rfl, hflag, halloc]
    have hdemand : installLimit p Allocator.reset.demand = Row8.const none := installLimit_none p
    have hpin : installLimit p Allocator.reset.pin = Row8.const none := installLimit_none p
    rw [hdemand, hpin]
    rfl
  · have hline := hlines n
    refine ⟨fun hocc => ?_, fun hvacant hmode => ?_, fun hvacant hmode => ?_⟩
    · refine hline.trans ?_
      rw [Line.install_atSnapshot_of_occupied _ _ _ _ _ _ hocc, Line.installedCount_eq, Line.transfer_hold]
      have hold : ¬((s.atFirstCommit t tag).bayBlock n).occupied = true := by
        rw [show (s.atFirstCommit t tag).bayBlock n = s.bayBlock n from rfl, hvacantBefore]
        exact Bool.false_ne_true
      simp only [hold]
      rfl
    · refine hline.trans ?_
      exact Line.install_atSnapshot_of_vacant _ _ _ _ _ _ hvacant ((Line.transfer_mode ..).trans hmode)
    · have hdefault : ((s.atFirstCommit t tag).lines.get n).mode = .default := hmode
      refine hline.trans ?_
      rw [Line.transfer_of_default now hdefault, Line.install_of_default _ _ _ _ _ _ hvacant hdefault]
      exact Line.atSnapshot_of_default hdefault
  · show (if c = 5 then raisedWith _ (selectorsOf s.bindings i s.burst.holders) 2 else _) = _
    rw [hburst, BurstUnit.holders_reset, selectorsOf_nil, raisedWith_zero]
    by_cases h : c = 5
    · subst h; rfl
    · rw [if_neg h]; rfl
  · show (if c = 3 then _ else raisedEmpty ((s.alert .shelf).pendingCauses.get c)
      (c == 7 || c == 1 && (s.cycle.derate && (!s.cycle.debounced || s.alloc.engine == .stopped)))) = _
    rw [hstopped, show (Engine.stopped == Engine.stopped) = true from rfl, Bool.or_true, Bool.and_true]
    rfl

end Sys2Proof.Machine
end

section
/-! PROOFS. The end of a reply (R152, R153, R171), and the request commands (R148 to R153). -/

namespace Sys2Proof.Machine

section ReplyEnd
variable {s : State} {k : LinkId} {t : Nat}

theorem exec_replyEnd (hreset : s.inReset = false) : exec (.replyEnd t k) s = .next ((s.endReply k t).advance t) := by
  show execReplyEnd t k s = _
  rw [execReplyEnd, eventsUpTo_of_released _ hreset]

/-- No reply, or one still being sent, does not end. -/
theorem State.endReply_of_none (h : (s.port k).reply = none ∨ max s.now t < sentBy (s.port k).tx) : s.endReply k t = s := by
  refine if_pos ?_
  rw [Transmission.ends_sentBy, Bool.or_eq_true, Option.isNone_iff_eq_none, decide_eq_true_eq]
  exact h

theorem State.endReply_of_sent {rep : Reply} (hreply : (s.port k).reply = some rep)
    (hsent : sentBy (s.port k).tx ≤ max s.now t) : s.endReply k t =
      if k == .shelf && s.shelfResetArmed then s.takeShelfReset
      else ((s.advance (sentBy (s.port k).tx)).setPort k
        { s.port k with inbox := (s.port k).inbox.tail, reply := none }).serveHead k := by
  have hnot : ¬((s.port k).reply.isNone || decide (max s.now t < (s.port k).tx.ends)) = true := by
    rw [hreply, Transmission.ends_sentBy, decide_eq_false (by omega)]
    exact Bool.false_ne_true
  rw [State.endReply]
  dsimp only
  rw [if_neg hnot, Transmission.ends_sentBy]

theorem State.endReply_of_unarmed {rep : Reply} (hreply : (s.port k).reply = some rep)
    (hsent : sentBy (s.port k).tx ≤ max s.now t) (harmed : k ≠ .shelf ∨ s.shelfResetArmed = false) : s.endReply k t =
      ((s.advance (sentBy (s.port k).tx)).setPort k
        { s.port k with inbox := (s.port k).inbox.tail, reply := none }).serveHead k := by
  rw [State.endReply_of_sent hreply hsent, if_neg]
  simp only [Bool.and_eq_true, beq_iff_eq, not_and_or, Bool.not_eq_true]
  exact harmed

theorem State.serveHead_of_nil (h : (s.port k).inbox = []) : s.serveHead k = s := by
  rw [State.serveHead, h]

/-- An instant that the clock and `t` have reached moves it no further. -/
theorem State.advance_max_of_le {e : Nat} (h : e ≤ max s.now t) : s.advance (max e t) = s.advance t := by
  simp only [State.advance]
  congr 1
  omega

end ReplyEnd

/-- Settles O21: the request leaves at the instant its reply ended, and what follows happens there. -/
theorem replyEndServesTheNextRequest : Obligations.ReplyEndServesTheNextRequest := by
  intro t k s hreset p e
  refine ⟨fun hsent => ⟨fun rep r hreply harmed => ⟨fun hone => ?_, fun r2 rest htwo => ?_⟩,
    fun rep hreply hk harmed => ?_⟩, fun hnone => ?_⟩
  · rw [exec_replyEnd hreset, State.endReply_of_unarmed hreply hsent harmed, State.serveHead_of_nil (by simp [p, hone])]
    rw [State.advance_setPort, State.advance_advance, State.advance_max_of_le hsent, hone]
    rfl
  · intro q a s'
    have hrest : (((s.advance e).setPort k { p with inbox := p.inbox.tail, reply := none }).port k).inbox = r2 :: rest := by
      simp [htwo]
    refine ⟨?_, ?_⟩
    · rw [exec_replyEnd hreset, State.endReply_of_unarmed hreply hsent harmed, State.serveHead_cons _ _ hrest, htwo]
      rfl
    · have hnow : a.state.now = max s.now e := answer_now ..
      have hstart : (s'.port k).tx.start = a.state.replyStart k := by simp [s', ← State.send_sending]
      obtain ⟨hfrom, hby⟩ := State.replyStart_bounds a.state k
      rw [hnow] at hfrom hby
      rw [hstart]
      exact ⟨hfrom, hby⟩
  · subst hk
    obtain ⟨hvalues, hout, -, -⟩ := s.takeShelfReset_spec t
    refine ⟨_, exec_replyEnd hreset, ?_⟩
    rw [State.endReply_of_sent hreply hsent, if_pos (by rw [harmed]; rfl)]
    refine ⟨hvalues, ?_, hout⟩
    show max (max s.now (s.port .shelf).tx.ends) t = max s.now t
    rw [Transmission.ends_sentBy]
    have hle : sentBy (s.port .shelf).tx ≤ max s.now t := hsent
    omega
  · rw [exec_replyEnd hreset, State.endReply_of_none hnone]

section RequestCommands
variable {s : State} {k : LinkId} {t x : Nat}

theorem State.advance_raiseShelf (s : State) (c : ShelfCause) (v : Flags8) (t : Nat) :
    (s.raiseShelf c v).advance t = (s.advance t).raiseShelf c v := rfl

theorem State.setPort_raiseShelf (s : State) (c : ShelfCause) (v : Flags8) (k : LinkId) (p : Port) :
    (s.raiseShelf c v).setPort k p = (s.setPort k p).raiseShelf c v := rfl

/-- In DISCARD a character passes by. -/
theorem State.receive_discard (b : Byte) (hrx : (s.port k).rx = .discard) : s.receive k b = s := by
  rw [State.receive, hrx]

/-- In DISCARD the characters of a frame pass by. -/
theorem State.sendBytes_discard (b : Byte) (bs : List Byte) (hrx : (s.port k).rx = .discard) (hidle : (s.port k).lineIdle x)
    (hend : (s.port k).lastCharEnd = x) : s.sendBytes k x (b :: bs) =
      (s.advance (x + charTime * (b :: bs).length)).setPort k { s.port k with
        lastCharEnd := x + charTime * (b :: bs).length
        seenTo := x + charTime * (b :: bs).length } := by
  have hpos : 0 < linkGapTime := by decide
  have hgap (y : Nat) : y < y + linkGapTime := Nat.lt_add_of_pos_right hpos
  induction bs generalizing s x b with
  | nil =>
    obtain ⟨hl, hc, hb, hseen⟩ := hidle
    rw [State.sendBytes_one s k b hl hc hb hseen (.inr (by rw [hend]; exact hgap x)), State.receive_discard b (by simp [Port.received, hrx])]
    rfl
  | cons b' bs ih =>
    obtain ⟨hl, hc, hb, hseen⟩ := hidle
    rw [State.sendBytes_cons s k b _ hl hc hb hseen (.inr (by rw [hend]; exact hgap x)), State.receive_discard b (by simp [Port.received, hrx]),
      ih b' (by simp [Port.received, hrx]) (by simp [Port.received, Port.lineIdle, hl, hc, hb]) (by simp [Port.received])]
    have htime : x + charTime + charTime * (b' :: bs).length = x + charTime * (b :: b' :: bs).length := by
      simp only [List.length_cons, Nat.mul_add]
      omega
    rw [htime, State.advance_setPort, State.advance_advance, State.setPort_setPort]
    simp only [State.setPort_port, if_true, Port.received]
    rw [Nat.max_eq_right (by rw [← htime]; omega)]

/-- A frame that meets a full inbox is discarded from its start byte on (R151). -/
theorem State.sendRequest_overrun {r : Request} (hrx : (s.port k).rx = .hunt) (hidle : (s.port k).lineIdle x)
    (hx : x + charTime * (r.params.length + 6) = t) (hin : 2 ≤ (s.port k).inbox.length) :
    s.sendRequest k t r = ((s.advance t).setPort k
      { s.port k with
        lastCharEnd := t
        seenTo := t
        rx := .discard
        counters := { (s.port k).counters with overrun := satInc8 (s.port k).counters.overrun } }).raiseShelf .linkError
          (linkErrorBits k) := by
  obtain ⟨hl, hc, hb, hseen⟩ := hidle
  have hfull : ¬(s.port k).inbox.length < 2 := Nat.not_lt.mpr hin
  have hlen : r.frame.length = r.params.length + 6 := by simp [Request.frame, Request.content]
  obtain ⟨b, bs, hframe⟩ : ∃ b bs, r.frame = startByte :: b :: bs := ⟨_, _, rfl⟩
  rw [hframe] at hlen
  simp only [List.length_cons] at hlen
  have hrest : charTime * (b :: bs).length = charTime * (r.params.length + 5) := by
    rw [List.length_cons, show bs.length + 1 = r.params.length + 5 by omega]
  have htime : x + charTime + charTime * (r.params.length + 5) = t := by
    rw [← hx]
    simp only [Nat.mul_add]
    omega
  rw [State.sendRequest, hframe, State.driveLine_bytes s k hl (x := x) (by rw [← hx]; simp only [List.length_cons]; congr 2),
    State.sendBytes_cons s k _ _ hl hc hb hseen (.inl hrx)]
  simp only [State.receive, Port.received, State.setPort_port, if_true, hrx, State.startFrame, hfull, if_false]
  rw [State.sendBytes_discard b bs (by simp [State.linkError]) (by simp [State.linkError, Port.lineIdle, hl, hc, hb])
    (by simp [State.linkError]), hrest, htime]
  have hnow : max (x + charTime) t = t := Nat.max_eq_right (by omega)
  simp only [State.linkError, State.advance_raiseShelf, State.setPort_raiseShelf, State.raiseShelf_port, State.setPort_port,
    if_true, State.advance_setPort, State.advance_advance, State.setPort_setPort, hnow]
  rfl

/-- Every request command's kind byte is a kind's. -/
theorem kind_of_request {c : Instr} {r : Request} (hc : c.request = some (t, k, r)) : ∃ kind, Kind.ofCode r.kind = some kind := by
  cases c <;> cases hc <;> exact ⟨_, rfl⟩

theorem Kind.code_of_ofCode {b : Byte} {kind : Kind} (h : Kind.ofCode b = some kind) : b = kind.code := by
  have hfound := List.find?_some h
  exact (eq_of_beq hfound).symm

/-- The kinds from 0x20 on are the shelf link's alone (R154). -/
theorem Kind.shelfOnly_of_code {kind : Kind} (h : 0x20 ≤ kind.code.toNat) : kind.shelfOnly = true := by
  cases kind
  case getBay | setDemand | askBurst | dropBurst | getAlert | setAlertMask | getHistory => exact absurd h (by decide)
  all_goals rfl

end RequestCommands

/-- Settles O23: the frame joins, or is discarded, and the handler answers it where the inbox was empty. -/
theorem requestCommandsReachTheHandler : Obligations.RequestCommandsReachTheHandler := by
  intro c t k r s hwell hc hreset hrx ht hidle p
  have hlen : r.params.length ≤ 70 := by
    cases c <;> cases hc
    case profileBlock block body =>
      have hbody : body.length ≤ 69 := by simpa [Instr.wellFormed] using hwell
      exact Nat.succ_le_succ hbody
    all_goals simp
  have hx : t - us (10 * (r.params.length + 6)) + charTime * (r.params.length + 6) = t := by
    have hmul : charTime * (r.params.length + 6) = us (10 * (r.params.length + 6)) := by
      simp only [charTime, us, Nat.mul_right_comm]
    omega
  have hexec : exec c s = .next ((s.sendRequest k t r).advance t) := by
    rw [exec_of_request hc, hreset]; rfl
  have hjoin (hin : p.inbox.length < 2) := State.sendRequest_hunt (s := s) k hrx hidle hx hin hlen
  have hempty (hin : p.inbox = []) : exec c s = .next
      ((answer (s.atService k t r) k r).state.send k ((answer (s.atService k t r) k r).reply r)) := by
    have hinbox : (s.port k).inbox = [] := hin
    rw [hexec, hjoin (by rw [hin]; exact Nat.zero_lt_two), State.join]
    simp only [State.setPort_port, if_true, hinbox, List.isEmpty_nil, List.nil_append]
    rw [State.serveHead_cons _ k (r := r) (rest := []) (by simp), State.setPort_setPort]
    refine congrArg _ (State.advance_past _ ?_)
    simp
  refine ⟨hempty, fun first hone => ?_, fun hfull => ?_, fun i hk hin hcode => ?_⟩
  · rw [hexec, hjoin (by rw [hone]; exact Nat.one_lt_two), State.join]
    simp only [State.setPort_port, if_true, show (s.port k).inbox = [first] from hone, List.isEmpty_cons, Bool.false_eq_true,
      if_false, State.setPort_setPort]
    refine congrArg _ (State.advance_past _ ?_)
    simp
  · rw [hexec, State.sendRequest_overrun hrx hidle hx hfull]
    refine congrArg _ (State.advance_past _ ?_)
    simp
  · subst hk
    obtain ⟨kind, hkind⟩ := kind_of_request hc
    have hanswer : answer (s.atService (.bay i) t r) (.bay i) r = refuse (s.atService (.bay i) t r) .access := by
      rw [answer, hkind]
      dsimp only
      rw [Kind.shelfOnly_of_code (Kind.code_of_ofCode hkind ▸ hcode)]
      rfl
    rw [hempty hin, hanswer]
    rfl

end Sys2Proof.Machine
end

section
/-! PROOFS. A character on an idle line: its bits, its end, and what the receive decoder makes of it (R148 to R152). -/

namespace Sys2Proof.Machine

section Character
variable {s : State} {k : LinkId} {x y : Nat} {rest : List Nat}

/-- The line's level after some changes: low since the last of them, or high, by their number. -/
theorem lowAfter_eq (l : List Nat) :
    (∀ x, lowAfter (some x) l = if l.length % 2 = 1 then none else (x :: l).getLast?) ∧
    lowAfter none l = if l.length % 2 = 1 then l.getLast? else none := by
  induction l with
  | nil => exact ⟨fun _ => rfl, rfl⟩
  | cons e l ih =>
    obtain ⟨hlow, hhigh⟩ := ih
    rcases Nat.mod_two_eq_zero_or_one l.length with h | h
    · have hodd : (e :: l).length % 2 = 1 := by rw [List.length_cons]; omega
      refine ⟨fun x => ?_, ?_⟩
      · rw [if_pos hodd]; exact hhigh.trans (if_neg (by omega))
      · rw [if_pos hodd]; exact (hlow e).trans (if_neg (by omega))
    · have heven : ¬(e :: l).length % 2 = 1 := by rw [List.length_cons]; omega
      refine ⟨fun x => ?_, ?_⟩
      · rw [if_neg heven, List.getLast?_cons_cons]
        have hne : l ≠ [] := by rintro rfl; cases h
        refine hhigh.trans ((if_pos h).trans ?_)
        rw [List.getLast?_cons_of_ne_nil hne]
      · rw [if_neg heven]; exact (hlow e).trans (if_pos h)

theorem lowAfter_some (x : Nat) (rest : List Nat) :
    lowAfter (some x) rest = if rest.length % 2 = 1 then none else (x :: rest).getLast? := (lowAfter_eq rest).1 x

/-- The port inside a character that began at `x`, its line followed to `y` over the changes `rest`. -/
def Port.inCharacter (p : Port) (x y : Nat) (rest : List Nat) : Port :=
  { p with
    seenTo := y
    lowSince := if rest.length % 2 = 1 then none else (x :: rest).getLast?
    char := some ⟨x, rest.map fun e => e - x⟩ }

/-- The port at the end of that character. -/
def Port.atCharEnd (p : Port) (x : Nat) (rest : List Nat) : Port :=
  { p with
    lastCharEnd := x + us 10
    seenTo := x + us 10
    lowSince := if rest.length % 2 = 1 then none else (x :: rest).getLast? }

/-- A low inside a character began in it. -/
theorem lowSince_inCharacter {a : Nat} (hrest : ∀ e ∈ rest, x ≤ e)
    (ha : (if rest.length % 2 = 1 then none else (x :: rest).getLast?) = some a) : x ≤ a := by
  split at ha
  · cases ha
  · obtain rfl | hmem := List.mem_cons.mp (List.mem_of_getLast? ha)
    · exact le_rfl
    · exact hrest a hmem

/-- The changes of a line that idles high, up to the last of them inside the character that they begin. -/
theorem State.foldl_inCharacter (hidle : (s.port k).lineIdle x)
    (hgap : (s.port k).rx = .hunt ∨ x < (s.port k).lastCharEnd + us 201) (hsorted : (x :: rest).Pairwise (· < ·))
    (hend : ∀ e ∈ rest, e < x + us 10) :
    (x :: rest).foldl (State.lineChange k) s =
      s.setPort k ((s.port k).inCharacter x (rest.getLast?.getD x) rest) := by
  obtain ⟨hl, hc, hb, hx⟩ := hidle
  obtain ⟨hafter, hsorted⟩ := List.pairwise_cons.mp hsorted
  have hq : (s.port k).quiet (max (s.port k).seenTo x) := by
    rw [Nat.max_eq_right hx]; exact Port.quiet_idle hl hc hgap
  have hstart : State.lineChange k s x =
      s.setPort k { s.port k with seenTo := x, lowSince := some x, char := some ⟨x, []⟩ } := by
    unfold State.lineChange
    rw [State.settleLink_quiet s k hq, State.seen, Nat.max_eq_right hx]
    simp [Port.fall, hl, hc, hx]
  rw [List.foldl_cons, hstart, State.foldl_inChar k rest _ ⟨x, []⟩ (by simp) (by simp [hb])
    (hsorted.imp Nat.le_of_lt) (fun e he => ⟨by simpa using (hafter e he).le, hend e he⟩) (by simp) (by simp)]
  simp only [State.setPort_port, if_true, State.setPort_setPort, List.nil_append, lowAfter_some]
  rfl

/-- Inside the character the line is only followed further. -/
theorem State.inCharacter_settle {v : Nat} (hrest : ∀ e ∈ rest, x ≤ e) (hvy : v ≤ y) (hy : y < x + us 10) :
    (s.setPort k ((s.port k).inCharacter x v rest)).settleLink k y = s.setPort k ((s.port k).inCharacter x y rest) := by
  have hport : (s.setPort k ((s.port k).inCharacter x v rest)).port k = (s.port k).inCharacter x v rest := by simp
  have hmax : max ((s.port k).inCharacter x v rest).seenTo y = y := Nat.max_eq_right hvy
  rw [State.settleLink_quiet, State.seen, hport, hmax, State.setPort_setPort]
  · rfl
  · rw [hport, hmax]
    exact Port.quiet_inChar rfl hy fun a ha => lowSince_inCharacter hrest ha

/-- The line followed to an instant inside the character. -/
theorem State.followLine_inCharacter (hidle : (s.port k).lineIdle x)
    (hgap : (s.port k).rx = .hunt ∨ x < (s.port k).lastCharEnd + us 201) (hsorted : (x :: rest).Pairwise (· < ·))
    (hend : ∀ e ∈ rest, e ≤ y) (hxy : x ≤ y) (hy : y < x + us 10) :
    s.followLine k (x :: rest) y = s.setPort k ((s.port k).inCharacter x y rest) := by
  obtain ⟨hafter, -⟩ := List.pairwise_cons.mp hsorted
  have hlast : rest.getLast?.getD x ≤ y := by
    cases h : rest.getLast? with
    | none => exact hxy
    | some e => exact hend e (List.mem_of_getLast? h)
  rw [State.followLine, State.foldl_inCharacter hidle hgap hsorted fun e he => Nat.lt_of_le_of_lt (hend e he) hy]
  exact State.inCharacter_settle (fun e he => (hafter e he).le) hlast hy

/-- The character that began at `x`, as it is sampled. -/
def charOf (x : Nat) (rest : List Nat) : RxChar := ⟨x, rest.map fun e => e - x⟩

/-- The state once the character has been taken: by its byte, or as a FRAMING error (R148 to R150). -/
def State.tookCharacter (s : State) (k : LinkId) (x : Nat) (rest : List Nat) : State :=
  let q := (s.advance (x + us 10)).setPort k ((s.port k).atCharEnd x rest)
  if (charOf x rest).stop then q.receive k (charOf x rest).byte else q.linkError k .framing (s.port k).rx.atFraming

/-- At the end of a character nothing else of its line falls due. -/
theorem Port.quiet_atCharEnd {p r : Port} (hc : p.char = none) (hrest : ∀ e ∈ rest, x ≤ e)
    (hr : r.sameLine (p.atCharEnd x rest)) : r.quiet (x + us 10) := by
  have hms : us 10 < ms 2 := by decide
  obtain ⟨rl, rc, -, re, rb⟩ := hr
  refine ⟨by rw [Port.charDue, rc]; exact congrArg _ hc, .inr ?_, ?_⟩
  · have hnot : ¬r.lastCharEnd + linkGapTime ≤ x + us 10 := by
      rw [re, Nat.not_le]
      exact Nat.lt_add_of_pos_right (by decide)
    rw [Port.gapReached, decide_eq_false hnot, Bool.and_false]
  · cases hdue : r.breakDue (x + us 10) with
    | none => rfl
    | some b =>
      obtain ⟨-, a, ha, rfl, hle⟩ := Port.breakDue_eq_some hdue
      have hxa := lowSince_inCharacter hrest (rl ▸ ha)
      omega

/-- At its end the character is taken, and nothing else falls due. -/
theorem State.inCharacter_taken {v : Nat} (hc : (s.port k).char = none)
    (hrest : ∀ e ∈ rest, x ≤ e) (hv : v ≤ x + us 10) :
    (s.setPort k ((s.port k).inCharacter x v rest)).settleLink k (x + us 10) = s.tookCharacter k x rest := by
  have hport : ((s.setPort k ((s.port k).inCharacter x v rest)).seen k (x + us 10)).port k =
      (s.port k).inCharacter x (x + us 10) rest := by
    simp only [State.seen, State.setPort_port, if_true]
    rw [show max ((s.port k).inCharacter x v rest).seenTo (x + us 10) = x + us 10 from Nat.max_eq_right hv]
    rfl
  have hmax : max ((s.setPort k ((s.port k).inCharacter x v rest)).port k).seenTo (x + us 10) = x + us 10 := by
    rw [State.setPort_port, if_pos rfl]; exact Nat.max_eq_right hv
  have hdue : ((s.port k).inCharacter x (x + us 10) rest).charDue (x + us 10) = some (charOf x rest) := by
    have hle : decide ((charOf x rest).start + charTime ≤ x + us 10) = true := decide_eq_true le_rfl
    exact (Option.filter_some ..).trans (if_pos hle)
  have htook : ((s.setPort k ((s.port k).inCharacter x v rest)).seen k (x + us 10)).takeChar k (x + us 10) =
      s.tookCharacter k x rest := by
    have hended : ((s.port k).inCharacter x (x + us 10) rest).charEnded x = (s.port k).atCharEnd x rest := by
      simp only [Port.inCharacter, Port.charEnded, Port.atCharEnd, hc]
      rfl
    have hadvanced : (((s.setPort k ((s.port k).inCharacter x v rest)).seen k (x + us 10)).advance (x + us 10)).setPort k
        ((s.port k).atCharEnd x rest) = (s.advance (x + us 10)).setPort k ((s.port k).atCharEnd x rest) := by
      simp only [State.seen, State.advance_setPort, State.setPort_setPort]
    rw [State.takeChar, hport, hdue]
    dsimp only
    rw [show (charOf x rest).start = x from rfl, hended, show x + charTime = x + us 10 from rfl, hadvanced]
    simp only [State.setPort_port, if_true]
    rfl
  have hsame : ((s.tookCharacter k x rest).port k).sameLine ((s.port k).atCharEnd x rest) := by
    unfold State.tookCharacter
    dsimp only
    split
    · have h := State.receive_sameLine ((s.advance (x + us 10)).setPort k ((s.port k).atCharEnd x rest)) k
        (charOf x rest).byte
      simpa using h
    · simp [State.linkError, Port.sameLine]
  obtain ⟨-, hg, hbreak⟩ := Port.quiet_atCharEnd hc hrest hsame
  unfold State.settleLink
  dsimp only
  rw [hmax, htook, State.takeLinkGap_quiet _ k hg, State.takeDiscardEnd_quiet _ k hg, State.takeBreak_quiet _ k hbreak]

theorem State.followLine_taken (hidle : (s.port k).lineIdle x)
    (hgap : (s.port k).rx = .hunt ∨ x < (s.port k).lastCharEnd + us 201) (hsorted : (x :: rest).Pairwise (· < ·))
    (hend : ∀ e ∈ rest, e < x + us 10) : s.followLine k (x :: rest) (x + us 10) = s.tookCharacter k x rest := by
  obtain ⟨hafter, -⟩ := List.pairwise_cons.mp hsorted
  have hlast : rest.getLast?.getD x ≤ x + us 10 := by
    cases h : rest.getLast? with
    | none => exact Nat.le_add_right _ _
    | some e => exact (hend e (List.mem_of_getLast? h)).le
  rw [State.followLine, State.foldl_inCharacter hidle hgap hsorted hend]
  exact State.inCharacter_taken hidle.2.1 (fun e he => (hafter e he).le) hlast

/-- A clock inside the character makes no difference to its end. -/
theorem State.advance_tookCharacter (hy : y ≤ x + us 10) : (s.advance y).tookCharacter k x rest = s.tookCharacter k x rest := by
  simp only [State.tookCharacter, State.advance_advance, Nat.max_eq_right hy, State.advance_port]

theorem State.tookCharacter_now : x + us 10 ≤ (s.tookCharacter k x rest).now := by
  unfold State.tookCharacter
  dsimp only
  have hkept := (keptOnLine_keepsQueue s.pending (x + us 10) k).toKeptOnLink
  have hended : ((s.advance (x + us 10)).setPort k ((s.port k).atCharEnd x rest)).keepsQueue s.pending (x + us 10) :=
    ⟨rfl, Nat.le_max_right _ _⟩
  split
  · exact (hkept.receive _ hended).2
  · exact (hkept.linkError _ _ hended).2

/-- The state that CHARACTER_TAKEN leaves when its trace ends inside the character. -/
def State.begunCharacter (s : State) (k : LinkId) (x y : Nat) (rest : List Nat) : State :=
  (s.advance y).setPort k ((s.port k).inCharacter x y rest)

theorem State.begunCharacter_port : (s.begunCharacter k x y rest).port k = (s.port k).inCharacter x y rest := by
  simp [State.begunCharacter]

/-- A row's own command on that state takes the character, where its condition holds. -/
theorem State.begunCharacter_charWhen (hc : (s.port k).char = none) (hrest : ∀ e ∈ rest, x ≤ e) (hy : y ≤ x + us 10)
    {condition : Port → RxChar → Bool} (h : condition ((s.port k).inCharacter x y rest) (charOf x rest) = true) :
    (s.begunCharacter k x y rest).charWhen k (x + us 10) condition = s.tookCharacter k x rest := by
  have hdue : ((s.port k).inCharacter x y rest).charDue (x + us 10) = some (charOf x rest) := by
    have hle : decide ((charOf x rest).start + charTime ≤ x + us 10) = true := decide_eq_true le_rfl
    exact (Option.filter_some ..).trans (if_pos hle)
  rw [State.charWhen, State.begunCharacter_port, hdue]
  dsimp only
  rw [if_pos h]
  exact (State.inCharacter_taken (s := s.advance y) hc hrest hy).trans (State.advance_tookCharacter hy)

theorem exec_characterTaken (hreset : s.inReset = false) (t : Nat) (changes : List Nat) :
    exec (.characterTaken t k changes) s = .next ((s.followLine k changes t).advance t) :=
  if_neg (by rw [hreset]; exact Bool.false_ne_true)

theorem exec_characterTaken_within (hreset : s.inReset = false) (hidle : (s.port k).lineIdle x)
    (hgap : (s.port k).rx = .hunt ∨ x < (s.port k).lastCharEnd + us 201) (hsorted : (x :: rest).Pairwise (· < ·))
    (hend : ∀ e ∈ rest, e ≤ y) (hxy : x ≤ y) (hy : y < x + us 10) :
    exec (.characterTaken y k (x :: rest)) s = .next (s.begunCharacter k x y rest) := by
  rw [exec_characterTaken hreset, State.followLine_inCharacter hidle hgap hsorted hend hxy hy, State.advance_setPort]
  rfl

theorem exec_characterTaken_whole (hreset : s.inReset = false) (hidle : (s.port k).lineIdle x)
    (hgap : (s.port k).rx = .hunt ∨ x < (s.port k).lastCharEnd + us 201) (hsorted : (x :: rest).Pairwise (· < ·))
    (hend : ∀ e ∈ rest, e < x + us 10) :
    exec (.characterTaken (x + us 10) k (x :: rest)) s = .next (s.tookCharacter k x rest) := by
  rw [exec_characterTaken hreset, State.followLine_taken hidle hgap hsorted hend,
    State.advance_past _ State.tookCharacter_now]

/-- What a row's own command does on a character in progress. -/
theorem exec_ofRow {c : Instr} {t : Nat} {condition : Port → RxChar → Bool} {q : State} (hreset : q.inReset = false)
    (hlink : c.onLink = some k) (hrequest : c.request = none) (hinstant : c.instant = t)
    (heffect : lineEffect c q = q.charWhen k t condition) {r : State} (hr : q.charWhen k t condition = r) (hnow : t ≤ r.now) :
    exec c q = .next r := by
  rw [exec_line hlink hrequest hreset, heffect, hr, hinstant, State.advance_past _ hnow]

end Character

/-! ### The bits of a character (R148) -/

section Bits
variable {x : Nat} {rest : List Nat} {b : Byte}

/-- The line's level at an offset, by the changes before it. -/
theorem charOf_levelAt (hrest : ∀ e ∈ rest, x ≤ e) (offset : Nat) : (charOf x rest).levelAt offset =
    decide ((rest.filter fun e => decide (e < x + offset)).length % 2 = 1) := by
  have hcount : ((rest.map fun e => e - x).filter (· < offset)).length =
      (rest.filter fun e => decide (e < x + offset)).length := by
    rw [List.filter_map, List.length_map]
    refine congrArg List.length (List.filter_congr fun e he => ?_)
    have hxe := hrest e he
    simp only [Function.comp_apply]
    rw [decide_eq_decide]
    omega
  rw [RxChar.levelAt, charOf, hcount]
  rfl

theorem charOf_bit (hrest : ∀ e ∈ rest, x ≤ e) (i : Nat) : (charOf x rest).bit i =
    decide ((rest.filter fun e => decide (e < x + (us i + 500))).length % 2 = 1) := by
  have htime : bitTime * i + bitTime / 2 = us i + 500 := by
    simp only [bitTime, us, Config.nsPerUs]
    omega
  rw [RxChar.bit, htime, charOf_levelAt hrest]

theorem charOf_byte (hrest : ∀ e ∈ rest, x ≤ e) (hbits : ∀ i, i < 8 → b.getLsbD i =
    decide ((rest.filter fun e => decide (e < x + (us (i + 1) + 500))).length % 2 = 1)) : (charOf x rest).byte = b := by
  refine BitVec.eq_of_getLsbD_eq fun i hi => ?_
  obtain ⟨h0, h1, h2, h3, h4, h5, h6, h7⟩ := flagsOf_getLsbD ((charOf x rest).bit 1) ((charOf x rest).bit 2)
    ((charOf x rest).bit 3) ((charOf x rest).bit 4) ((charOf x rest).bit 5) ((charOf x rest).bit 6) ((charOf x rest).bit 7)
    ((charOf x rest).bit 8)
  rw [hbits i hi, ← charOf_bit hrest, RxChar.byte]
  interval_cases i <;> assumption

theorem charOf_stop (hrest : ∀ e ∈ rest, x ≤ e) : (charOf x rest).stop =
    decide ((rest.filter fun e => decide (e < x + (us 9 + 500))).length % 2 = 1) := charOf_bit hrest 9

end Bits

/-! ### The receive decoder (R149, R151) -/

/-- Two bytes in a row, bit by bit. -/
theorem crcBytes_getLsbD (high low : Byte) (i : Nat) :
    (high ++ low : BitVec 16).getLsbD i = if i < 8 then low.getLsbD i else high.getLsbD (i - 8) := by
  have h := BitVec.getLsbD_append (x := high) (y := low) (i := i)
  by_cases hi : i < 8
  · rw [if_pos hi]; simpa [hi] using h
  · rw [if_neg hi]; simpa [hi] using h
theorem crcHigh_crcLow_iff (c : BitVec 16) (high low : Byte) : crcHigh c = high ∧ crcLow c = low ↔ c = high ++ low := by
  constructor
  · rintro ⟨rfl, rfl⟩
    refine BitVec.eq_of_getLsbD_eq fun i hi => ?_
    rw [crcBytes_getLsbD, crcHigh, crcLow, BitVec.getLsbD_extractLsb', BitVec.getLsbD_extractLsb']
    split
    · next h => rw [decide_eq_true h, Nat.zero_add, Bool.true_and]
    · next h => rw [decide_eq_true (by omega), Nat.add_sub_cancel' (by omega), Bool.true_and]
  · rintro rfl
    refine ⟨BitVec.eq_of_getLsbD_eq fun i hi => ?_, BitVec.eq_of_getLsbD_eq fun i hi => ?_⟩
    · rw [crcHigh, BitVec.getLsbD_extractLsb', crcBytes_getLsbD, decide_eq_true hi, if_neg (by omega),
        Nat.add_sub_cancel_left, Bool.true_and]
    · rw [crcLow, BitVec.getLsbD_extractLsb', crcBytes_getLsbD, decide_eq_true hi, Nat.zero_add, if_pos hi, Bool.true_and]

section Decoder
variable {s q : State} {k : LinkId} {b : Byte}

theorem State.receive_hunt_start (hrx : (q.port k).rx = .hunt) (hb : b = startByte) (hin : (q.port k).inbox.length < 2) :
    q.receive k b = q.setRx k .length := by
  rw [State.receive, hrx]
  dsimp only
  rw [if_pos hb, State.startFrame, if_pos hin]

theorem State.receive_hunt_overrun (hrx : (q.port k).rx = .hunt) (hb : b = startByte) (hin : 2 ≤ (q.port k).inbox.length) :
    q.receive k b = q.linkError k .overrun .discard := by
  rw [State.receive, hrx]
  dsimp only
  rw [if_pos hb, State.startFrame, if_neg (Nat.not_lt.mpr hin)]

theorem State.receive_hunt_noise (hrx : (q.port k).rx = .hunt) (hb : b ≠ startByte) :
    q.receive k b = q.linkError k .noise .hunt := by
  rw [State.receive, hrx]
  exact if_neg hb

theorem lengthGood_iff {n : Nat} : lengthGood n = true ↔ 2 ≤ n ∧ n ≤ 72 := by simp [lengthGood]

theorem State.receive_length_good (hrx : (q.port k).rx = .length) (hb : 2 ≤ b.toNat ∧ b.toNat ≤ 72) :
    q.receive k b = q.setRx k (.body b.toNat []) := by
  rw [State.receive, hrx]
  exact if_pos (lengthGood_iff.mpr hb)

theorem State.receive_length_bad (hrx : (q.port k).rx = .length) (hb : ¬(2 ≤ b.toNat ∧ b.toNat ≤ 72)) :
    q.receive k b = q.linkError k .length .hunt := by
  rw [State.receive, hrx]
  exact if_neg (mt lengthGood_iff.mp hb)

theorem State.receive_body {n : Nat} {got : List Byte} (hrx : (q.port k).rx = .body n got) : q.receive k b =
    if got.length + 1 < n then q.setRx k (.body n (got ++ [b])) else q.setRx k (.check (got ++ [b]) none) := by
  rw [State.receive, hrx]

theorem State.receive_check_first {got : List Byte} (hrx : (q.port k).rx = .check got none) :
    q.receive k b = q.setRx k (.check got (some b)) := by
  rw [State.receive, hrx]

theorem State.receive_check_last {kind tag high : Byte} {params : List Byte}
    (hrx : (q.port k).rx = .check (kind :: tag :: params) (some high)) : q.receive k b =
      if crc16 (byte1 (params.length + 2) :: kind :: tag :: params) = high ++ b then
        (q.setRx k .hunt).join k ⟨kind, tag, params⟩
      else q.linkError k .crc .hunt := by
  rw [State.receive, hrx]
  exact if_congr (crcHigh_crcLow_iff _ _ _) rfl rfl

/-- A request that joins behind another waits. -/
theorem State.join_of_nonempty (r : Request) (h : (q.port k).inbox ≠ []) :
    q.join k r = q.setPort k { q.port k with inbox := (q.port k).inbox ++ [r] } :=
  if_neg (by rw [List.isEmpty_iff]; exact h)

/-- A request that joins an empty inbox is served at once. -/
theorem State.join_of_empty (r : Request) (h : (q.port k).inbox = []) : q.join k r =
    (answer (q.setPort k { q.port k with inbox := [r] }) k r).state.send k
      ((answer (q.setPort k { q.port k with inbox := [r] }) k r).reply r) := by
  rw [State.join]
  dsimp only
  rw [if_pos (by rw [h]; rfl), h, List.nil_append, State.serveHead_cons _ k (r := r) (rest := []) (by simp)]

end Decoder

/-- Settles O18: the trace's bits are sampled, and each row of the table is taken at the character's end. -/
theorem charactersMoveTheReceiveDecoder : Obligations.CharactersMoveTheReceiveDecoder := by
  intro x y k rest b s hreset hidle hgap hsorted hend hxy hy t level hbits hstop p moved error taken begun
  have hrest : ∀ e ∈ rest, x ≤ e := fun e he => ((List.pairwise_cons.mp hsorted).1 e he).le
  have hinside : ∀ e ∈ rest, e < t := fun e he => Nat.lt_of_le_of_lt (hend e he) hy
  have hbegun : begun = s.begunCharacter k x y rest := rfl
  have hbyte : (charOf x rest).byte = b := charOf_byte hrest hbits
  have hgood : (charOf x rest).stop = true := (charOf_stop hrest).trans hstop
  have hne : rest ≠ [] := by
    rintro rfl
    simp [level] at hstop
  let q : State := (s.advance t).setPort k (p.atCharEnd x rest)
  have hrxq : (q.port k).rx = p.rx := by simp [q, Port.atCharEnd]
  have hinq : (q.port k).inbox = p.inbox := by simp [q, Port.atCharEnd]
  have htook : s.tookCharacter k x rest = q.receive k b := by
    unfold State.tookCharacter
    dsimp only
    rw [if_pos hgood, hbyte]
  have htaken : taken = .next (q.receive k b) := by
    rw [← htook]
    exact exec_characterTaken_whole hreset hidle hgap hsorted hinside
  have hlow : (if rest.length % 2 = 1 then none else (x :: rest).getLast?) =
      if rest.length % 2 = 1 then none else rest.getLast? := by
    rw [List.getLast?_cons_of_ne_nil hne]
  have hport : q.port k = p.atCharEnd x rest := by simp [q]
  have hmoved (rx : RxState) (c : LinkCounters) : q.setPort k { q.port k with rx := rx, counters := c } =
      moved { p with rx := rx, counters := c } := by
    rw [hport, State.setPort_setPort]
    simp only [Port.atCharEnd, hlow]
    rfl
  have hsetRx (rx : RxState) : q.setRx k rx = moved { p with rx := rx } := by
    have h := hmoved rx (q.port k).counters
    rw [hport] at h
    rw [State.setRx, hport]
    exact h
  have herror (c : LinkCause) (rx : RxState) : q.linkError k c rx =
      (moved { p with rx := rx, counters := p.counters.count c }).raiseShelf .linkError (linkErrorBits k) := by
    rw [State.linkError, hmoved, hport]
    rfl
  have hnow : t ≤ (q.receive k b).now := htook ▸ State.tookCharacter_now
  have hrow {c : Instr} {condition : Port → RxChar → Bool} (hlink : c.onLink = some k) (hrequest : c.request = none)
      (hinstant : c.instant = t) (heffect : lineEffect c begun = begun.charWhen k t condition)
      (hcondition : condition (p.inCharacter x y rest) (charOf x rest) = true) : exec c begun = taken := by
    rw [htaken]
    refine exec_ofRow (q := begun) hreset hlink hrequest hinstant heffect ?_ hnow
    rw [hbegun, ← htook]
    exact State.begunCharacter_charWhen hidle.2.1 hrest hy.le hcondition
  refine ⟨exec_characterTaken_within hreset hidle hgap hsorted hend hxy hy, fun hrx => ⟨fun hb hin => ?_, fun hb hin => ⟨?_, ?_⟩,
    fun hb => ⟨?_, ?_⟩⟩, fun hrx => ⟨fun h2 h72 => ?_, fun hbad => ⟨?_, ?_⟩⟩, fun n got hrx => ⟨fun hmore => ?_, fun hlast => ?_⟩,
    fun got hrx => ?_, fun kind tag params high hrx => ⟨?_, fun hbad => ?_, fun hcrc => ⟨fun hin => ?_, fun hin => ?_⟩⟩,
    fun hrx => ?_⟩
  case refine_1 =>
    rw [htaken, State.receive_hunt_start (hrxq.trans hrx) hb (hinq ▸ hin), hsetRx]
  case refine_2 =>
    rw [htaken, State.receive_hunt_overrun (hrxq.trans hrx) hb (hinq ▸ hin), herror]
    rfl
  case refine_3 =>
    refine hrow (condition := fun p c => c.is startByte && p.rx == .hunt && decide (2 ≤ p.inbox.length)) rfl rfl rfl rfl ?_
    have hp : (p.inCharacter x y rest).rx = .hunt := hrx
    have hi : 2 ≤ (p.inCharacter x y rest).inbox.length := hin
    simp [RxChar.is, hgood, hbyte, hb, startByte, hp, hi]
  case refine_4 =>
    rw [htaken, State.receive_hunt_noise (hrxq.trans hrx) hb, herror]
    rfl
  case refine_5 =>
    refine hrow (condition := fun p c => c.is b && p.rx == .hunt && b != startByte) rfl rfl rfl rfl ?_
    have hp : (p.inCharacter x y rest).rx = .hunt := hrx
    simp [RxChar.is, hgood, hbyte, hp]
    exact hb
  case refine_6 => rw [htaken, State.receive_length_good (hrxq.trans hrx) ⟨h2, h72⟩, hsetRx]
  case refine_7 =>
    rw [htaken, State.receive_length_bad (hrxq.trans hrx) (by omega), herror]
    rfl
  case refine_8 =>
    refine hrow (condition := fun p c => c.is b && p.rx == .length && !lengthGood b.toNat) rfl rfl rfl rfl ?_
    have hp : (p.inCharacter x y rest).rx = .length := hrx
    have hlen : lengthGood b.toNat = false := by
      rw [← Bool.not_eq_true, lengthGood_iff]
      omega
    simp [RxChar.is, hgood, hbyte, hp, hlen]
  case refine_9 => rw [htaken, State.receive_body (hrxq.trans hrx), if_pos hmore, hsetRx]
  case refine_10 => rw [htaken, State.receive_body (hrxq.trans hrx), if_neg (Nat.not_lt.mpr hlast), hsetRx]
  case refine_11 => rw [htaken, State.receive_check_first (hrxq.trans hrx), hsetRx]
  case refine_12 =>
    refine hrow (condition := fun p c => c.is b && match p.rx with
      | .check _ (some _) => true
      | _ => false) rfl rfl rfl rfl ?_
    have hp : (p.inCharacter x y rest).rx = .check (kind :: tag :: params) (some high) := hrx
    simp [RxChar.is, hgood, hbyte, hp]
  case refine_13 =>
    rw [htaken, State.receive_check_last (hrxq.trans hrx), if_neg hbad, herror]
    rfl
  case refine_14 =>
    have hjoined : (moved { p with rx := .hunt }).port k = _ := (State.setPort_port ..).trans (if_pos rfl)
    rw [htaken, State.receive_check_last (hrxq.trans hrx), if_pos hcrc, hsetRx,
      State.join_of_nonempty _ (by rw [hjoined]; exact hin), hjoined]
    simp only [moved, State.setPort_setPort]
  case refine_15 =>
    have hjoined : (moved { p with rx := .hunt }).port k = _ := (State.setPort_port ..).trans (if_pos rfl)
    rw [htaken, State.receive_check_last (hrxq.trans hrx), if_pos hcrc, hsetRx,
      State.join_of_empty _ (by rw [hjoined]; exact hin), hjoined]
    simp only [moved, State.setPort_setPort, hin, List.nil_append]
    rfl
  case refine_16 =>
    rw [htaken, State.receive_discard _ (hrxq.trans hrx)]
    simp only [q, Port.atCharEnd, hlow]
    rfl

end Sys2Proof.Machine
end

section
/-! PROOFS. A receive line outside a character: the gap after the last one, and a low (R150, R151, R157). -/

namespace Sys2Proof.Machine

section Gap
variable {s : State} {k : LinkId} {t u x : Nat}

/-- The line followed to `t` outside a character: the gap that is due is taken, and no break yet. -/
def State.gapSettled (s : State) (k : LinkId) (t : Nat) : State :=
  let u := max (s.port k).seenTo t
  ((s.seen k t).takeLinkGap k u).takeDiscardEnd k u

theorem State.seen_port_own : (s.seen k t).port k = { s.port k with seenTo := max (s.port k).seenTo t } := by
  simp [State.seen]

theorem State.settleLink_of_noChar (hc : (s.port k).char = none) :
    s.settleLink k t = (s.gapSettled k t).takeBreak k (max (s.port k).seenTo t) := by
  have hdue : ((s.seen k t).port k).charDue (max (s.port k).seenTo t) = none := by
    rw [State.seen_port_own, Port.charDue, hc]; rfl
  unfold State.settleLink
  dsimp only
  rw [State.takeChar_quiet _ k hdue]
  rfl

theorem Port.gapReached_of_noChar {p : Port} (hc : p.char = none) :
    p.gapReached u = decide (p.lastCharEnd + linkGapTime ≤ u) := by
  rw [Port.gapReached, hc]
  exact Bool.true_and _

theorem Port.gapReached_iff {p : Port} (hc : p.char = none) : p.gapReached u = true ↔ p.lastCharEnd + us 201 ≤ u := by
  have h : p.gapReached u = true ↔ p.lastCharEnd + linkGapTime ≤ u := by
    rw [Port.gapReached_of_noChar hc]
    exact decide_eq_true_iff
  exact h

theorem RxState.inFrame_iff {rx : RxState} : rx.inFrame = true ↔ rx ≠ .hunt ∧ rx ≠ .discard := by
  cases rx <;> simp [RxState.inFrame]

/-- A gap that is due inside a frame abandons it, counted. -/
theorem State.gapSettled_of_frame (hc : (s.port k).char = none) (hrx : (s.port k).rx ≠ .hunt ∧ (s.port k).rx ≠ .discard)
    (hdue : (s.port k).lastCharEnd + us 201 ≤ max (s.port k).seenTo t) : s.gapSettled k t =
      (s.setPort k
        { s.port k with
          rx := .hunt
          seenTo := max (s.port k).seenTo t
          counters := { (s.port k).counters with gap := satInc8 (s.port k).counters.gap } }).raiseShelf .linkError
        (linkErrorVector k) := by
  have hp := State.seen_port_own (s := s) (k := k) (t := t)
  have hgap : ((s.seen k t).port k).gapReached (max (s.port k).seenTo t) = true := by
    rw [hp]; exact (Port.gapReached_iff hc).mpr hdue
  have hframe : ((s.seen k t).port k).rx.inFrame = true := by rw [hp]; exact RxState.inFrame_iff.mpr hrx
  have htaken : (s.seen k t).takeLinkGap k (max (s.port k).seenTo t) = (s.seen k t).linkError k .gap .hunt := by
    rw [State.takeLinkGap, hgap, hframe]; rfl
  unfold State.gapSettled
  dsimp only
  rw [htaken, State.takeDiscardEnd_quiet _ k (.inl (by simp [State.linkError])), State.linkError, hp, State.seen,
    State.setPort_setPort]
  rfl

/-- A gap that is due in DISCARD ends it. -/
theorem State.gapSettled_of_discard (hc : (s.port k).char = none) (hrx : (s.port k).rx = .discard)
    (hdue : (s.port k).lastCharEnd + us 201 ≤ max (s.port k).seenTo t) : s.gapSettled k t =
      s.setPort k { s.port k with rx := .hunt, seenTo := max (s.port k).seenTo t } := by
  have hp := State.seen_port_own (s := s) (k := k) (t := t)
  have hgap : ((s.seen k t).port k).gapReached (max (s.port k).seenTo t) = true := by
    rw [hp]; exact (Port.gapReached_iff hc).mpr hdue
  have hrx' : ((s.seen k t).port k).rx = .discard := by rw [hp]; exact hrx
  have hstays : (s.seen k t).takeLinkGap k (max (s.port k).seenTo t) = s.seen k t := by
    rw [State.takeLinkGap, hrx']; rfl
  unfold State.gapSettled
  dsimp only
  rw [hstays, State.takeDiscardEnd, hrx', hgap, State.setRx, hp, State.seen, State.setPort_setPort]
  rfl

/-- In HUNT, and before a gap is due, the line is only followed. -/
theorem State.gapSettled_of_none (hc : (s.port k).char = none)
    (h : (s.port k).rx = .hunt ∨ ¬(s.port k).lastCharEnd + us 201 ≤ max (s.port k).seenTo t) :
    s.gapSettled k t = s.setPort k { s.port k with seenTo := max (s.port k).seenTo t } := by
  have hquiet : ((s.seen k t).port k).rx = .hunt ∨
      ((s.seen k t).port k).gapReached (max (s.port k).seenTo t) = false := by
    rw [State.seen_port_own]
    exact h.imp id fun h => Bool.eq_false_iff.mpr (mt (Port.gapReached_iff hc).mp h)
  unfold State.gapSettled
  dsimp only
  rw [State.takeLinkGap_quiet _ k hquiet, State.takeDiscardEnd_quiet _ k hquiet]
  rfl

/-- What a gap leaves of the line's record. -/
structure Port.gapTaken (u : Nat) (p q : Port) : Prop where
  line : q.lowSince = p.lowSince ∧ q.inBreak = p.inBreak
  noChar : q.char = none
  seen : q.seenTo = u
  settled : q.rx = .hunt ∨ q.gapReached u = false

theorem State.gapSettled_port (hc : (s.port k).char = none) :
    (s.port k).gapTaken (max (s.port k).seenTo t) ((s.gapSettled k t).port k) := by
  by_cases hdue : (s.port k).lastCharEnd + us 201 ≤ max (s.port k).seenTo t
  · by_cases hhunt : (s.port k).rx = .hunt
    · rw [State.gapSettled_of_none hc (.inl hhunt)]
      exact ⟨by simp, by simp [hc], by simp, .inl (by simp [hhunt])⟩
    · by_cases hdiscard : (s.port k).rx = .discard
      · rw [State.gapSettled_of_discard hc hdiscard hdue]
        exact ⟨by simp, by simp [hc], by simp, .inl (by simp)⟩
      · rw [State.gapSettled_of_frame hc ⟨hhunt, hdiscard⟩ hdue]
        exact ⟨by simp, by simp [hc], by simp, .inl (by simp)⟩
  · have hp : (s.gapSettled k t).port k = { s.port k with seenTo := max (s.port k).seenTo t } := by
      rw [State.gapSettled_of_none hc (.inr hdue)]; simp
    rw [hp]
    exact ⟨⟨rfl, rfl⟩, hc, rfl, .inr (Bool.eq_false_iff.mpr (mt (Port.gapReached_iff hc).mp hdue))⟩

/-- No break is due where the line is high, in an episode, or low for less than 2 ms. -/
theorem Port.breakDue_of_none {p : Port} (h : p.inBreak = true ∨ ∀ a, p.lowSince = some a → u < a + ms 2) :
    p.breakDue u = none := by
  cases hdue : p.breakDue u with
  | none => rfl
  | some b =>
    obtain ⟨hb, a, ha, rfl, hle⟩ := Port.breakDue_eq_some hdue
    rcases h with h | h
    · rw [hb] at h; cases h
    · exact absurd hle (Nat.not_le.mpr (h a ha))

/-- With no break due, the gap is all. -/
theorem State.settleLink_of_noBreak (hc : (s.port k).char = none)
    (hbreak : (s.port k).inBreak = true ∨ ∀ a, (s.port k).lowSince = some a → max (s.port k).seenTo t < a + ms 2) :
    s.settleLink k t = s.gapSettled k t := by
  obtain ⟨⟨hl, hb⟩, -, -, -⟩ := State.gapSettled_port (t := t) hc
  rw [State.settleLink_of_noChar hc]
  exact State.takeBreak_quiet _ k (Port.breakDue_of_none (by rw [hl, hb]; exact hbreak))

end Gap

/-! ### A clock behind a line's own -/

section Behind
variable {s s' : State} {k : LinkId} {t u x : Nat}

/-- What is in progress on the line began at `x` or later. -/
def Port.freshFrom (x : Nat) (p : Port) : Prop :=
  (∀ c, p.char = some c → x ≤ c.start) ∧ (∀ a, p.lowSince = some a → x ≤ a) ∧ x ≤ p.seenTo

/-- Two states that differ by a clock at `x` at the most, which what falls due on the link next takes further. -/
def State.catchesUp (k : LinkId) (x : Nat) (s s' : State) : Prop :=
  s' = s ∨ s' = s.advance x ∧ (s.port k).freshFrom x

theorem State.catchesUp.seen (h : s.catchesUp k x s') (t : Nat) : (s.seen k t).catchesUp k x (s'.seen k t) := by
  obtain rfl | ⟨rfl, hc, hl, hx⟩ := h
  · exact .inl rfl
  · refine .inr ⟨rfl, ?_⟩
    rw [State.seen_port_own]
    exact ⟨hc, hl, le_max_of_le_left hx⟩

theorem State.catchesUp.takeChar (h : s.catchesUp k x s') (u : Nat) : (s.takeChar k u).catchesUp k x (s'.takeChar k u) := by
  obtain rfl | ⟨rfl, hfresh⟩ := h
  · exact .inl rfl
  cases hdue : (s.port k).charDue u with
  | none =>
    rw [State.takeChar_quiet _ k hdue, State.takeChar_quiet _ k (by rw [State.advance_port]; exact hdue)]
    exact .inr ⟨rfl, hfresh⟩
  | some c =>
    have hx : x ≤ c.start + charTime := (hfresh.1 c (Option.filter_eq_some_iff.mp hdue).1).trans (Nat.le_add_right _ _)
    refine .inl ?_
    rw [State.takeChar, State.takeChar, State.advance_port, hdue]
    dsimp only
    rw [State.advance_advance, Nat.max_eq_right hx]

theorem State.catchesUp.takeLinkGap (h : s.catchesUp k x s') (u : Nat) :
    (s.takeLinkGap k u).catchesUp k x (s'.takeLinkGap k u) := by
  obtain rfl | ⟨rfl, hfresh⟩ := h
  · exact .inl rfl
  refine .inr ?_
  rw [State.takeLinkGap, State.takeLinkGap, State.advance_port]
  split
  · exact ⟨rfl, by simpa [State.linkError, Port.freshFrom] using hfresh⟩
  · exact ⟨rfl, hfresh⟩

theorem State.catchesUp.takeDiscardEnd (h : s.catchesUp k x s') (u : Nat) :
    (s.takeDiscardEnd k u).catchesUp k x (s'.takeDiscardEnd k u) := by
  obtain rfl | ⟨rfl, hfresh⟩ := h
  · exact .inl rfl
  refine .inr ?_
  rw [State.takeDiscardEnd, State.takeDiscardEnd, State.advance_port]
  split
  · exact ⟨rfl, by simpa [State.setRx, Port.freshFrom] using hfresh⟩
  · exact ⟨rfl, hfresh⟩

theorem State.catchesUp.takeBreak (h : s.catchesUp k x s') (u : Nat) :
    (s.takeBreak k u).catchesUp k x (s'.takeBreak k u) := by
  obtain rfl | ⟨rfl, hfresh⟩ := h
  · exact .inl rfl
  cases hdue : (s.port k).breakDue u with
  | none =>
    rw [State.takeBreak_quiet _ k hdue, State.takeBreak_quiet _ k (by rw [State.advance_port]; exact hdue)]
    exact .inr ⟨rfl, hfresh⟩
  | some b =>
    obtain ⟨-, a, ha, rfl, -⟩ := Port.breakDue_eq_some hdue
    have hx : x ≤ a + ms 2 := (hfresh.2.1 a ha).trans (Nat.le_add_right _ _)
    have hcount : (s.advance x).countBreak k u = s.countBreak k u := by
      rw [State.countBreak, State.countBreak, State.advance_port, hdue]
      dsimp only
      rw [State.advance_advance, Nat.max_eq_right hx]
    have harmed : (s.advance x).shelfResetArmed = s.shelfResetArmed := rfl
    refine .inl ?_
    rw [State.takeBreak, State.takeBreak, hcount, State.advance_port, harmed]

theorem State.catchesUp.settleLink (h : s.catchesUp k x s') (t : Nat) :
    (s.settleLink k t).catchesUp k x (s'.settleLink k t) := by
  have hport : s'.port k = s.port k := by
    obtain rfl | ⟨rfl, -⟩ := h
    · rfl
    · exact State.advance_port ..
  unfold State.settleLink
  dsimp only
  rw [hport]
  exact ((((h.seen t).takeChar _).takeLinkGap _).takeDiscardEnd _).takeBreak _

/-- A change of the line at an instant from `x` on leaves it fresh from there. -/
theorem Port.freshFrom_changed {p : Port} (hc : ∀ c, p.char = some c → x ≤ c.start) (hx : x ≤ p.seenTo) (starts : Bool) :
    Port.freshFrom x (if p.lowSince.isSome then p.rise else p.fall starts) := by
  have hchanged (c : RxChar) (h : p.char.map (fun c => c.changed p.seenTo) = some c) : x ≤ c.start := by
    obtain ⟨c', hc', rfl⟩ := Option.map_eq_some_iff.mp h
    exact hc c' hc'
  split
  · exact ⟨hchanged, nofun, hx⟩
  · refine ⟨fun c h => ?_, fun a ha => ?_, hx⟩
    · cases hp : p.char with
      | some c' => exact hchanged c (by rw [← h]; simp [Port.fall, hp])
      | none =>
        cases starts
        · simp [Port.fall, hp] at h
        · have : (⟨p.seenTo, []⟩ : RxChar) = c := by simpa [Port.fall, hp] using h
          exact this ▸ hx
    · have : p.seenTo = a := by simpa [Port.fall] using ha
      exact this ▸ hx

theorem State.catchesUp.lineChange (h : s.catchesUp k x s') (t : Nat) :
    (State.lineChange k s t).catchesUp k x (State.lineChange k s' t) := by
  have hstart : (s'.port k).seenTo = (s.port k).seenTo := by
    obtain rfl | ⟨rfl, -⟩ := h
    · rfl
    · rw [State.advance_port]
  unfold State.lineChange
  dsimp only
  rw [hstart]
  obtain heq | ⟨heq, hfresh⟩ := h.settleLink t
  · rw [heq]; exact .inl rfl
  · rw [heq, State.advance_port]
    refine .inr ⟨rfl, ?_⟩
    rw [State.setPort_port, if_pos rfl]
    exact Port.freshFrom_changed hfresh.1 hfresh.2.2 _

theorem State.catchesUp.followLine (h : s.catchesUp k x s') (changes : List Nat) (t : Nat) :
    (s.followLine k changes t).catchesUp k x (s'.followLine k changes t) := by
  unfold State.followLine
  suffices hfold : (changes.foldl (State.lineChange k) s).catchesUp k x (changes.foldl (State.lineChange k) s') from
    hfold.settleLink t
  induction changes generalizing s s' with
  | nil => exact h
  | cons e rest ih => exact ih (h.lineChange e)

/-- By a later instant both clocks agree. -/
theorem State.catchesUp.advance (h : s.catchesUp k x s') (ht : x ≤ t) : s'.advance t = s.advance t := by
  obtain rfl | ⟨rfl, -⟩ := h
  · rfl
  · rw [State.advance_advance, Nat.max_eq_right ht]

end Behind

/-! ### A line that has been followed -/

section Settled
variable {s : State} {k : LinkId} {t u x : Nat}

/-- What a line outside a character is like once it has been followed to `u`: quiet, and followed no further but where a reset
timed a low on it from later on. -/
structure Port.followedTo (u : Nat) (p : Port) : Prop where
  noChar : p.char = none
  reached : u ≤ p.seenTo
  quiet : p.quiet p.seenTo
  timed : p.seenTo = u ∨ p.lowSince.isSome = true

theorem State.countBreak_port {b : Nat} (hdue : (s.port k).breakDue u = some b) : (s.countBreak k u).port k =
    Port.abandon { s.port k with
      rx := (s.port k).rx.atBreak
      inBreak := true
      counters := (s.port k).counters.count .brk } b := by
  rw [State.countBreak, hdue]
  dsimp only
  unfold State.breakEffects
  cases k with
  | shelf => simp [State.linkError]
  | bay i =>
    dsimp only
    rw [State.bayLinkEffects_port, ← Transmission.cutAt_cutOff]
    simp [State.linkError, Port.abandon]

theorem Port.followedTo_of_gapTaken {p q : Port} (h : p.gapTaken u q) (hbreak : q.breakDue u = none) : q.followedTo u := by
  obtain ⟨-, hc, hseen, hgap⟩ := h
  refine ⟨hc, hseen.ge, ⟨by rw [Port.charDue, hc]; rfl, by rw [hseen]; exact hgap, by rw [hseen]; exact hbreak⟩, .inl hseen⟩

/-- A break that is taken leaves nothing due on its line. -/
theorem State.countBreak_quiet_after {b v : Nat} (hdue : (s.port k).breakDue u = some b) (hc : (s.port k).char = none)
    (hgap : (s.port k).rx = .hunt ∨ (s.port k).gapReached v = false) : ((s.countBreak k u).port k).quiet v := by
  rw [State.countBreak_port hdue]
  refine ⟨?_, ?_, rfl⟩
  · rw [Port.charDue]
    exact congrArg _ hc
  · exact hgap.imp (fun h => by simp [Port.abandon, h, RxState.atBreak]) id

/-- The line, still low, after the reset that cutting SHELF RESET's reply off takes. -/
theorem State.takeShelfReset_seen_port (h : (s.port .shelf).lowSince.isSome = true) :
    ∃ n, s.takeShelfReset.now = n ∧ (s.takeShelfReset.seen .shelf u).port .shelf =
      { Port.reset with lowSince := some n, seenTo := max n u, started := (s.port .shelf).started } := by
  obtain ⟨a, ha⟩ := Option.isSome_iff_exists.mp h
  refine ⟨s.takeShelfReset.now, rfl, ?_⟩
  have hport : s.takeShelfReset.port .shelf = (s.port .shelf).atRelease s.takeShelfReset.now :=
    State.atRelease_port ..
  rw [State.seen_port_own, hport, Port.atRelease, ha]
  rfl

theorem State.settleLink_followedTo (hc : (s.port k).char = none) (t : Nat) :
    ((s.settleLink k t).port k).followedTo (max (s.port k).seenTo t) := by
  have hgap := State.gapSettled_port (t := t) hc
  rw [State.settleLink_of_noChar hc]
  generalize s.gapSettled k t = g at hgap
  generalize max (s.port k).seenTo t = u at hgap
  cases hdue : (g.port k).breakDue u with
  | none =>
    rw [State.takeBreak_quiet _ k hdue]
    exact Port.followedTo_of_gapTaken hgap hdue
  | some b =>
    obtain ⟨-, hnoChar, hseen, hsettled⟩ := hgap
    unfold State.takeBreak
    split
    · next hreset =>
      simp only [Bool.and_eq_true, beq_iff_eq] at hreset
      obtain ⟨⟨-, rfl⟩, -⟩ := hreset
      obtain ⟨-, a, ha, -, -⟩ := Port.breakDue_eq_some hdue
      have hlow : ((g.countBreak .shelf u).port .shelf).lowSince.isSome = true := by
        rw [State.countBreak_port hdue]
        exact Option.isSome_iff_exists.mpr ⟨a, ha⟩
      obtain ⟨n, -, hport⟩ := State.takeShelfReset_seen_port (u := u) hlow
      generalize (g.countBreak .shelf u).takeShelfReset.seen .shelf u = q at hport
      cases hagain : (q.port .shelf).breakDue u with
      | none =>
        rw [State.countBreak_quiet _ _ hagain]
        have hlong := Port.breakDue_eq_none hagain
        rw [hport] at hlong ⊢
        refine ⟨rfl, le_max_right n u, ⟨rfl, .inl rfl, Port.breakDue_of_none (.inr fun a ha => ?_)⟩, .inr rfl⟩
        cases ha
        have hlater := hlong n rfl rfl
        have hpos : 0 < ms 2 := by decide
        exact max_lt (Nat.lt_add_of_pos_right hpos) hlater
      | some b =>
        have hafter (v : Nat) := State.countBreak_quiet_after (v := v) hagain (by rw [hport]; rfl) (.inl (by rw [hport]; rfl))
        rw [State.countBreak_port hagain] at hafter ⊢
        rw [hport] at hafter ⊢
        exact ⟨rfl, le_max_right n u, hafter _, .inr rfl⟩
    · have hafter := State.countBreak_quiet_after (v := u) hdue hnoChar hsettled
      rw [State.countBreak_port hdue] at hafter ⊢
      have hreached : (Port.abandon { g.port k with
          rx := (g.port k).rx.atBreak
          inBreak := true
          counters := (g.port k).counters.count .brk } b).seenTo = u := hseen
      exact ⟨hnoChar, hreached.ge, hreached.symm ▸ hafter, .inl hreached⟩

/-- Following the line to `x` first leaves its change at `x` as it was. -/
theorem State.lineChange_followed (hc : (s.port k).char = none) (x : Nat) :
    (State.lineChange k s x).catchesUp k x (State.lineChange k ((s.settleLink k x).advance x) x) := by
  obtain ⟨hnoChar, hreached, hquiet, htimed⟩ := State.settleLink_followedTo hc x
  have hstays : ((s.settleLink k x).advance x).settleLink k x = (s.settleLink k x).advance x := by
    have hx : max ((s.settleLink k x).port k).seenTo x = ((s.settleLink k x).port k).seenTo :=
      Nat.max_eq_left ((le_max_right _ _).trans hreached)
    rw [State.settleLink_quiet _ k (by rw [State.advance_port, hx]; exact hquiet), State.seen, State.advance_port, hx]
    exact State.setPort_self ..
  have hedge : ((s.settleLink k x).port k).lowSince.isSome = false →
      decide (((s.settleLink k x).port k).seenTo ≤ x) = decide ((s.port k).seenTo ≤ x) := fun hhigh => by
    rw [hhigh] at htimed
    rw [htimed.resolve_right Bool.false_ne_true, decide_eq_decide]
    omega
  have hsame : State.lineChange k ((s.settleLink k x).advance x) x = (State.lineChange k s x).advance x := by
    unfold State.lineChange
    dsimp only
    rw [hstays, State.advance_port, State.advance_setPort]
    cases hlow : ((s.settleLink k x).port k).lowSince.isSome with
    | true => rfl
    | false => rw [hedge hlow]
  refine .inr ⟨hsame, ?_⟩
  unfold State.lineChange
  dsimp only
  rw [State.setPort_port, if_pos rfl]
  exact Port.freshFrom_changed (by rw [hnoChar]; exact nofun) ((le_max_right _ _).trans hreached) _

/-- The line's trace is followed from a settled state as from the state before. -/
theorem State.followLine_followed (hc : (s.port k).char = none) (x : Nat) (rest : List Nat) (hx : x ≤ t) :
    (((s.settleLink k x).advance x).followLine k (x :: rest) t).advance t = (s.followLine k (x :: rest) t).advance t :=
  ((State.lineChange_followed hc x).followLine rest t).advance hx

end Settled

section Commands
variable {s : State} {k : LinkId} {t x : Nat}

theorem exec_linkGap (hreset : s.inReset = false) : exec (.linkGap t k) s = .next ((s.settleLink k t).advance t) := by
  show execLinkGap t k s = _
  rw [execLinkGap, eventsUpTo_of_released _ hreset]

theorem exec_discardEnd (hreset : s.inReset = false) : exec (.discardEnd t k) s = .next ((s.settleLink k t).advance t) := by
  show execDiscardEnd t k s = _
  rw [execDiscardEnd, eventsUpTo_of_released _ hreset]

/-- Nothing on a link takes the part into reset. -/
theorem keptOnLine_released (k : LinkId) : KeptOnLine k fun s => s.inReset = false where
  advance _ hs := hs
  setPort _ hs := hs
  error hs := hs
  linkReset _ _ _ hs := by simpa using hs
  service h hs := h.portsKept.2.1.trans hs
  taken _ _ _ := rfl

/-- A character whose stop bit is sampled low. -/
theorem State.tookCharacter_framing {rest : List Nat} (hstop : (charOf x rest).stop = false) : s.tookCharacter k x rest =
    ((s.advance (x + us 10)).setPort k
      { s.port k with
        lastCharEnd := x + us 10
        seenTo := x + us 10
        lowSince := if rest.length % 2 = 1 then none else (x :: rest).getLast?
        rx := if (s.port k).rx = .discard then .discard else .hunt
        counters := { (s.port k).counters with framing := satInc8 (s.port k).counters.framing } }).raiseShelf .linkError
      (linkErrorBits k) := by
  have hrx : (s.port k).rx.atFraming = if (s.port k).rx = .discard then .discard else .hunt := by
    cases (s.port k).rx <;> rfl
  unfold State.tookCharacter
  dsimp only
  rw [if_neg (by rw [hstop]; exact Bool.false_ne_true), hrx, State.linkError, State.setPort_port, if_pos rfl,
    State.setPort_setPort]
  rfl

end Commands

/-- Settles O19: the stop bit at the character's end, the gap where it is due, and the gap before the first change of a line. -/
theorem framingErrorsAndGapsEndFrames : Obligations.FramingErrorsAndGapsEndFrames := by
  intro k s hreset p
  refine ⟨?_, ?_, ?_⟩
  · intro x y rest hidle hgap hsorted hend hxy hy hlow begun
    have hrest : ∀ e ∈ rest, x ≤ e := fun e he => ((List.pairwise_cons.mp hsorted).1 e he).le
    have hinside : ∀ e ∈ rest, e < x + us 10 := fun e he => Nat.lt_of_le_of_lt (hend e he) hy
    have hstop : (charOf x rest).stop = false := by
      rw [charOf_stop hrest, ← Nat.add_assoc, hlow]
      rfl
    have hwhole := exec_characterTaken_whole hreset hidle hgap hsorted hinside
    refine ⟨exec_characterTaken_within hreset hidle hgap hsorted hend hxy hy, ?_, ?_⟩
    · rw [hwhole]
      refine exec_ofRow (q := begun) (k := k) (t := x + us 10) (condition := fun _ c => !c.stop) hreset rfl rfl rfl rfl ?_
        State.tookCharacter_now
      exact State.begunCharacter_charWhen hidle.2.1 hrest hy.le (by rw [hstop]; rfl)
    · rw [hwhole, State.tookCharacter_framing hstop]
  · intro t u due hc hbreak
    have hsettle := State.settleLink_of_noBreak hc hbreak
    rw [exec_linkGap hreset, exec_discardEnd hreset, hsettle]
    refine ⟨fun hhunt hdiscard hdue => ?_, fun hrx hdue => ?_, fun hnone => ?_⟩
    · rw [State.gapSettled_of_frame hc ⟨hhunt, hdiscard⟩ hdue, State.advance_raiseShelf, State.advance_setPort]
      rfl
    · rw [State.gapSettled_of_discard hc hrx hdue, State.advance_setPort]
    · rw [State.gapSettled_of_none hc hnone, State.advance_setPort]
      exact ⟨rfl, rfl⟩
  · intro x t rest s1 hc hx hs1
    rw [exec_linkGap hreset, Host.Outcome.next.injEq] at hs1
    subst hs1
    rw [exec_characterTaken hreset, exec_characterTaken (s := (s.settleLink k x).advance x) ((keptOnLine_released k).settleLink x hreset),
      State.followLine_followed hc x rest hx]

end Sys2Proof.Machine
end

section
/-! PROOFS. A line that is low for 2 ms: the break, and the end of its episode (R150, R157, R158, R171). -/

namespace Sys2Proof.Machine

theorem AlertState.raise_raise (a : AlertState) (c : Fin 8) (v : Flags8) (r : BitVec 2) :
    (a.raise c v r).raise c v r = a.raise c v r := by
  have hmerge (held : Option Raised) : Raised.merge (some (Raised.merge held v r)) v r = Raised.merge held v r := by
    cases held <;> simp [Raised.merge, BitVec.or_assoc]
  simp [AlertState.raise, hmerge]

theorem State.raiseShelf_raiseShelf (s : State) (c : ShelfCause) (v : Flags8) :
    (s.raiseShelf c v).raiseShelf c v = s.raiseShelf c v := by
  simp [State.raiseShelf, AlertState.raise_raise]

section Break
variable {s : State} {k : LinkId} {t a : Nat}

/-- The counters once a gap that is due has been counted (R150). -/
def Port.gapCounted (p : Port) (u : Nat) : LinkCounters :=
  { p.counters with
    gap := if (p.rx ≠ .hunt ∧ p.rx ≠ .discard) ∧ p.lastCharEnd + us 201 ≤ u then satInc8 p.counters.gap else p.counters.gap }

/-- The port once the gap that is due has been taken. -/
def Port.afterGap (p : Port) (u : Nat) : Port :=
  { p with
    rx := if p.lastCharEnd + us 201 ≤ u then .hunt else p.rx
    seenTo := u
    counters := p.gapCounted u }

/-- The gap that is due, in one formula. -/
theorem State.gapSettled_eq (hc : (s.port k).char = none) : s.gapSettled k t =
    if ((s.port k).rx ≠ .hunt ∧ (s.port k).rx ≠ .discard) ∧ (s.port k).lastCharEnd + us 201 ≤ max (s.port k).seenTo t then
      (s.setPort k ((s.port k).afterGap (max (s.port k).seenTo t))).raiseShelf .linkError (linkErrorVector k)
    else s.setPort k ((s.port k).afterGap (max (s.port k).seenTo t)) := by
  by_cases hdue : (s.port k).lastCharEnd + us 201 ≤ max (s.port k).seenTo t
  · by_cases hframe : (s.port k).rx ≠ .hunt ∧ (s.port k).rx ≠ .discard
    · rw [if_pos ⟨hframe, hdue⟩, State.gapSettled_of_frame hc hframe hdue]
      simp only [Port.afterGap, Port.gapCounted, if_pos hdue, if_pos (And.intro hframe hdue)]
    · rw [if_neg (mt And.left hframe)]
      simp only [Port.afterGap, Port.gapCounted, if_pos hdue, if_neg (mt And.left hframe)]
      by_cases hhunt : (s.port k).rx = .hunt
      · rw [State.gapSettled_of_none hc (.inl hhunt), ← hhunt]
      · exact State.gapSettled_of_discard hc (by simpa [hhunt] using hframe) hdue
  · rw [if_neg (mt And.right hdue), State.gapSettled_of_none hc (.inr hdue)]
    simp only [Port.afterGap, Port.gapCounted, if_neg hdue, if_neg (mt And.right hdue)]

/-- Where no gap is counted, the line is followed, and its decoder alone may have moved. -/
theorem State.gapSettled_of_quiet (hc : (s.port k).char = none)
    (hquiet : ¬(((s.port k).rx ≠ .hunt ∧ (s.port k).rx ≠ .discard) ∧ (s.port k).lastCharEnd + us 201 ≤ max (s.port k).seenTo t)) :
    ∃ rx, s.gapSettled k t = s.setPort k { s.port k with rx := rx, seenTo := max (s.port k).seenTo t } := by
  have hcounted : (s.port k).gapCounted (max (s.port k).seenTo t) = (s.port k).counters := by
    rw [Port.gapCounted, if_neg hquiet]
  refine ⟨((s.port k).afterGap (max (s.port k).seenTo t)).rx, ?_⟩
  rw [State.gapSettled_eq hc, if_neg hquiet, Port.afterGap, hcounted]

/-- The port as the break finds it in the terms of the statement: decoder, episode and counters. -/
def Port.broken (p : Port) (u : Nat) : Port :=
  { p with
    rx := if (p.rx ≠ .hunt ∧ p.rx ≠ .discard) ∧ ¬p.lastCharEnd + us 201 ≤ u then .discard else .hunt
    inBreak := true
    seenTo := u
    counters := { p.gapCounted u with brk := satInc8 p.counters.brk } }

theorem Port.afterGap_atBreak (p : Port) (u : Nat) : (p.afterGap u).rx.atBreak =
    if (p.rx ≠ .hunt ∧ p.rx ≠ .discard) ∧ ¬p.lastCharEnd + us 201 ≤ u then .discard else .hunt := by
  unfold Port.afterGap
  dsimp only
  by_cases hdue : p.lastCharEnd + us 201 ≤ u
  · rw [if_pos hdue, if_neg (fun h => h.2 hdue)]
    rfl
  · rw [if_neg hdue, RxState.atBreak_eq]
    by_cases hframe : p.rx = .hunt ∨ p.rx = .discard
    · rw [if_pos hframe, if_neg (fun h => hframe.elim h.1.1 h.1.2)]
    · rw [if_neg hframe, if_pos ⟨not_or.mp hframe, hdue⟩]

theorem LinkCounters.count_brk (c : LinkCounters) : c.count .brk = { c with brk := satInc8 c.brk } := rfl

theorem Port.broken_eq (p : Port) (u : Nat) : p.broken u =
    { p.afterGap u with
      rx := (p.afterGap u).rx.atBreak
      inBreak := true
      counters := (p.afterGap u).counters.count .brk } := by
  rw [Port.afterGap_atBreak, LinkCounters.count_brk]
  unfold Port.broken Port.afterGap Port.gapCounted
  dsimp only

/-- The break, counted, before what it resets. -/
theorem State.gapSettled_brk (hc : (s.port k).char = none) (b : Nat) :
    let e := ((s.gapSettled k t).advance b).linkError k .brk ((s.gapSettled k t).port k).rx
    e.setPort k { e.port k with rx := (e.port k).rx.atBreak, inBreak := true } =
      ((s.advance b).setPort k ((s.port k).broken (max (s.port k).seenTo t))).raiseShelf .linkError (linkErrorVector k) := by
  intro e
  rw [Port.broken_eq]
  have hgap := State.gapSettled_eq (t := t) hc
  generalize (s.port k).afterGap (max (s.port k).seenTo t) = p at hgap ⊢
  have hport : (s.gapSettled k t).port k = p := by
    rw [hgap]
    split <;> simp
  have he : e = ((s.advance b).setPort k { p with counters := p.counters.count .brk }).raiseShelf .linkError
      (linkErrorVector k) := by
    simp only [e, State.linkError, State.advance_port, hport]
    rw [hgap]
    split
    · rw [State.advance_raiseShelf, State.setPort_raiseShelf, State.raiseShelf_raiseShelf, State.advance_setPort,
        State.setPort_setPort]
    · rw [State.advance_setPort, State.setPort_setPort]
  rw [he, State.setPort_raiseShelf, State.setPort_setPort, State.raiseShelf_port, State.setPort_port, if_pos rfl]

/-- When the break falls due on a line outside a character. -/
theorem Port.breakDue_of_low {p : Port} {u : Nat} (hlow : p.lowSince = some a) (hbreak : p.inBreak = false)
    (hdue : a + ms 2 ≤ u) : p.breakDue u = some (a + ms 2) := by
  rw [Port.breakDue, if_neg (by rw [hbreak]; exact Bool.false_ne_true), hlow]
  exact if_pos (decide_eq_true hdue)

theorem State.gapSettled_breakDue (hc : (s.port k).char = none) (hlow : (s.port k).lowSince = some a)
    (hbreak : (s.port k).inBreak = false) (hdue : a + ms 2 ≤ max (s.port k).seenTo t) :
    ((s.gapSettled k t).port k).breakDue (max (s.port k).seenTo t) = some (a + ms 2) := by
  obtain ⟨⟨hl, hb⟩, -, -, -⟩ := State.gapSettled_port (t := t) hc
  exact Port.breakDue_of_low (hl.trans hlow) (hb.trans hbreak) hdue

/-- The break of a bay link: its Link Port, then what the link's reset reaches. -/
theorem State.countBreak_bay {i : Fin 8} (hc : (s.port (.bay i)).char = none) (hlow : (s.port (.bay i)).lowSince = some a)
    (hbreak : (s.port (.bay i)).inBreak = false) (hdue : a + ms 2 ≤ max (s.port (.bay i)).seenTo t) :
    (s.gapSettled (.bay i) t).countBreak (.bay i) (max (s.port (.bay i)).seenTo t) =
      (((s.advance (a + ms 2)).setPort (.bay i) ((s.port (.bay i)).broken (max (s.port (.bay i)).seenTo t))).raiseShelf
        .linkError (flagBit i)).bayLinkEffects i (a + ms 2) := by
  rw [State.countBreak, State.gapSettled_breakDue hc hlow hbreak hdue]
  exact congrArg (fun q : State => q.bayLinkEffects i (a + ms 2)) (State.gapSettled_brk hc (a + ms 2))

/-- The break of the shelf link: its Link Port alone. -/
theorem State.countBreak_shelf (hc : (s.port .shelf).char = none) (hlow : (s.port .shelf).lowSince = some a)
    (hbreak : (s.port .shelf).inBreak = false) (hdue : a + ms 2 ≤ max (s.port .shelf).seenTo t) :
    (s.gapSettled .shelf t).countBreak .shelf (max (s.port .shelf).seenTo t) =
      ((s.advance (a + ms 2)).setPort .shelf
        (((s.port .shelf).broken (max (s.port .shelf).seenTo t)).abandon (a + ms 2))).raiseShelf .linkError 0 := by
  rw [State.countBreak, State.gapSettled_breakDue hc hlow hbreak hdue]
  refine (congrArg (fun q : State => q.setPort .shelf ((q.port .shelf).abandon (a + ms 2)))
    (State.gapSettled_brk hc (a + ms 2))).trans ?_
  rw [State.setPort_raiseShelf, State.setPort_setPort, State.raiseShelf_port, State.setPort_port, if_pos rfl]
  rfl

theorem State.gapSettled_shelfResetArmed : (s.gapSettled k t).shelfResetArmed = s.shelfResetArmed := by
  unfold State.gapSettled State.takeLinkGap State.takeDiscardEnd
  dsimp only
  split <;> split <;> rfl

theorem exec_lineBreak (hreset : s.inReset = false) : exec (.lineBreak t k) s = .next ((s.settleLink k t).advance t) := by
  show execLineBreak t k s = _
  rw [execLineBreak, eventsUpTo_of_released _ hreset]

theorem exec_breakEpisodeEnd (hreset : s.inReset = false) :
    exec (.breakEpisodeEnd t k) s = .next ((s.endBreak k t).advance t) := by
  show execBreakEpisodeEnd t k s = _
  rw [execBreakEpisodeEnd, eventsUpTo_of_released _ hreset]

/-- With no reset arranged on the link, the break is all. -/
theorem State.settleLink_of_break (hc : (s.port k).char = none) (h : k ≠ .shelf ∨ s.shelfResetArmed = false) :
    s.settleLink k t = (s.gapSettled k t).countBreak k (max (s.port k).seenTo t) := by
  rw [State.settleLink_of_noChar hc, State.takeBreak, State.gapSettled_shelfResetArmed, if_neg]
  rintro hboth
  simp only [Bool.and_eq_true, beq_iff_eq] at hboth
  obtain ⟨⟨-, hk⟩, harmed⟩ := hboth
  exact h.elim (fun h => h hk) fun h => Bool.false_ne_true (h.symm.trans harmed)

end Break

section ShelfBreak
variable {s : State} {t a : Nat}

/-- Where SHELF RESET is arranged, the cut-off of its reply takes the reset, and the low is timed from there. -/
theorem State.settleLink_of_cutOff (hc : (s.port .shelf).char = none) (hlow : (s.port .shelf).lowSince = some a)
    (hbreak : (s.port .shelf).inBreak = false) (hdue : a + ms 2 ≤ max (s.port .shelf).seenTo t)
    (harmed : s.shelfResetArmed = true) : s.settleLink .shelf t =
      ((((s.gapSettled .shelf t).countBreak .shelf (max (s.port .shelf).seenTo t)).takeShelfReset).seen .shelf
        (max (s.port .shelf).seenTo t)).countBreak .shelf (max (s.port .shelf).seenTo t) := by
  rw [State.settleLink_of_noChar hc, State.takeBreak, State.gapSettled_shelfResetArmed,
    State.gapSettled_breakDue hc hlow hbreak hdue, harmed]
  rfl

/-- A low that is timed from `n` on a line followed to `max n u` meets a break by `max n u` exactly where it does by `u`. -/
theorem Port.breakDue_of_timed {p : Port} {n u : Nat} (hlow : p.lowSince = some n) (hbreak : p.inBreak = false) :
    p.breakDue (max n u) = p.breakDue u := by
  have hpos : 0 < ms 2 := by decide
  by_cases hdue : n + ms 2 ≤ u
  · rw [Port.breakDue_of_low hlow hbreak hdue, Port.breakDue_of_low hlow hbreak (hdue.trans (le_max_right _ _))]
  · have hnot (v : Nat) (hv : v < n + ms 2) : p.breakDue v = none :=
      Port.breakDue_of_none (.inr fun a ha => by rw [hlow] at ha; cases ha; exact hv)
    rw [hnot u (by omega), hnot _ (by omega)]

/-- The line, still low after that reset and followed on to `u`, is settled as it is followed. -/
theorem State.settleLink_heldLow {q : State} {n u t : Nat} {p : Port} (hport : q.port .shelf = p)
    (hp : p.rx = .hunt ∧ p.char = none ∧ p.lowSince = some n ∧ p.inBreak = false ∧ p.seenTo = max n u) (hu : t ≤ u)
    (harmed : q.shelfResetArmed = false) : q.settleLink .shelf t = q.countBreak .shelf u := by
  obtain ⟨hrx, hc, hlow, hbreak, hseen⟩ := hp
  subst hport
  have hmax : max (q.port .shelf).seenTo t = (q.port .shelf).seenTo := by omega
  have hgap : q.gapSettled .shelf t = q := by
    rw [State.gapSettled_of_none hc (.inl hrx), hmax]
    exact State.setPort_self ..
  rw [State.settleLink_of_break hc (.inr harmed), hgap, hmax, hseen, State.countBreak, State.countBreak,
    Port.breakDue_of_timed hlow hbreak]

end ShelfBreak

/-- What a bay link reset does is said of alerts, records and bursts before it alone. -/
theorem bayLinkWasReset.of_same {i : Fin 8} {q s s' : State} (h : bayLinkWasReset i q s')
    (halert : q.alert (.bay i) = s.alert (.bay i)) (halloc : q.alloc = s.alloc) (hburst : q.burst = s.burst)
    (hstore : q.store = s.store) : bayLinkWasReset i s s' := by
  have hbindings : q.bindings = s.bindings := by rw [State.bindings, hstore]; rfl
  have hcredit (l : List Bay) (p : Pool) : q.credit l p = s.credit l p := by rw [State.credit, hburst]; rfl
  unfold bayLinkWasReset at h ⊢
  simp only [halert, halloc, hburst, hbindings, hcredit] at h
  exact h

/-- The values after a reset depend on the raw lines, the counts of replies and the queue alone. -/
theorem State.hasResetValues.of_sameRaw {s s' q : State} {t : Nat} (h : s'.hasResetValues q t) (hcapture : q.capture = s.capture)
    (hcycle : q.cycle = s.cycle) (hports : ∀ k, (q.port k).started = (s.port k).started ∧ (q.port k).lowSince = (s.port k).lowSince)
    (hpending : q.pending = s.pending) : s'.hasResetValues s t := by
  unfold State.hasResetValues at h ⊢
  simp only [hcapture, hcycle, hpending, fun k => (hports k).1, fun k => (hports k).2] at h
  exact h

/-- Settles O20: the gap that is due, the break with what it resets, and the end of its episode. -/
theorem breaksResetALink : Obligations.BreaksResetALink := by
  intro t a s hreset u gap inFrame low struck breaks
  have hstruck (p : Port) : (p.broken (u p)).abandon (a + ms 2) = struck p := by
    simp only [Port.abandon, Transmission.cutAt_cutOff, Port.broken, Port.gapCounted, struck, inFrame, gap, u]
  refine ⟨fun i hbreaks => ?_, fun hbreaks harmed => ?_, fun hbreaks harmed => ?_, fun k hlow hquiet => ⟨fun hgap hbreak => ?_,
    fun hbreak => ?_⟩⟩
  case refine_1 =>
    obtain ⟨⟨hlow, hc⟩, hbreak, hdue⟩ := hbreaks
    have hexec := exec_lineBreak (t := t) (k := .bay i) hreset
    rw [State.settleLink_of_break hc (.inl nofun), State.countBreak_bay hc hlow hbreak hdue] at hexec
    refine ⟨_, hexec, ?_⟩
    generalize hq : ((s.advance (a + ms 2)).setPort (.bay i) ((s.port (.bay i)).broken (u (s.port (.bay i))))).raiseShelf
      .linkError (flagBit i) = q
    have hbay (j : Fin 8) : q.alert (.bay j) = s.alert (.bay j) := hq ▸ State.raiseShelf_alert_bay ..
    have hport (k : LinkId) : q.port k = if k = .bay i then (s.port (.bay i)).broken (u (s.port (.bay i))) else s.port k := by
      rw [← hq, State.raiseShelf_port, State.setPort_port, State.advance_port]
    have hwas : bayLinkWasReset i s ((q.bayLinkEffects i (a + ms 2)).advance t) :=
      (q.bayLinkEffects_wasReset i (a + ms 2)).of_same (hbay i) (hq ▸ rfl) (hq ▸ rfl) (hq ▸ rfl)
    refine ⟨hwas, ?_, fun k hk => ?_, ?_, fun j hj => ?_, ?_, ?_, ?_, ?_, ?_, ?_, ?_, ?_, ?_⟩
    · rw [State.advance_port, State.bayLinkEffects_port, hport, if_pos rfl, ← hstruck, Port.abandon, Transmission.cutAt_cutOff]
    · rw [State.advance_port, State.bayLinkEffects_port_of_ne _ _ _ hk, hport, if_neg hk]
    · rw [State.advance_alert, State.bayLinkEffects_alert_of_ne _ _ _ (k := .shelf) nofun, ← hq]
      rfl
    · rw [State.advance_alert, State.bayLinkEffects_alert_of_ne _ _ _ (fun h => hj (LinkId.bay.inj h)), hbay]
    · simp [← hq, Nat.max_assoc]
    all_goals simp [← hq, hreset]
  case refine_2 =>
    obtain ⟨⟨hlow, hc⟩, hbreak, hdue⟩ := hbreaks
    rw [exec_lineBreak hreset, State.settleLink_of_break hc (.inr harmed), State.countBreak_shelf hc hlow hbreak hdue, hstruck,
      State.advance_raiseShelf, State.advance_setPort, State.advance_advance]
  case refine_3 =>
    obtain ⟨⟨hlow, hc⟩, hbreak, hdue⟩ := hbreaks
    intro cut
    have hexec := exec_lineBreak (t := t) (k := .shelf) hreset
    rw [State.settleLink_of_cutOff hc hlow hbreak hdue harmed, State.countBreak_shelf hc hlow hbreak hdue, hstruck] at hexec
    generalize hc' : ((s.advance (a + ms 2)).setPort .shelf (struck (s.port .shelf))).raiseShelf .linkError 0 = c at hexec
    have hports (k : LinkId) : (c.port k).started = (s.port k).started ∧ (c.port k).lowSince = (s.port k).lowSince := by
      subst hc'
      rw [State.raiseShelf_port, State.setPort_port]
      split
      · next h => subst h; exact ⟨rfl, rfl⟩
      · exact ⟨rfl, rfl⟩
    have hnow : c.takeShelfReset.now = cut := by
      subst hc'
      show max (max s.now (a + ms 2)) (((((s.advance (a + ms 2)).setPort .shelf (struck (s.port .shelf))).raiseShelf
        .linkError 0).port .shelf).tx.ends) = cut
      rw [State.raiseShelf_port, State.setPort_port, if_pos rfl, Nat.max_assoc, Transmission.ends_sentBy]
    have hvalues : c.takeShelfReset.hasResetValues s cut := by
      rw [← hnow]
      exact State.hasResetValues.of_sameRaw (((c.advance _).atRelease_hasResetValues _).of_advance) (by subst hc'; rfl)
        (by subst hc'; rfl) hports (by subst hc'; rfl)
    obtain ⟨n, hn, hheld⟩ := State.takeShelfReset_seen_port (s := c) (u := u (s.port .shelf))
      (by rw [(hports .shelf).2, hlow]; rfl)
    obtain rfl : n = cut := hn.symm.trans hnow
    have hseen : (c.takeShelfReset.port .shelf).seenTo = cut := (congrArg Port.seenTo (State.atRelease_port ..)).trans hnow
    have harmed' : c.takeShelfReset.shelfResetArmed = false := rfl
    have hout : c.takeShelfReset.inReset = false := rfl
    generalize c.takeShelfReset = s1 at hexec hnow hvalues hn hheld hseen harmed' hout
    refine ⟨s1, hvalues, hnow, hout, ?_⟩
    intro held
    have hsame : s1.seen .shelf (u (s.port .shelf)) = held := by
      rw [State.seen, hseen]
    rw [hsame] at hexec hheld
    have hsettle := State.settleLink_heldLow hheld ⟨rfl, rfl, rfl, rfl, rfl⟩ (le_max_right (s.port .shelf).seenTo t) harmed'
    have hagain : exec (.lineBreak t .shelf) s = exec (.lineBreak t .shelf) held := by
      rw [hexec, exec_lineBreak (s := held) hout, hsettle]
    refine ⟨hagain, fun hshort => ?_⟩
    rw [hexec, State.countBreak_quiet]
    rw [hheld, ← Port.breakDue_of_timed rfl rfl]
    exact Port.breakDue_of_none (.inr fun b hb => by cases hb; exact hshort)
  case refine_4 =>
    obtain ⟨hl, hc⟩ := hlow
    have hbreak' : (s.port k).inBreak = true ∨ ∀ b, (s.port k).lowSince = some b → max (s.port k).seenTo t < b + ms 2 :=
      hbreak.imp id fun h b hb => by rw [hl] at hb; cases hb; exact h
    rw [exec_lineBreak hreset, State.settleLink_of_noBreak hc hbreak', State.gapSettled_of_none hc hgap, State.advance_setPort]
  case refine_5 =>
    obtain ⟨hl, hc⟩ := hlow
    have hsettle := State.settleLink_of_noBreak (t := t) hc (.inl hbreak)
    obtain ⟨rx, hgapped⟩ := State.gapSettled_of_quiet (t := t) hc hquiet
    rw [exec_breakEpisodeEnd hreset, State.endBreak, State.lineChange, hsettle, hgapped]
    dsimp only
    rw [State.setPort_port, if_pos rfl, if_pos hbreak, hl, if_pos (Option.isSome_some), State.setPort_setPort,
      State.advance_setPort, Port.rise]
    dsimp only
    rw [if_pos hbreak, hc]
    rfl

end Sys2Proof.Machine
end

section
/-! PROOFS. What a bay link can reach (R109, R119, R150, R153, R157, R160, R161). -/

namespace Sys2Proof.Machine

/-! ### Entries and bursts that come and go for the bays of a list -/

section Bursts
variable {b b' b'' : BurstUnit} {own : List Bay} {n : Bay} {p : Pool}

/-- `b'` is `b` but for entries and bursts of bays in `own`, and what left was credited to its pools. -/
structure BurstUnit.within (own : List Bay) (b b' : BurstUnit) : Prop where
  queue : (b'.queue.filter fun e => e.bay ∉ own) = b.queue.filter fun e => e.bay ∉ own
  active : ∀ n, b'.active.get n = b.active.get n ∨ n ∈ own ∧ b'.active.get n = none
  account : ∀ p, b'.pools.get p = { b.pools.get p with remaining := (b'.pools.get p).remaining }
  credited : ∀ p, (b'.pools.get p).remaining + lent b'.active p = (b.pools.get p).remaining + lent b.active p

theorem BurstUnit.within.refl (b : BurstUnit) : b.within own b := ⟨rfl, fun _ => .inl rfl, fun _ => rfl, fun _ => rfl⟩

theorem BurstUnit.within.trans (h : b.within own b') (h' : b'.within own b'') : b.within own b'' where
  queue := h'.queue.trans h.queue
  active n := by
    obtain hsame | hleft := h'.active n
    · rw [hsame]; exact h.active n
    · exact .inr hleft
  account p := by rw [h'.account p, h.account p]
  credited p := (h'.credited p).trans (h.credited p)

theorem BurstUnit.within.append (b : BurstUnit) {e : QueueEntry} (he : e.bay ∈ own) :
    b.within own { b with queue := b.queue ++ [e] } where
  queue := by simp [he]
  active _ := .inl rfl
  account _ := rfl
  credited _ := rfl

theorem BurstUnit.within.dropEntry (b : BurstUnit) (hn : n ∈ own) : b.within own (b.dropEntry n) where
  queue := by
    rw [BurstUnit.dropEntry_queue, List.filter_filter]
    refine List.filter_congr fun e _ => ?_
    by_cases he : e.bay = n
    · simp [he, hn]
    · simp [he]
  active _ := .inl rfl
  account _ := rfl
  credited _ := rfl

theorem BurstUnit.within.dropActive (b : BurstUnit) (hn : n ∈ own) : b.within own (b.dropActive n) where
  queue := by rw [BurstUnit.dropActive_queue]
  active m := by
    rw [BurstUnit.dropActive_active]
    split
    · next h => exact .inr ⟨h ▸ hn, rfl⟩
    · exact .inl rfl
  account p := by rw [BurstUnit.dropActive_pools]; rfl
  credited p := by
    have htable : (b.dropActive n).active = b.active.set n none :=
      Row8.ext_get fun m => by rw [BurstUnit.dropActive_active, Row8.get_set]
    have hset := lent_set b.active n none p
    rw [BurstUnit.dropActive_pools, htable, PoolAccount.credit, ← Nat.add_zero (lent b.active p), ← lentBy_none p, ← hset]
    dsimp only
    omega

theorem BurstUnit.within.foldl_withdraw (b : BurstUnit) (bays : List Bay) (hbays : ∀ n ∈ bays, n ∈ own) :
    b.within own (bays.foldl BurstUnit.withdraw b) := by
  induction bays generalizing b with
  | nil => exact .refl b
  | cons n rest ih =>
    have hn : n ∈ own := hbays n List.mem_cons_self
    exact ((BurstUnit.within.dropEntry b hn).trans (.dropActive _ hn)).trans
      (ih _ fun m hm => hbays m (List.mem_cons_of_mem _ hm))

/-- What a pool has been credited, in the terms of the statement: the amounts of the bursts that left. -/
theorem BurstUnit.within.remaining (h : b.within own b') (p : Pool) : b'.pools.get p = { b.pools.get p with
    remaining := (b.pools.get p).remaining + sum8 fun n =>
      match b.active.get n with
      | some a => if a.pool = p ∧ b'.active.get n = none then a.amount else 0
      | none => 0 } := by
  have hsplit (n : Bay) : lentBy (b.active.get n) p = lentBy (b'.active.get n) p +
      match b.active.get n with
      | some a => if a.pool = p ∧ b'.active.get n = none then a.amount else 0
      | none => 0 := by
    obtain hsame | ⟨-, hleft⟩ := h.active n
    · rw [hsame]
      cases b.active.get n <;> simp
    · rw [hleft]
      cases b.active.get n <;> simp
  have hsum : lent b.active p = lent b'.active p + sum8 fun n =>
      match b.active.get n with
      | some a => if a.pool = p ∧ b'.active.get n = none then a.amount else 0
      | none => 0 := by
    rw [lent, lent, ← sum8_add]
    exact congrArg sum8 (funext hsplit)
  have hremaining : (b'.pools.get p).remaining = (b.pools.get p).remaining + sum8 fun n =>
      match b.active.get n with
      | some a => if a.pool = p ∧ b'.active.get n = none then a.amount else 0
      | none => 0 := by
    have hcredited := h.credited p
    rw [hsum] at hcredited
    omega
  rw [h.account p, hremaining]

end Bursts

/-! ### Everything that happens on a bay link -/

section BayLink
variable {i : Fin 8} {s q : State}

/-- `q` is `s` but for what bay link `i` reaches: its own port and alerts, LINK_ERROR, and its bays' demands, entries and bursts. -/
structure State.reachedBy (i : Fin 8) (s q : State) : Prop where
  parts : q.inReset = s.inReset ∧ q.shelfResetArmed = s.shelfResetArmed ∧ q.capture = s.capture ∧ q.sensors = s.sensors ∧
    q.params = s.params ∧ q.cycle = s.cycle ∧ q.lines = s.lines ∧ q.store = s.store
  port : ∀ k, k ≠ .bay i → q.port k = s.port k
  alert : ∀ j, j ≠ i → q.alert (.bay j) = s.alert (.bay j)
  cause : ∀ c, c ≠ 5 → (q.alert .shelf).pendingCauses.get c = (s.alert .shelf).pendingCauses.get c
  masks : (q.alert .shelf).mask = (s.alert .shelf).mask ∧ (q.alert .shelf).groups = (s.alert .shelf).groups
  alloc : q.alloc = { s.alloc with demand := q.alloc.demand }
  demand : ∀ n, n ∉ s.bindings.get i → q.alloc.demand.get n = s.alloc.demand.get n
  burst : s.burst.within (s.bindings.get i) q.burst

theorem State.reachedBy.bindings (h : s.reachedBy i q) : q.bindings = s.bindings := by
  obtain ⟨-, -, -, -, -, -, -, hstore⟩ := h.parts
  rw [State.bindings, hstore]
  rfl

theorem State.reachedBy.refl (s : State) : s.reachedBy i s where
  parts := ⟨rfl, rfl, rfl, rfl, rfl, rfl, rfl, rfl⟩
  port _ _ := rfl
  alert _ _ := rfl
  cause _ _ := rfl
  masks := ⟨rfl, rfl⟩
  alloc := rfl
  demand _ _ := rfl
  burst := .refl _

/-- A change of the Burst Unit alone. -/
theorem State.reachedBy.setBurst (h : s.reachedBy i q) {b : BurstUnit} (hb : q.burst.within (s.bindings.get i) b) :
    s.reachedBy i (q.setBurst b) where
  parts := h.parts
  port := h.port
  alert := h.alert
  cause := h.cause
  masks := h.masks
  alloc := h.alloc
  demand := h.demand
  burst := h.burst.trans hb

/-- A change of some of the link's own bays' demands alone. -/
theorem State.reachedBy.setDemand (h : s.reachedBy i q) {d : Row8 (Option Nat)}
    (hd : ∀ n, n ∉ s.bindings.get i → d.get n = q.alloc.demand.get n) :
    s.reachedBy i (q.setAlloc { q.alloc with demand := d }) where
  parts := h.parts
  port := h.port
  alert := h.alert
  cause := h.cause
  masks := h.masks
  alloc := congrArg (fun a : Allocator => { a with demand := d }) h.alloc
  demand n hn := (hd n hn).trans (h.demand n hn)
  burst := h.burst

/-- A change of the link's own alerts alone. -/
theorem State.reachedBy.setAlert (h : s.reachedBy i q) (a : AlertState) : s.reachedBy i (q.setAlert (.bay i) a) where
  parts := h.parts
  port := h.port
  alert j hj := by
    rw [State.setAlert_alert, if_neg (fun h => hj (LinkId.bay.inj h))]
    exact h.alert j hj
  cause := h.cause
  masks := h.masks
  alloc := h.alloc
  demand := h.demand
  burst := h.burst

theorem State.reachedBy.setPort (h : s.reachedBy i q) (p : Port) : s.reachedBy i (q.setPort (.bay i) p) where
  parts := h.parts
  port k hk := by
    rw [State.setPort_port, if_neg hk]
    exact h.port k hk
  alert := h.alert
  cause := h.cause
  masks := h.masks
  alloc := h.alloc
  demand := h.demand
  burst := h.burst

theorem State.reachedBy.advance (h : s.reachedBy i q) (t : Nat) : s.reachedBy i (q.advance t) :=
  ⟨h.parts, h.port, h.alert, h.cause, h.masks, h.alloc, h.demand, h.burst⟩

theorem State.reachedBy.linkError (h : s.reachedBy i q) (v : Flags8) : s.reachedBy i (q.raiseShelf .linkError v) where
  parts := h.parts
  port := h.port
  alert j hj := by rw [State.raiseShelf_alert_bay]; exact h.alert j hj
  cause c hc := by
    refine Eq.trans ?_ (h.cause c hc)
    have hnumber : ¬c = ShelfCause.linkError.number := hc
    simp [AlertState.raise, hnumber]
  masks := h.masks
  alloc := h.alloc
  demand := h.demand
  burst := h.burst

theorem State.reachedBy.served (h : s.reachedBy i q) {q' : State} (hserved : Served q (.bay i) q') : s.reachedBy i q' := by
  have hown {n : Bay} (hname : q.mayName (.bay i) n) : n ∈ s.bindings.get i := h.bindings ▸ hname i rfl
  cases hserved
  case same => exact h
  case demand n v hname hocc =>
    refine h.setDemand (d := q.alloc.demand.set n _) fun m hm => ?_
    have hne : ¬m = n := fun heq => hm (heq ▸ hown hname)
    rw [Row8.get_set, if_neg hne]
  case ask n amount duration wait tag hname _ _ _ _ => exact h.setBurst (.append _ (hown hname))
  case dropEntry n hname => exact h.setBurst (.dropEntry _ (hown hname))
  case dropActive n hname => exact h.setBurst (.dropActive _ (hown hname))
  case alertRead c => exact h.setAlert _
  case mask m => exact h.setAlert _
  all_goals exact absurd ‹LinkId.bay i = .shelf› nofun

theorem State.reachedBy.linkReset (h : s.reachedBy i q) (t : Nat) : s.reachedBy i (q.bayLinkEffects i t) := by
  unfold State.bayLinkEffects
  dsimp only
  have hport := h.setPort ((q.port (.bay i)).abandon t)
  have halert := hport.setAlert (((q.setPort (.bay i) ((q.port (.bay i)).abandon t)).alert (.bay i)).linkReset)
  refine State.reachedBy.setBurst (halert.setDemand fun n hn => ?_) ?_
  · rw [Row8.get_mapIdx, h.bindings, if_neg (by simpa using hn)]
  · rw [← h.bindings]
    exact .foldl_withdraw _ _ fun _ hn => hn

/-- Nothing on a bay link reaches further. -/
theorem keptOnLine_reachedBy (s : State) (i : Fin 8) : KeptOnLine (.bay i) (s.reachedBy i) where
  advance t h := h.advance t
  setPort p h := h.setPort p
  error h := h.linkError _
  linkReset j t hj h := by cases hj; exact h.linkReset t
  service hserved h := h.served hserved
  taken hk := absurd hk nofun

end BayLink

/-- Settles O52: everything on a bay link is made of changes that reach no further. -/
theorem bayLinksReachOnlyTheirOwnBays : Obligations.BayLinksReachOnlyTheirOwnBays := by
  intro c i s s' hlink hnext own
  have h : s.reachedBy i s' := (keptOnLine_reachedBy s i).exec hlink hnext (.refl s)
  obtain ⟨hreset, harmed, hcapture, hsensors, hparams, hcycle, hlines, hstore⟩ := h.parts
  obtain ⟨hmask, hgroups⟩ := h.masks
  refine ⟨hreset, harmed, hcapture, hsensors, hparams, hcycle, hlines, hstore, h.port, h.alert, h.cause, hmask, hgroups, h.alloc,
    fun n hn => ⟨h.demand n hn, ?_⟩, h.burst.queue, h.burst.remaining⟩
  exact (h.burst.active n).resolve_right fun hleft => hn hleft.1

end Sys2Proof.Machine
end

section
/-! PROOFS. What reaches the operation in flight (R48 to R52): the boundary, the completion and the resets, and nothing else. -/

namespace Sys2Proof.Machine

section Results
variable {s q : State} {k : LinkId}

/-- In `q` the operation in flight and everything published are as in `s`. -/
def State.sameResults (s q : State) : Prop :=
  q.alloc.flight = s.alloc.flight ∧ q.alloc.records = s.alloc.records ∧ q.alloc.ring = s.alloc.ring ∧
    q.alloc.rotation = s.alloc.rotation ∧ q.alloc.epoch = s.alloc.epoch ∧ q.alloc.engine = s.alloc.engine

theorem State.sameResults.of_alloc (h : s.sameResults q) {q' : State} (halloc : q'.alloc = q.alloc) : s.sameResults q' := by
  unfold State.sameResults
  rw [halloc]
  exact h

theorem keptBySensing_sameResults (s : State) : KeptBySensing s.sameResults where
  advance _ h := h
  decoder _ _ h := h
  sensor _ _ _ h := h.of_alloc (by simp)
  overtemp _ h := h.of_alloc (by simp)
  captured _ h := h

theorem State.sameResults.bayLinkEffects (h : s.sameResults q) (i : Fin 8) (t : Nat) :
    s.sameResults (q.bayLinkEffects i t) := by
  obtain ⟨-, -, -, halloc, -⟩ := q.bayLinkEffects_wasReset i t
  unfold State.sameResults
  rw [halloc]
  exact h

/-- While the engine runs no service of a request reaches them. -/
theorem Served.sameResults (hserved : Served q k q') (hrunning : s.alloc.engine = .running) (h : s.sameResults q) :
    s.sameResults q' := by
  have hengine : q.alloc.engine = .running := h.2.2.2.2.2.trans hrunning
  cases hserved
  case started _ _ _ hstopped => rw [hstopped] at hengine; cases hengine
  case demand | pin | unpin | sticky => simpa [State.sameResults] using h
  case linkReset i _ => exact State.sameResults.bayLinkEffects (q := q.setRx (.bay i) _) h i _
  all_goals exact h.of_alloc rfl

theorem keptOnLink_sameResults (hrunning : s.alloc.engine = .running) (k : LinkId) : KeptOnLink k s.sameResults where
  advance _ h := h
  setPort _ h := h
  error h := h
  linkReset i t _ h := h.bayLinkEffects i t
  service hserved h := hserved.sameResults hrunning h

end Results

/-! ### A line on which no break cuts SHELF RESET's reply off (R157, R171) -/

section Unbroken
variable {s q : State} {P : State → Prop} {k : LinkId} {t u v : Nat}

theorem State.takeChar_of_noChar (hc : (q.port k).char = none) : q.takeChar k u = q :=
  State.takeChar_quiet _ k (by rw [Port.charDue, hc]; rfl)

/-- What a line's character, gap and DISCARD leave of the low in progress. -/
theorem State.beforeBreak_low (u : Nat) :
    let r := ((q.takeChar k u).takeLinkGap k u).takeDiscardEnd k u
    (r.port k).lowSince = (q.port k).lowSince ∧ (r.port k).inBreak = (q.port k).inBreak ∧
      (r.port k).seenTo = (q.port k).seenTo ∧
      ((q.port k).char = none → (r.port k).char = none ∧ r.shelfResetArmed = q.shelfResetArmed) := by
  have hchar : ((q.takeChar k u).port k).lowSince = (q.port k).lowSince ∧
      ((q.takeChar k u).port k).inBreak = (q.port k).inBreak ∧ ((q.takeChar k u).port k).seenTo = (q.port k).seenTo := by
    unfold State.takeChar
    split
    · exact ⟨rfl, rfl, rfl⟩
    · next c _ =>
      dsimp only
      split
      · obtain ⟨hl, -, hs, -, hb⟩ := State.receive_sameLine
          ((q.advance (c.start + charTime)).setPort k ((q.port k).charEnded c.start)) k c.byte
        rw [hl, hs, hb, State.setPort_port, if_pos rfl]
        exact ⟨rfl, rfl, rfl⟩
      · simp [State.linkError, Port.charEnded]
  have hgap (r : State) : ((r.takeLinkGap k u).port k).lowSince = (r.port k).lowSince ∧
      ((r.takeLinkGap k u).port k).inBreak = (r.port k).inBreak ∧
      ((r.takeLinkGap k u).port k).seenTo = (r.port k).seenTo ∧ ((r.takeLinkGap k u).port k).char = (r.port k).char ∧
      (r.takeLinkGap k u).shelfResetArmed = r.shelfResetArmed := by
    unfold State.takeLinkGap
    split
    · simp [State.linkError]
    · exact ⟨rfl, rfl, rfl, rfl, rfl⟩
  have hdiscard (r : State) : ((r.takeDiscardEnd k u).port k).lowSince = (r.port k).lowSince ∧
      ((r.takeDiscardEnd k u).port k).inBreak = (r.port k).inBreak ∧
      ((r.takeDiscardEnd k u).port k).seenTo = (r.port k).seenTo ∧ ((r.takeDiscardEnd k u).port k).char = (r.port k).char ∧
      (r.takeDiscardEnd k u).shelfResetArmed = r.shelfResetArmed := by
    unfold State.takeDiscardEnd
    split
    · simp [State.setRx]
    · exact ⟨rfl, rfl, rfl, rfl, rfl⟩
  obtain ⟨hl, hb, hs⟩ := hchar
  obtain ⟨hl', hb', hs', hc', ha'⟩ := hgap (q.takeChar k u)
  obtain ⟨hl'', hb'', hs'', hc'', ha''⟩ := hdiscard ((q.takeChar k u).takeLinkGap k u)
  refine ⟨hl''.trans (hl'.trans hl), hb''.trans (hb'.trans hb), hs''.trans (hs'.trans hs), fun hc => ?_⟩
  rw [hc'', ha'', hc', ha', State.takeChar_of_noChar hc]
  exact ⟨hc, rfl⟩

/-- By `u` the line meets no break that a service in the same command could have armed with a reset: no character in progress could
bring a request, with none armed, or no break is due. -/
def State.unbroken (q : State) (u : Nat) : Prop :=
  q.shelfResetArmed = false ∧ (q.port .shelf).char = none ∨ (q.port .shelf).breakDue u = none

theorem Port.breakDue_mono {p : Port} (h : p.breakDue u = none) (hv : v ≤ u) : p.breakDue v = none := by
  cases hdue : p.breakDue v with
  | none => rfl
  | some b =>
    obtain ⟨hb, a, ha, rfl, hle⟩ := Port.breakDue_eq_some hdue
    have := Port.breakDue_eq_none h a ha hb
    omega

theorem State.unbroken.mono (h : q.unbroken u) (hv : v ≤ u) : q.unbroken v := h.imp id fun h => Port.breakDue_mono h hv

theorem State.countBreak_seenTo (u : Nat) : ((q.countBreak k u).port k).seenTo = (q.port k).seenTo := by
  cases hdue : (q.port k).breakDue u with
  | none => rw [State.countBreak_quiet _ k hdue]
  | some b => rw [State.countBreak_port hdue]; rfl

/-- Following the shelf link's line so far takes no reset. -/
theorem State.settleLink_unbroken (h : KeptOnLink .shelf P) (hP : P q) (hsafe : q.unbroken (max (q.port .shelf).seenTo t)) :
    P (q.settleLink .shelf t) ∧ ((q.settleLink .shelf t).port .shelf).seenTo = max (q.port .shelf).seenTo t := by
  have hbefore := h.beforeBreak t (max (q.port .shelf).seenTo t) hP
  obtain ⟨hlow, hbreak, hseen, hidle⟩ :=
    State.beforeBreak_low (q := q.seen .shelf t) (k := .shelf) (max (q.port .shelf).seenTo t)
  have hquiet : q.settleLink .shelf t = ((((q.seen .shelf t).takeChar .shelf (max (q.port .shelf).seenTo t)).takeLinkGap .shelf
      (max (q.port .shelf).seenTo t)).takeDiscardEnd .shelf (max (q.port .shelf).seenTo t)).countBreak .shelf
        (max (q.port .shelf).seenTo t) := by
    unfold State.settleLink State.takeBreak
    dsimp only
    rw [if_neg]
    rintro hboth
    simp only [Bool.and_eq_true, beq_iff_eq] at hboth
    obtain ⟨⟨hdue, -⟩, harmed⟩ := hboth
    obtain ⟨hunarmed, hc⟩ | hnone := hsafe
    · rw [(hidle (by rw [State.seen_port_own]; exact hc)).2] at harmed
      exact Bool.false_ne_true (hunarmed.symm.trans harmed)
    · rw [Port.breakDue, hlow, hbreak, State.seen_port_own] at hdue
      rw [Port.breakDue] at hnone
      rw [hnone] at hdue
      cases hdue
  rw [hquiet]
  refine ⟨h.countBreak _ hbefore, ?_⟩
  rw [State.countBreak_seenTo, hseen, State.seen_port_own]

/-- A change of its line takes no reset either, and begins no low that is 2 ms old before 2 ms from it. -/
theorem State.lineChange_unbroken (h : KeptOnLink .shelf P) (hP : P q) (hsafe : q.unbroken (max (q.port .shelf).seenTo t)) :
    P (State.lineChange .shelf q t) ∧ t ≤ ((State.lineChange .shelf q t).port .shelf).seenTo ∧
      ∀ v, v < ((State.lineChange .shelf q t).port .shelf).seenTo + ms 2 → (State.lineChange .shelf q t).unbroken v := by
  obtain ⟨hkept, hseen⟩ := State.settleLink_unbroken h hP hsafe
  have hreached : t ≤ ((q.settleLink .shelf t).port .shelf).seenTo := hseen ▸ le_max_right _ _
  unfold State.lineChange State.unbroken
  dsimp only
  rw [State.setPort_port, if_pos rfl]
  refine ⟨h.setPort _ hkept, ?_, fun v hv => .inr ?_⟩
  · split <;> exact hreached
  · generalize (q.settleLink .shelf t).port .shelf = r at hv ⊢
    cases hlow : r.lowSince.isSome with
    | true =>
      rw [if_pos rfl]
      exact Port.breakDue_of_none (.inr fun a ha => by cases ha)
    | false =>
      rw [hlow, if_neg Bool.false_ne_true] at hv
      rw [if_neg Bool.false_ne_true]
      exact Port.breakDue_of_none (.inr fun a ha => by cases ha; exact hv)

/-- Every two of some instants, from `x` through a list to `t`, lie less than 2 ms apart. -/
def spaced (x : Nat) (changes : List Nat) (t : Nat) : Prop :=
  match changes with
  | [] => t < x + ms 2
  | e :: rest => e < x + ms 2 ∧ spaced e rest t

theorem State.followLine_spaced (h : KeptOnLink .shelf P) (changes : List Nat) {x : Nat} (hP : P q)
    (hx : x ≤ (q.port .shelf).seenTo) (hsafe : ∀ v, v < (q.port .shelf).seenTo + ms 2 → q.unbroken v)
    (hspaced : spaced x changes t) : P (q.followLine .shelf changes t) := by
  have hnext (e : Nat) (he : e < x + ms 2) : q.unbroken (max (q.port .shelf).seenTo e) :=
    hsafe _ (max_lt (Nat.lt_add_of_pos_right (by decide)) (by omega))
  unfold State.followLine
  induction changes generalizing q x with
  | nil => exact (State.settleLink_unbroken h hP (hnext t hspaced)).1
  | cons e rest ih =>
    obtain ⟨he, hrest⟩ := hspaced
    obtain ⟨hkept, hreached, hsafe'⟩ := State.lineChange_unbroken h hP (hnext e he)
    exact ih hkept hreached hsafe' hrest fun e' he' =>
      hsafe' _ (max_lt (Nat.lt_add_of_pos_right (by decide)) (by omega))

/-- Instants of the last 2 ms are spaced so. -/
theorem spaced_of_recent {x : Nat} (l : List Nat) (h : ∀ e ∈ x :: l, e ≤ t ∧ t < e + ms 2) : spaced x l t := by
  induction l generalizing x with
  | nil => exact (h x List.mem_cons_self).2
  | cons e l ih =>
    obtain ⟨hx, htail⟩ := List.forall_mem_cons.mp h
    have he := htail e List.mem_cons_self
    exact ⟨by omega, ih htail⟩

/-- A line that is unbroken to its first change, each change within 2 ms of the one before, takes no reset. -/
theorem State.followLine_unbroken (h : KeptOnLink .shelf P) (changes : List Nat) (hP : P q)
    (hfirst : q.unbroken (max (q.port .shelf).seenTo (changes.head?.getD t)))
    (hspaced : ∀ e rest, changes = e :: rest → spaced e rest t) : P (q.followLine .shelf changes t) := by
  cases changes with
  | nil => exact (State.settleLink_unbroken h hP hfirst).1
  | cons e rest =>
    obtain ⟨hkept, hreached, hsafe⟩ := State.lineChange_unbroken h hP hfirst
    exact State.followLine_spaced h rest hkept hreached hsafe (hspaced e rest rfl)

end Unbroken

/-! ### The changes of a request's frame (R148) -/

section Frame
variable {level : Bool} {t x y : Nat}

theorem mem_lineEdges {bits : List Bool} {e : Nat} (he : e ∈ lineEdges level t bits) :
    t ≤ e ∧ e < t + bitTime * bits.length := by
  have hpos : 0 < bitTime := by decide
  induction bits generalizing level t with
  | nil => cases he
  | cons b bits ih =>
    rw [lineEdges] at he
    rw [List.length_cons, Nat.mul_succ]
    split at he
    · obtain ⟨hle, hlt⟩ := ih he
      omega
    · obtain rfl | he := List.mem_cons.mp he
      · omega
      · obtain ⟨hle, hlt⟩ := ih he
        omega

/-- A line that does not change stands at one level. -/
theorem eq_of_lineEdges_nil {bits : List Bool} (h : lineEdges level t bits = []) : ∀ b ∈ bits, b = level := by
  induction bits generalizing t with
  | nil => exact nofun
  | cons b bits ih =>
    rw [lineEdges] at h
    split at h
    · next hb => exact List.forall_mem_cons.mpr ⟨hb, ih h⟩
    · cases h

/-- A character changes the line, and does so while it lasts. -/
theorem lineEdges_charBits (level : Bool) (t : Nat) (b : Byte) : lineEdges level t (charBits b) ≠ [] ∧
    ∀ e ∈ lineEdges level t (charBits b), t ≤ e ∧ e < t + charTime := by
  refine ⟨fun h => ?_, fun e he => mem_lineEdges he⟩
  have hstart := eq_of_lineEdges_nil h false (by simp [charBits])
  have hstop := eq_of_lineEdges_nil h true (by simp [charBits])
  rw [← hstart] at hstop
  cases hstop

theorem lineEdges_cons (level : Bool) (t : Nat) (b : Byte) (rest : List Byte) : lineEdges level t (lineBits (b :: rest)) =
    lineEdges level t (charBits b) ++ lineEdges true (t + charTime) (lineBits rest) :=
  lineEdges_append (charBits b) (lineBits rest) level t

/-- What follows some changes that lie within 10 µs of each other is spaced from the last of them. -/
theorem spaced_append {l l' : List Nat} (hne : l ≠ []) (hl : ∀ e ∈ l, y ≤ e ∧ e < y + charTime) (hx : y ≤ x + charTime)
    (hrest : ∀ e, y ≤ e → spaced e l' t) : spaced x (l ++ l') t := by
  have hshort : charTime + charTime < ms 2 := by decide
  induction l generalizing x with
  | nil => exact absurd rfl hne
  | cons e l ih =>
    obtain ⟨⟨hle, hlt⟩, hl⟩ := List.forall_mem_cons.mp hl
    refine ⟨by omega, ?_⟩
    cases l with
    | nil => exact hrest e hle
    | cons e' l => exact ih (List.cons_ne_nil _ _) hl (by omega)

theorem spaced_lineBits (bs : List Byte) (hx : y ≤ x + charTime) (ht : t ≤ y + charTime * bs.length) :
    spaced x (lineEdges level y (lineBits bs)) t := by
  have hshort : charTime < ms 2 := by decide
  induction bs generalizing level x y with
  | nil =>
    rw [List.length_nil, Nat.mul_zero] at ht
    exact Nat.lt_of_le_of_lt (ht.trans hx) (by omega)
  | cons b bs ih =>
    obtain ⟨hne, hmem⟩ := lineEdges_charBits level y b
    rw [lineEdges_cons]
    rw [List.length_cons, Nat.mul_succ] at ht
    exact spaced_append hne hmem hx fun e he => ih (by omega) (by omega)

end Frame

/-! ### The commands of the shelf link -/

section Commands
variable {s : State} {P : State → Prop} {c : Instr} {t u : Nat}

theorem State.unbroken_of_short (harmed : s.shelfResetArmed = false)
    (hlow : ∀ x a, (s.port .shelf).char = some x → (s.port .shelf).lowSince = some a → u < a + ms 2) : s.unbroken u := by
  cases hc : (s.port .shelf).char with
  | none => exact .inl ⟨harmed, hc⟩
  | some x => exact .inr (Port.breakDue_of_none (.inr fun a ha => hlow x a hc ha))

/-- A request's frame on the shelf link takes no reset. -/
theorem State.sendRequest_unbroken (h : KeptOnLink .shelf P) (hP : P s) (r : Request) (harmed : s.shelfResetArmed = false)
    (hlow : ∀ x a, (s.port .shelf).char = some x → (s.port .shelf).lowSince = some a →
      max (s.port .shelf).seenTo t < a + ms 2) : P (s.sendRequest .shelf t r) := by
  obtain ⟨b, bs, hframe⟩ : ∃ b bs, r.frame = b :: bs := ⟨_, _, rfl⟩
  have hlength : bitTime * (lineBits r.frame).length = charTime * r.frame.length := by
    rw [lineBits_length, ← Nat.mul_assoc]
    rfl
  have hshort : charTime < ms 2 := by decide
  unfold State.sendRequest State.driveLine
  rw [hlength]
  obtain ⟨hne, hmem⟩ := lineEdges_charBits (s.port .shelf).lowSince.isNone (t - charTime * r.frame.length) b
  have hspaced := spaced_lineBits (level := (s.port .shelf).lowSince.isNone) (t := t) (x := t - charTime * r.frame.length)
    (y := t - charTime * r.frame.length) r.frame (Nat.le_add_right _ _) (by omega)
  have hchanges : ∃ e rest, lineEdges (s.port .shelf).lowSince.isNone (t - charTime * r.frame.length) (lineBits r.frame) =
      e :: rest ∧ e < t - charTime * r.frame.length + charTime := by
    obtain ⟨e, rest, hrest⟩ := List.exists_cons_of_ne_nil hne
    have hcons := lineEdges_cons (s.port .shelf).lowSince.isNone (t - charTime * r.frame.length) b bs
    rw [hrest, List.cons_append, ← hframe] at hcons
    exact ⟨e, _, hcons, (hmem e (hrest ▸ List.mem_cons_self)).2⟩
  obtain ⟨e, rest, hedges, he⟩ := hchanges
  rw [hedges] at hspaced ⊢
  have hlen : charTime ≤ charTime * r.frame.length := by
    rw [hframe, List.length_cons]
    exact Nat.le_mul_of_pos_right _ (Nat.succ_pos _)
  refine State.followLine_unbroken h _ hP (State.unbroken_of_short harmed fun x a hx ha => ?_) fun e' rest' heq => ?_
  · have := hlow x a hx ha
    simp only [List.head?_cons, Option.getD_some]
    omega
  · cases heq
    exact hspaced.2

/-- A line's command on the shelf link takes no reset where no break can follow a request in it. -/
theorem lineEffect_unbroken (h : KeptOnLink .shelf P) (hP : P s) (hc : c.onLink = some .shelf) (hline : c.request = none)
    (harmed : s.shelfResetArmed = false) (hnoBreak : s.noBreakAfterRequest c) : P (lineEffect c s) := by
  obtain ⟨hlow, htrace⟩ := hnoBreak
  have hunbroken : s.unbroken (max (s.port .shelf).seenTo c.instant) := State.unbroken_of_short harmed hlow
  have hsettle := (State.settleLink_unbroken h hP hunbroken).1
  have hwhen (condition : Port → RxChar → Bool) : P (s.charWhen .shelf c.instant condition) := by
    unfold State.charWhen
    split
    · split
      · exact hsettle
      · exact hP
    · exact hP
  cases c <;> cases hc <;> cases hline
  case requestFrame | noise | framing | lengthError | overrun =>
    simp only [lineEffect]
    exact hwhen _
  case linkGap | discardEnd | lineBreak => exact hsettle
  case breakEpisodeEnd t =>
    simp only [lineEffect, State.endBreak]
    split
    · exact (State.lineChange_unbroken h hP hunbroken).1
    · exact hP
  case replyEnd t =>
    simp only [lineEffect, State.endReply, harmed, Bool.and_false]
    split
    · exact hP
    · exact h.serveHead (h.setPort _ (h.advance _ hP))
  case characterTaken t changes =>
    have hrecent := htrace t changes rfl
    refine State.followLine_unbroken h changes hP (hunbroken.mono ?_) fun e rest heq => spaced_of_recent rest (heq ▸ hrecent)
    have hfirst : changes.head?.getD t ≤ t := by
      cases changes with
      | nil => exact le_rfl
      | cons e rest => exact (hrecent e List.mem_cons_self).1
    exact max_le_max le_rfl hfirst

/-- A command of the shelf link reaches what a link's changes reach, where no break can follow a request in it. -/
theorem linkEffect_unbroken (h : KeptOnLink .shelf P) (hP : P s) (hc : c.onLink = some .shelf)
    (harmed : s.shelfResetArmed = false) (hnoBreak : s.noBreakAfterRequest c) : P (linkEffect c s) := by
  cases hr : c.request with
  | some x =>
    obtain ⟨t, j, r⟩ := x
    cases (onLink_of_request hr).symm.trans hc
    rw [linkEffect_of_request hr]
    exact State.sendRequest_unbroken h hP r harmed (instant_of_request hr ▸ hnoBreak.1)
  | none =>
    rw [linkEffect_of_line hr]
    exact lineEffect_unbroken h hP hc hr harmed hnoBreak

end Commands

/-- An event that leaves the Allocator alone. -/
theorem event_alloc {s s' : State} {t : Nat} {effect : State → State} (heffect : ∀ q, (effect q).alloc = q.alloc)
    (hnext : event t s effect = .next s') : s'.alloc = s.alloc := by
  unfold event at hnext
  split at hnext
  · cases hnext; rfl
  · cases hnext; exact heffect _

/-- The slots and the derate line leave the Allocator alone, and with RST released and no reset arranged nothing is reset. -/
theorem exec_elsewhere_alloc {c : Instr} {s s' : State} (hlink : c.onLink = none) (hsense : senses c = false)
    (hreset : s.inReset = false) (harmed : s.shelfResetArmed = false)
    (hother : ∀ t, c ≠ .powerOnReset t ∧ c ≠ .boundary t ∧ c ≠ .completion t) (hnext : exec c s = .next s') :
    s'.alloc = s.alloc := by
  cases c <;> cases hlink <;> cases hsense
  case powerOnReset t => exact absurd rfl (hother t).1
  case boundary t => exact absurd rfl (hother t).2.1
  case completion t => exact absurd rfl (hother t).2.2
  case derateAssertion t =>
    have h (q : State) : (if q.cycle.assertionDue q.now then q.assertDerate else q).alloc = q.alloc := by
      split <;> simp
    simp only [exec, execDerateAssertion] at hnext
    exact event_alloc h hnext
  case derateDeassertion t =>
    have h (q : State) : (if q.cycle.deassertionDue q.now then q.deassertDerate else q).alloc = q.alloc := by
      split <;> simp
    simp only [exec, execDerateDeassertion] at hnext
    exact event_alloc h hnext
  case slotExpiry t n =>
    have h (q : State) : (if (q.lines.get n).slotDue q.now then q.setLine n (q.lines.get n).nextSlot else q).alloc = q.alloc := by
      split <;> simp
    simp only [exec, execSlotExpiry] at hnext
    exact event_alloc h hnext
  case shelfResetTaken t =>
    rw [exec_shelfResetTaken hreset, harmed, Bool.false_and] at hnext
    cases hnext
    rfl
  case rawDrtChange t high =>
    simp only [exec, execRawDrtChange, hreset] at hnext
    cases hnext
    simp
  case releaseOfReset t =>
    simp only [exec, execReleaseOfReset, hreset] at hnext
    cases hnext
    rfl

/-- Settles O51: a link's commands, the rail sense lines' and the others, each made of changes that reach none of it. -/
theorem operationInFlightKeepsItsSnapshot : Obligations.OperationInFlightKeepsItsSnapshot := by
  intro c s s' hreset harmed hrunning hother hnoBreak hnext
  have hsame : s.sameResults s := ⟨rfl, rfl, rfl, rfl, rfl, rfl⟩
  suffices h : s.sameResults s' from h
  cases hlink : c.onLink with
  | some k =>
    cases k with
    | bay i =>
      have h : s.reachedBy i s' := (keptOnLine_reachedBy s i).exec hlink hnext (.refl s)
      unfold State.sameResults
      rw [h.alloc]
      exact hsame
    | shelf =>
      have h := keptOnLink_sameResults hrunning .shelf
      rw [exec_onLink hlink hreset] at hnext
      cases hnext
      exact h.advance _ (linkEffect_unbroken h hsame hlink harmed (hnoBreak hlink))
  | none =>
    cases hsense : senses c with
    | true => exact (keptBySensing_sameResults s).exec hsense hnext hsame
    | false => exact hsame.of_alloc (exec_elsewhere_alloc hlink hsense hreset harmed hother hnext)

end Sys2Proof.Machine
end

section
/-! PROOFS. A request's frame, spelt character by character on the line (R148, R149, R152, R153). -/

namespace Sys2Proof.Machine

/-! ### The changes of a character (R148) -/

section Changes
variable (b : Byte) (x : Nat)

/-- The level of a character's bit `j`: a low start bit, the data from the least significant bit on, a high stop bit. -/
def bitLevel (j : Nat) : Bool := if j = 0 then false else if j = 9 then true else b.getLsbD (j - 1)

/-- The level before bit `j` of a character on a line that idles high. -/
def bitBefore (j : Nat) : Bool := if j = 0 then true else bitLevel b (j - 1)

/-- The instants at which a character that begins at `x` changes the line. -/
def charChanges : List Nat :=
  ((List.range 10).filter fun j => bitLevel b j != bitBefore b j).map fun j => x + us j

theorem charChanges_eq : charChanges b x = x :: (charEdges b).map (x + ·) := by
  have hoffsets : ∀ b : Byte, ((List.range 10).filter fun j => bitLevel b j != bitBefore b j).map us = 0 :: charEdges b := by
    decide +kernel
  have h := congrArg (List.map (x + ·)) (hoffsets b)
  rw [List.map_map] at h
  exact h

theorem charChanges_sorted : (x :: (charEdges b).map (x + ·)).Pairwise (· < ·) := by
  have hoffsets : ∀ b : Byte, (0 :: charEdges b).Pairwise (· < ·) := by decide +kernel
  have h := (List.pairwise_map (f := (x + ·)) (R := (· < ·))).mpr
    ((hoffsets b).imp fun {a c} (hlt : a < c) => Nat.add_lt_add_left hlt x)
  exact h

theorem charOf_charEdges : charOf x ((charEdges b).map (x + ·)) = ⟨x, charEdges b⟩ := by
  have hback : ((charEdges b).map (x + ·)).map (fun e => e - x) = charEdges b := by
    rw [List.map_map]
    exact (List.map_congr_left fun e _ => Nat.add_sub_cancel_left x e).trans (List.map_id _)
  rw [charOf, hback]

end Changes

/-! ### A frame on its way -/

section Frame
variable {s : State} {k : LinkId} {b : Byte} {x t i m : Nat} {rx : RxState} {f : Nat → Nat}

/-- The state once a character that ended at `t` has left the decoder in `rx`, with the queue `l`. -/
def State.framed (s : State) (k : LinkId) (l : List Instr) (t : Nat) (rx : RxState) : State :=
  ({ s with pending := l }.advance t).setPort k { s.port k with rx := rx, lastCharEnd := t, seenTo := t }

theorem State.framed_port (l : List Instr) :
    (s.framed k l t rx).port k = { s.port k with rx := rx, lastCharEnd := t, seenTo := t } :=
  (State.setPort_port ..).trans (if_pos rfl)

theorem State.framed_setRx (l : List Instr) (rx' : RxState) : (s.framed k l t rx).setRx k rx' = s.framed k l t rx' := by
  rw [State.setRx, State.framed_port, State.framed, State.setPort_setPort]
  rfl

/-- A character on an idle line, in the row that CHARACTER_TAKEN stands for. -/
theorem exec_characterTaken_byte {q : State} (hreset : q.inReset = false) (hidle : (q.port k).lineIdle x)
    (hgap : (q.port k).rx = .hunt ∨ x < (q.port k).lastCharEnd + us 201) :
    exec (.characterTaken (x + us 10) k (charChanges b x)) q =
      .next (((q.advance (x + us 10)).setPort k ((q.port k).received x)).receive k b) := by
  obtain ⟨-, hshort, hodd, hbyte, hstop⟩ := charEdges_spec b
  have hend : ∀ e ∈ (charEdges b).map (x + ·), e < x + us 10 := fun e he => by
    obtain ⟨o, ho, rfl⟩ := List.mem_map.mp he
    exact Nat.add_lt_add_left (hshort o ho) x
  have hended : (q.port k).atCharEnd x ((charEdges b).map (x + ·)) = (q.port k).received x := by
    rw [Port.atCharEnd, List.length_map, if_pos hodd, ← hidle.1]
    rfl
  rw [charChanges_eq, exec_characterTaken_whole hreset hidle hgap (charChanges_sorted b x) hend, State.tookCharacter,
    charOf_charEdges, hended]
  rw [if_pos (hstop x), hbyte x]

/-- The next character of a frame. -/
theorem exec_characterTaken_framed (l : List Instr) (hreset : s.inReset = false) (hidle : (s.port k).lineIdle x) (ht : t ≤ x)
    (hgap : x < t + us 201) : exec (.characterTaken (x + us 10) k (charChanges b x)) (s.framed k l t rx) =
      .next ((s.framed k l (x + us 10) rx).receive k b) := by
  have hport := State.framed_port (s := s) (k := k) (t := t) (rx := rx) l
  have hready : ((s.framed k l t rx).port k).lineIdle x := by
    rw [hport]
    exact ⟨hidle.1, hidle.2.1, hidle.2.2.1, ht⟩
  rw [exec_characterTaken_byte (q := s.framed k l t rx) hreset hready (.inr (by rw [hport]; exact hgap)), hport, State.framed, State.advance_setPort,
    State.setPort_setPort, State.advance_advance, Nat.max_eq_right (ht.trans (Nat.le_add_right _ _))]
  rfl

theorem coreRun_succ {M : Host.Core} {q q' : M.State} (h : M.step q = .next q') (m : Nat) : M.run (m + 1) q = M.run m q' := by
  rw [Host.Core.run, h]

/-- A run takes the front command. -/
theorem run_cons {s' : State} {c : Instr} {l : List Instr} (h : exec c { s with pending := l } = .next s') (m : Nat) :
    Host.Core.run Sys2Proof.core (m + 1) { s with pending := c :: l } = Host.Core.run Sys2Proof.core m s' :=
  coreRun_succ (M := Sys2Proof.core) (q := { s with pending := c :: l }) (q' := s') h m

/-- The command that brings character `i` of a frame. -/
def frameChar (k : LinkId) (f : Nat → Nat) (i : Nat) (b : Byte) : Instr :=
  .characterTaken (f i + us 10) k (charChanges b (f i))

/-- A character of a frame, with what it makes of the decoder. -/
theorem run_framed {rx' : RxState} (l : List Instr) (hreset : s.inReset = false) (hidle : (s.port k).lineIdle (f i))
    (ht : t ≤ f i ∧ f i < t + us 201)
    (hreceive : (s.framed k l (f i + us 10) rx).receive k b = s.framed k l (f i + us 10) rx') (m : Nat) :
    Host.Core.run Sys2Proof.core (m + 1) (s.framed k (frameChar k f i b :: l) t rx) =
      Host.Core.run Sys2Proof.core m (s.framed k l (f i + us 10) rx') := by
  refine run_cons (s := s.framed k l t rx) ?_ m
  exact (exec_characterTaken_framed l hreset hidle ht.1 ht.2).trans (congrArg _ hreceive)

/-- The bytes of a frame's body: kind, tag and parameters. -/
theorem run_body (l : List Instr) (hreset : s.inReset = false) (hidle : ∀ i, (s.port k).lineIdle (f i))
    (hf : ∀ i, f i + us 10 ≤ f (i + 1) ∧ f (i + 1) < f i + us 10 + us 201) (bs : List Byte) {n : Nat} {got : List Byte}
    (ht : t ≤ f i ∧ f i < t + us 201) (hn : got.length + (bs.length + 1) = n) (m : Nat) :
    Host.Core.run Sys2Proof.core (bs.length + 1 + m)
        (s.framed k (((b :: bs).mapIdx fun j b => frameChar k f (j + i) b) ++ l) t (.body n got)) =
      Host.Core.run Sys2Proof.core m (s.framed k l (f (i + bs.length) + us 10) (.check (got ++ b :: bs) none)) := by
  induction bs generalizing b t i got with
  | nil =>
    have hlast : ¬got.length + 1 < n := by rw [← hn]; exact Nat.lt_irrefl _
    rw [List.mapIdx_cons, List.mapIdx_nil, List.cons_append, Nat.zero_add, List.length_nil, Nat.zero_add, Nat.add_comm 1 m]
    refine run_framed l hreset (hidle i) ht ?_ m
    rw [State.receive_body (by rw [State.framed_port]), if_neg hlast, State.framed_setRx]
  | cons c bs ih =>
    have hmore : got.length + 1 < n := by
      rw [← hn, List.length_cons]
      omega
    have hindex : ((c :: bs).mapIdx fun j b => frameChar k f (j + 1 + i) b) =
        (c :: bs).mapIdx fun j b => frameChar k f (j + (i + 1)) b := by
      refine congrArg (fun g => List.mapIdx g (c :: bs)) (funext fun j => ?_)
      rw [Nat.add_assoc, Nat.add_comm 1 i]
    have hfuel : (c :: bs).length + 1 + m = bs.length + 1 + m + 1 := by
      rw [List.length_cons]
      omega
    rw [List.mapIdx_cons, hindex, List.cons_append, Nat.zero_add, hfuel,
      run_framed (rx' := .body n (got ++ [b])) _ hreset (hidle i) ht
        (by rw [State.receive_body (by rw [State.framed_port]), if_pos hmore, State.framed_setRx]),
      ih (hf i) (by rw [List.length_append, ← hn]; simp only [List.length_cons, List.length_nil]; omega), List.append_assoc]
    congr 4
    rw [List.length_cons]
    omega

/-- The commands that bring a request's frame with the two given bytes of its CRC. -/
def frameCommands (k : LinkId) (f : Nat → Nat) (r : Request) (high low : Byte) : List Instr :=
  frameChar k f 0 startByte :: frameChar k f 1 (byte1 (r.params.length + 2)) ::
    (((r.kind :: r.tag :: r.params).mapIdx fun j b => frameChar k f (j + 2) b) ++
      [frameChar k f (r.params.length + 4) high, frameChar k f (r.params.length + 5) low])

theorem frameCommands_eq (k : LinkId) (f : Nat → Nat) (r : Request) (high low : Byte) : frameCommands k f r high low =
    (startByte :: ((byte1 (r.params.length + 2) :: r.kind :: r.tag :: r.params) ++ [high, low])).mapIdx (frameChar k f) := by
  have hsplit (body : List Byte) : (body ++ [high, low]).mapIdx (fun j b => frameChar k f (j + 1 + 1) b) =
      (body.mapIdx fun j b => frameChar k f (j + 2) b) ++
        [frameChar k f (body.length + 2) high, frameChar k f (body.length + 3) low] := by
    rw [List.mapIdx_append]
    simp only [List.mapIdx_cons, List.mapIdx_nil]
    rw [Nat.zero_add, Nat.add_comm (0 + 1)]
  have hbody := hsplit (r.kind :: r.tag :: r.params)
  simp only [List.length_cons] at hbody
  rw [frameCommands]
  generalize r.kind :: r.tag :: r.params = body at hbody ⊢
  rw [List.cons_append, List.mapIdx_cons, List.mapIdx_cons, hbody]

/-- The run of the whole frame, up to what its last character brings. -/
theorem run_frame {r : Request} (high low : Byte) (hreset : s.inReset = false) (hrx : (s.port k).rx = .hunt)
    (hin : (s.port k).inbox.length < 2) (hlength : r.params.length ≤ 70) (hidle : ∀ i, (s.port k).lineIdle (f i))
    (hf : ∀ i, f i + us 10 ≤ f (i + 1) ∧ f (i + 1) < f i + us 10 + us 201) :
    Host.Core.run Sys2Proof.core (r.params.length + 6) { s with pending := frameCommands k f r high low } =
      .next ((s.framed k [] (f (r.params.length + 5) + us 10) (.check (r.kind :: r.tag :: r.params) (some high))).receive k
        low) := by
  have hlen : (byte1 (r.params.length + 2)).toNat = r.params.length + 2 := by
    simp only [byte1, BitVec.toNat_ofNat]
    omega
  have hreceive0 (l : List Instr) (t : Nat) :
      (s.framed k l t (s.port k).rx).receive k startByte = s.framed k l t .length := by
    rw [State.receive_hunt_start (by rw [State.framed_port]; exact hrx) rfl (by rw [State.framed_port]; exact hin),
      State.framed_setRx]
  have hreceive1 (l : List Instr) (t : Nat) : (s.framed k l t .length).receive k (byte1 (r.params.length + 2)) =
      s.framed k l t (.body (r.params.length + 2) []) := by
    rw [State.receive_length_good (by rw [State.framed_port]) (by omega), State.framed_setRx, hlen]
  have hreceive2 (l : List Instr) (t : Nat) (got : List Byte) :
      (s.framed k l t (.check got none)).receive k high = s.framed k l t (.check got (some high)) := by
    rw [State.receive_check_first (by rw [State.framed_port]), State.framed_setRx]
  have hstart (l : List Instr) (m : Nat) :
      Host.Core.run Sys2Proof.core (m + 1) { s with pending := frameChar k f 0 startByte :: l } =
        Host.Core.run Sys2Proof.core m (s.framed k l (f 0 + us 10) .length) := by
    refine run_cons ?_ m
    refine (exec_characterTaken_byte (q := { s with pending := l }) hreset (hidle 0) (.inl hrx)).trans (congrArg _ ?_)
    exact hreceive0 l (f 0 + us 10)
  rw [frameCommands, hstart, run_framed _ hreset (hidle 1) (hf 0) (hreceive1 _ _)]
  have hbody := run_body (i := 2) (t := f 1 + us 10) (got := []) (n := r.params.length + 2) (b := r.kind)
    [frameChar k f (r.params.length + 4) high, frameChar k f (r.params.length + 5) low] hreset hidle hf (r.tag :: r.params)
    (hf 1) (by simp) 2
  have hlast : f (2 + (r.tag :: r.params).length) = f (r.params.length + 3) := congrArg f (by rw [List.length_cons]; omega)
  rw [hlast, List.nil_append] at hbody
  refine Eq.trans hbody ?_
  rw [run_framed _ hreset (hidle _) (hf (r.params.length + 3)) (hreceive2 _ _ _)]
  exact run_cons (s := s.framed k _ _ _) (exec_characterTaken_framed [] hreset (hidle _) (hf (r.params.length + 4)).1
    (hf (r.params.length + 4)).2) 0

end Frame

/-- Settles O24: each character of the frame moves the decoder on, and the last one brings the request. -/
theorem requestFramesArriveCharacterByCharacter : Obligations.RequestFramesArriveCharacterByCharacter := by
  intro s k r f hreset hlength hrx hidle0 hin hf content crc frame level before changes t p q a
  have hidle (i : Nat) : (s.port k).lineIdle (f i) := by
    obtain ⟨hl, hc, hb, hx⟩ := hidle0
    refine ⟨hl, hc, hb, ?_⟩
    induction i with
    | zero => exact hx
    | succ i ih => exact ih.trans ((Nat.le_add_right _ _).trans (hf i).1)
  have hcommands : (frame.mapIdx fun i b => Instr.characterTaken (f i + us 10) k (changes b (f i))) =
      frameCommands k f r (crc.extractLsb' 8 8) (crc.extractLsb' 0 8) := (frameCommands_eq ..).symm
  have hspacing (i : Nat) : f i + us 10 ≤ f (i + 1) ∧ f (i + 1) < f i + us 10 + us 201 := by
    have hsum : us 211 = us 10 + us 201 := by decide
    obtain ⟨hle, hlt⟩ := hf i
    rw [hsum, ← Nat.add_assoc] at hlt
    exact ⟨hle, hlt⟩
  have hcrc : crc16 (byte1 (r.params.length + 2) :: r.kind :: r.tag :: r.params) =
      (crc.extractLsb' 8 8 ++ crc.extractLsb' 0 8 : BitVec 16) := (crcHigh_crcLow_iff crc _ _).mp ⟨rfl, rfl⟩
  have hhunt : s.framed k [] t .hunt = ({ s with pending := [] }.advance t).setPort k
      { p with lastCharEnd := t, seenTo := t } := by
    rw [State.framed, ← hrx]
  have hwaits : (s.framed k [] t .hunt).setPort k { (s.framed k [] t .hunt).port k with
      inbox := ((s.framed k [] t .hunt).port k).inbox ++ [r] } = q := by
    rw [hhunt, State.setPort_setPort, State.setPort_port, if_pos rfl]
  have hinbox : ((s.framed k [] t .hunt).port k).inbox = p.inbox := by rw [State.framed_port]
  rw [hcommands, run_frame _ _ hreset hrx hin hlength hidle hspacing,
    State.receive_check_last (by rw [State.framed_port]), if_pos hcrc, State.framed_setRx]
  have hjoin : (s.framed k [] t .hunt).join k r =
      if p.inbox = [] then a.state.sending k ⟨r.kind, r.tag, a.status.code, a.data⟩ else q := by
    by_cases hempty : p.inbox = []
    · rw [if_pos hempty, State.join_of_empty _ (hinbox.trans hempty)]
      rw [hinbox, hempty, List.nil_append] at hwaits
      rw [hwaits]
      rfl
    · rw [if_neg hempty, State.join_of_nonempty _ (by rw [hinbox]; exact hempty)]
      exact hwaits
  exact congrArg Host.Outcome.next hjoin

end Sys2Proof.Machine
end
